-- ==== Sys2Proof/Word.lean ====
section
/-!
DEFINITION. The word types of the QTA-7164 model and their plainest arithmetic.
Bit vectors hold what the spec treats as bits: register words, memory words, flit segments. Addresses, counts,
times and indices are natural numbers.
-/
namespace Sys2Proof

/-- One byte. -/
abbrev Byte := BitVec 8
/-- A control register (R32). -/
abbrev Word32 := BitVec 32
/-- A memory word: the unit that carries a poison mark (R294). -/
abbrev Word64 := BitVec 64
/-- A memory word with its eight check bits (R295): data in bits 63:0, check bits in bits 71:64. -/
abbrev Word72 := BitVec 72

/-- Sparse data by key: pairs of a key and a value in rising key order, no entry equal to what an unlisted key reads as. -/
abbrev Table (α : Type) := List (Nat × α)

/-- Saturating addition: `a + b`, at most `m`. -/
def satAdd (m a b : Nat) : Nat := min (a + b) m

end Sys2Proof
end

