-- ==== Sys2Proof/Syntax.lean ====
section
/-!
DEFINITION. The commands of the block: one constructor for each row of the spec's opcode table, with the operands that the
row's rule needs.
-/
namespace Sys2Proof

/-- A flit: nine segments of 128 bits with their 9 check bits (R257, R297), segment 0 first, and its virtual channel (R258). -/
structure Flit where
  segs : List (BitVec 137)
  vc   : Nat
  deriving DecidableEq, Repr, Inhabited


/-- The commands of the block, one for each row of the opcode table, in its order. The first operand of each is the rc edge
at which it happens (log entry 2). -/
inductive Instr where
  /-- CONTROL_REGISTER_WRITE (R545). -/
  | controlRegisterWrite (t id p : Nat) (ok : Bool)
  /-- NOC_REQUEST_ACCEPT (R25). -/
  | nocRequestAccept (t src stream code addr len : Nat) (data : List Byte) (marks : List Bool) (tag : Nat)
  /-- INTERFACE_SELF_ANSWER (R25). -/
  | interfaceSelfAnswer (t id : Nat)
  /-- UCLK_WRITE (R63). -/
  | uclkWrite (t src r k v : Nat)
  /-- UCLK_APPLY (R63). -/
  | uclkApply (t r k : Nat)
  /-- DECK_RAM_WINDOW_ACCESS (R54). -/
  | deckRamWindowAccess (t id p : Nat)
  /-- DECK_RAM_WINDOW_ROW_SERVE (R54). -/
  | deckRamWindowRowServe (t r k port : Nat)
  /-- DECK_RAM_WINDOW_TIMEOUT (R54). -/
  | deckRamWindowTimeout (t id p : Nat)
  /-- DECK_RAM_PORT_ACCESS (R51). -/
  | deckRamPortAccess (t r k port a : Nat) (w : Option Nat)
  /-- PLANE_PTR_WRITE (R84). -/
  | planePtrWrite (t src r v : Nat)
  /-- PLANE_CTL_RELEASE (R97). -/
  | planeCtlRelease (t src r v : Nat)
  /-- PLANE_CTL_ISOLATE (R96). -/
  | planeCtlIsolate (t src r v : Nat)
  /-- PLANE_CTL_SET_SCHED (R83). -/
  | planeCtlSetSched (t src r v : Nat)
  /-- PLANE_CTL_SET_DIRECT (R83). -/
  | planeCtlSetDirect (t src r v : Nat)
  /-- PLANE_REQUEST_AT_BEAM (R543). -/
  | planeRequestAtBeam (t r : Nat)
  /-- SWITCH (R79). -/
  | switch (t r : Nat)
  /-- REGION_RELEASE (R97). -/
  | regionRelease (t r : Nat)
  /-- REGION_ISOLATION (R96). -/
  | regionIsolation (t r : Nat)
  /-- STROBE_FIRE (R87). -/
  | strobeFire (t r k : Nat)
  /-- BANK_DISCARD (R75). -/
  | bankDiscard (t src r mask : Nat)
  /-- BANK_XFER_SAVE (R77). -/
  | bankXferSave (t src r b : Nat)
  /-- BANK_XFER_RESTORE (R77). -/
  | bankXferRestore (t src r b : Nat)
  /-- BANK_XFER_DONE (R77). -/
  | bankXferDone (t r : Nat)
  /-- NOC_RESPONSE_ARRIVAL (R276). -/
  | nocResponseArrival (t id p : Nat)
  /-- PARKED_RESPONSE_DELIVERY (R101). -/
  | parkedResponseDelivery (t r : Nat)
  /-- LOAD_GO (R119). -/
  | loadGo (t src v : Nat)
  /-- LOAD_VERIFY_GO (R132). -/
  | loadVerifyGo (t src v : Nat)
  /-- LOAD_CANCEL (R130). -/
  | loadCancel (t src v : Nat)
  /-- SEQUENCER_STEP_PHASE (R404). -/
  | sequencerStepPhase (t trained failed : Nat)
  /-- SEQUENCER_SERVICE_TURN (R404). -/
  | sequencerServiceTurn (t : Nat)
  /-- LOAD_SOURCE_RESPONSE (R123). -/
  | loadSourceResponse (t id p : Nat)
  /-- SETTINGS_RECORD_WRITE (R129). -/
  | settingsRecordWrite (t : Nat)
  /-- CFG_BOOT_SEL_WRITE (R140). -/
  | cfgBootSelWrite (t src v : Nat)
  /-- STORE_READ (R137). -/
  | storeRead (t src slot : Nat)
  /-- STORE_WRITE (R137). -/
  | storeWrite (t src slot : Nat)
  /-- GOLDEN_UNLOCK_WRITE (R136). -/
  | goldenUnlockWrite (t src : Nat)
  /-- TALLY_CREATE (R154). -/
  | tallyCreate (t id p : Nat)
  /-- TP_TOKEN (R160). -/
  | tpToken (t r handle slot value : Nat) (poison : Bool)
  /-- TOKEN_MATCH (R157). -/
  | tokenMatch (t : Nat) (miss : Bool)
  /-- RECORD_FETCH_DONE (R159). -/
  | recordFetchDone (t src : Nat)
  /-- SCHEDULER_DECISION (R164). -/
  | schedulerDecision (t : Nat)
  /-- DISPATCH_AT_BEAM (R166). -/
  | dispatchAtBeam (t r : Nat)
  /-- TASK_DONE (R161). -/
  | taskDone (t r : Nat)
  /-- TALLY_SPILL_ACK_WRITE (R172). -/
  | tallySpillAckWrite (t src n outcome : Nat)
  /-- TALLY_CANCEL_WRITE (R174). -/
  | tallyCancelWrite (t src handle : Nat)
  /-- CANCEL_EVALUATE (R174). -/
  | cancelEvaluate (t : Nat)
  /-- TALLY_REGION_QUIESCE_WRITE (R177). -/
  | tallyRegionQuiesceWrite (t src r : Nat) (v : Bool)
  /-- SCHEDULER_ISOLATION (R177). -/
  | schedulerIsolation (t r : Nat)
  /-- TEMPLATE_ENABLE (R152). -/
  | templateEnable (t src tm v : Nat)
  /-- TEMPLATE_DISABLE (R152). -/
  | templateDisable (t src tm v : Nat)
  /-- SPEC_COMMIT_AT_REGION (R191). -/
  | specCommitAtRegion (t r : Nat)
  /-- COMMIT_BUFFER_RELEASE (R191). -/
  | commitBufferRelease (t r : Nat)
  /-- SPEC_WINDOW_EXPIRY (R193). -/
  | specWindowExpiry (t r : Nat)
  /-- SQUASH_SWITCH (R198). -/
  | squashSwitch (t r : Nat)
  /-- XQ_POST (R216). -/
  | xqPost (t n : Nat)
  /-- XQ_WAIT (R217). -/
  | xqWait (t n : Nat)
  /-- WAIT_END (R218). -/
  | waitEnd (t n : Nat)
  /-- XQ_DONE (R219). -/
  | xqDone (t n : Nat)
  /-- ENGINE_DONE_REPORT (R162). -/
  | engineDoneReport (t n : Nat)
  /-- XQ_CANCEL (R220). -/
  | xqCancel (t n : Nat)
  /-- XQ_PSEL (R221). -/
  | xqPsel (t n : Nat)
  /-- PSEL_RESULT (R221). -/
  | pselResult (t n : Nat)
  /-- XQ_SACQ (R222). -/
  | xqSacq (t n : Nat)
  /-- XQ_SREL (R222). -/
  | xqSrel (t n : Nat)
  /-- XQ_PTEST (R223). -/
  | xqPtest (t n : Nat)
  /-- XQ_LD64 (R224). -/
  | xqLd64 (t n : Nat)
  /-- XQ_SD64 (R224). -/
  | xqSd64 (t n : Nat)
  /-- ENGINE_INSTRUCTION (R204). -/
  | engineInstruction (t n : Nat)
  /-- ENGINE_LOAD (R227). -/
  | engineLoad (t n : Nat)
  /-- ENGINE_LOAD_RESPONSE (R227). -/
  | engineLoadResponse (t n id p : Nat)
  /-- ENGINE_STORE (R228). -/
  | engineStore (t n : Nat)
  /-- ENGINE_AMO (R204). -/
  | engineAmo (t n : Nat)
  /-- ENGINE_FENCE (R211). -/
  | engineFence (t n : Nat)
  /-- ENGINE_FENCE_I (R205). -/
  | engineFenceI (t n : Nat)
  /-- INSTRUCTION_FETCH_LINE (R209). -/
  | instructionFetchLine (t n id p : Nat) (pre : Bool)
  /-- ENGINE_INTERRUPT (R229). -/
  | engineInterrupt (t n : Nat)
  /-- ENGINE_TIMER_EXPIRY (R229). -/
  | engineTimerExpiry (t n : Nat)
  /-- ENGINE_RESET (R231). -/
  | engineReset (t src n v : Nat)
  /-- ENGINE_RUN (R231). -/
  | engineRun (t src n : Nat)
  /-- ENGINE_HALT (R231). -/
  | engineHalt (t src n : Nat)
  /-- ENG_MBOX_IN_WRITE (R234). -/
  | engMboxInWrite (t src n v : Nat)
  /-- ENG_MBOX_OUT_WRITE (R234). -/
  | engMboxOutWrite (t src n v : Nat)
  /-- MBOX_NONCE (R233). -/
  | mboxNonce (t : Nat)
  /-- MBOX_UNLOCK_GOLDEN (R233). -/
  | mboxUnlockGolden (t : Nat)
  /-- SCR_HANDOVER_WRITE (R239). -/
  | scrHandoverWrite (t src b v : Nat)
  /-- HANDOVER_EVALUATE (R239). -/
  | handoverEvaluate (t b : Nat)
  /-- DRAIN_MARKER_ARRIVAL (R241). -/
  | drainMarkerArrival (t id p : Nat)
  /-- SCRATCH_CLEAR_DONE (R242). -/
  | scratchClearDone (t b : Nat)
  /-- HANDOVER_TIMEOUT (R243). -/
  | handoverTimeout (t b : Nat)
  /-- SCRATCH_ACCESS (R238). R246 and R247 choose the port that serves it, and `port` changes nothing (log entry 1). -/
  | scratchAccess (t id p port : Nat)
  /-- SCRATCH_CORRECTED_WRITEBACK (R249). -/
  | scratchCorrectedWriteback (t b : Nat)
  /-- FLIT_ARRIVAL (R263). -/
  | flitArrival (t n p : Nat) (f : Flit) (lost : Option (Nat × Nat))
  /-- LINK_NAK (R264). -/
  | linkNak (t n p q : Nat)
  /-- LINK_ACK (R264). -/
  | linkAck (t n p q : Nat)
  /-- LINK_ACK_SEND (R264). -/
  | linkAckSend (t n p : Nat)
  /-- BUCKET_LEAK (R269). -/
  | bucketLeak (t n p : Nat)
  /-- LINK_DEATH (R271). -/
  | linkDeath (t n p : Nat) (lost : List (Nat × Nat))
  /-- NOC_LINK_RETIRE_WRITE (R270). -/
  | nocLinkRetireWrite (t src n p : Nat)
  /-- NOC_RECOMPUTE (R267). -/
  | nocRecompute (t src : Nat)
  /-- NOC_FLIP (R268). -/
  | nocFlip (t src : Nat)
  /-- FLIP_COMPLETE (R268). -/
  | flipComplete (t : Nat)
  /-- NOC_LIMIT_WRITE (R275). -/
  | nocLimitWrite (t src : Nat) (init : Bool) (v : Nat)
  /-- NOC_RT_WRITE (R267). -/
  | nocRtWrite (t src n b d : Nat) (hi : Bool) (v : Nat)
  /-- TARGET_LIMIT_TIMEOUT (R274). -/
  | targetLimitTimeout (t id p : Nat)
  /-- INITIATOR_TIMEOUT (R275). -/
  | initiatorTimeout (t id : Nat)
  /-- STAT_SNAP (R280). -/
  | statSnap (t src : Nat)
  /-- FENCE_ACCEPT (R287). -/
  | fenceAccept (t src stream tag : Nat)
  /-- FENCE_PACKET_AT_TARGET (R288). -/
  | fencePacketAtTarget (t id p : Nat)
  /-- FENCE_COMPLETE (R289). -/
  | fenceComplete (t id : Nat)
  /-- WRITE_FAILURE_ACK_ARRIVAL (R291). -/
  | writeFailureAckArrival (t id p : Nat)
  /-- CACHE_REQUEST (R313). -/
  | cacheRequest (t id p : Nat)
  /-- CACHE_FILL_RESPONSE (R318). -/
  | cacheFillResponse (t id p : Nat)
  /-- CACHE_CORRECTED_WRITEBACK (R322). -/
  | cacheCorrectedWriteback (t n w : Nat)
  /-- CACHE_CMD_FLUSH (R320). -/
  | cacheCmdFlush (t src v : Nat)
  /-- CACHE_CMD_FLUSH_INV (R320). -/
  | cacheCmdFlushInv (t src v : Nat)
  /-- CACHE_CMD_SETUSE (R320). -/
  | cacheCmdSetuse (t src v : Nat)
  /-- SCRUB_GO (R324). -/
  | scrubGo (t src kind : Nat)
  /-- SCRUB_CANCEL (R328). -/
  | scrubCancel (t src kind : Nat)
  /-- SCRUB_REQUEST_SEND (R325). -/
  | scrubRequestSend (t : Nat)
  /-- SCRUB_REQUEST_AT_TARGET (R325). -/
  | scrubRequestAtTarget (t id p : Nat)
  /-- SCRUB_ANSWER (R328). -/
  | scrubAnswer (t id p : Nat)
  /-- REMAP_SET_MOVE (R331). -/
  | remapSetMove (t n : Nat)
  /-- CACHE_FILL_MODE (R321). -/
  | cacheFillMode (t : Nat)
  /-- FILL_END (R321). -/
  | fillEnd (t : Nat)
  /-- EMC_TRAIN (R336). -/
  | emcTrain (t src c v : Nat)
  /-- EMC_MAP (R337). -/
  | emcMap (t src v : Nat)
  /-- EMC_REQUEST (R339). -/
  | emcRequest (t id p : Nat)
  /-- FORWARD_ANSWER (R339). -/
  | forwardAnswer (t id p : Nat)
  /-- DRAM_READ_COMPLETE (R346). -/
  | dramReadComplete (t id p : Nat)
  /-- EMC_FILL_GO (R341). -/
  | emcFillGo (t src : Nat)
  /-- EMC_FILL_CANCEL (R341). -/
  | emcFillCancel (t src : Nat)
  /-- XTS_RANGE_ENABLE (R350). -/
  | xtsRangeEnable (t src j v : Nat)
  /-- XTS_RANGE_DISABLE (R350). -/
  | xtsRangeDisable (t src j v : Nat)
  /-- XTS_KEY_STAGE_WRITE (R351). -/
  | xtsKeyStageWrite (t src q v : Nat)
  /-- XTS_KEY_LOAD_CUR (R351). -/
  | xtsKeyLoadCur (t src key idx : Nat)
  /-- XTS_KEY_LOAD_NEW (R351). -/
  | xtsKeyLoadNew (t src key idx : Nat)
  /-- XTS_KEY_LOAD_SLOT (R351). -/
  | xtsKeyLoadSlot (t src key idx : Nat)
  /-- XTS_KEY_LOAD_LINK (R351). -/
  | xtsKeyLoadLink (t src key idx : Nat)
  /-- XTS_ROT_GO (R352). -/
  | xtsRotGo (t src j : Nat)
  /-- LANE_ENABLE (R379). -/
  | laneEnable (t src l v : Nat)
  /-- LANE_DISABLE (R379). -/
  | laneDisable (t src l v : Nat)
  /-- LANE_CAL_DONE (R379). -/
  | laneCalDone (t l : Nat)
  /-- LANE_PROF_GO (R363). -/
  | laneProfGo (t src l p : Nat)
  /-- LPROF_REQ (R363). -/
  | lprofReq (t l sel : Nat)
  /-- PROF_DONE (R363). -/
  | profDone (t l : Nat)
  /-- LANE_REALIGN (R366). -/
  | laneRealign (t src l p : Nat)
  /-- LANE_SLIP (R366). -/
  | laneSlip (t src l p : Nat)
  /-- SIGNAL_DETECT (R379). -/
  | signalDetect (t l : Nat)
  /-- SIGNAL_LOSS (R366). -/
  | signalLoss (t l : Nat)
  /-- RX_LOCK (R366). -/
  | rxLock (t l : Nat)
  /-- RX_LOCK_LOST (R366). -/
  | rxLockLost (t l : Nat)
  /-- LANE_RX_WORD (R369). -/
  | laneRxWord (t l u corr : Nat) (unc : Bool) (data side err : Nat)
  /-- FORWARD_STOP (R373). -/
  | forwardStop (t l : Nat)
  /-- LANE_TX_RETIMED (R373). -/
  | laneTxRetimed (t l : Nat)
  /-- LANE_TX_ACCEPT (R368). -/
  | laneTxAccept (t l data side : Nat)
  /-- LANE_TX_SLOT (R368). -/
  | laneTxSlot (t l u : Nat) (eidle : Bool)
  /-- SUBSTITUTION_ACCEPT (R372). -/
  | substitutionAccept (t l : Nat) (mode : Bool) (seq data side : Nat)
  /-- CAPTURE_ENABLE (R374). -/
  | captureEnable (t src l v : Nat)
  /-- CAPTURE_WRITE (R375). -/
  | captureWrite (t l : Nat)
  /-- HOST_CONFIG_REQUEST (R383). -/
  | hostConfigRequest (t d : Nat) (w : Option (Nat × Nat))
  /-- BAR0_READ (R384). -/
  | bar0Read (t tag off len : Nat)
  /-- BAR0_WRITE (R384). -/
  | bar0Write (t off : Nat) (data : List Byte) (ep : Bool)
  /-- BAR2_READ (R386). -/
  | bar2Read (t tag off len : Nat)
  /-- BAR2_WRITE (R386). -/
  | bar2Write (t off : Nat) (data : List Byte) (ep : Bool)
  /-- BAR4_TABLE_WRITE (R389). -/
  | bar4TableWrite (t off v : Nat)
  /-- SQ_TAIL_DOORBELL (R391). -/
  | sqTailDoorbell (t q v : Nat)
  /-- CQ_HEAD_DOORBELL (R391). -/
  | cqHeadDoorbell (t q v : Nat)
  /-- DESCRIPTOR_FETCH_RESPONSE (R392). -/
  | descriptorFetchResponse (t q idx status : Nat) (bytes : List Byte)
  /-- DESC_NOP (R394). -/
  | descNop (t q : Nat)
  /-- DESC_COPY (R396). -/
  | descCopy (t q : Nat)
  /-- DESC_REGSEQ (R397). -/
  | descRegseq (t q : Nat)
  /-- DESC_TOKEN (R398). -/
  | descToken (t q : Nat)
  /-- DESC_CANCEL (R398). -/
  | descCancel (t q : Nat)
  /-- DESC_CREATE (R398). -/
  | descCreate (t q : Nat)
  /-- DESC_FENCE (R398). -/
  | descFence (t q : Nat)
  /-- LEGACY_NOP (R399). -/
  | legacyNop (t q : Nat)
  /-- LEGACY_COPY (R399). -/
  | legacyCopy (t q : Nat)
  /-- LEGACY_REGWR (R399). -/
  | legacyRegwr (t q : Nat)
  /-- LEGACY_FENCE (R399). -/
  | legacyFence (t q : Nat)
  /-- COPY_COMPLETE (R396). -/
  | copyComplete (t d : Nat)
  /-- REGSEQ_POLL_TIMEOUT (R397). -/
  | regseqPollTimeout (t q : Nat)
  /-- COMPLETION_WRITE (R401). -/
  | completionWrite (t q : Nat)
  /-- BLOCK_IRQ_EDGE (R402). -/
  | blockIrqEdge (t k : Nat)
  /-- HOST_QUEUE_ENABLE (R390). -/
  | hostQueueEnable (t src q v : Nat)
  /-- HOST_QUEUE_DISABLE (R406). -/
  | hostQueueDisable (t src q v : Nat)
  /-- QUEUE_DRAINED (R390). -/
  | queueDrained (t q : Nat)
  /-- HOST_RETRAIN (R381). -/
  | hostRetrain (t src v : Nat)
  /-- HOST_LINK_DOWN (R406). -/
  | hostLinkDown (t : Nat)
  /-- PERST_ASSERT (R464). -/
  | perstAssert (t : Nat)
  /-- PERST_RELEASE (R464). -/
  | perstRelease (t : Nat)
  /-- HOST_WIN_ENABLE (R386). -/
  | hostWinEnable (t src k v : Nat)
  /-- HOST_WIN_BASE_WRITE (R386). -/
  | hostWinBaseWrite (t src k v : Nat)
  /-- PIN_OWN_WRITE (R415). -/
  | pinOwnWrite (t src p v : Nat)
  /-- PIN_FUNC_WRITE (R416). -/
  | pinFuncWrite (t src p v : Nat)
  /-- PIN_ELEC_WRITE (R409). -/
  | pinElecWrite (t src p v : Nat)
  /-- PIN_DRIVE_SWITCH (R419). -/
  | pinDriveSwitch (t p : Nat)
  /-- PIN_ISEL_WRITE (R420). -/
  | pinIselWrite (t src q v : Nat)
  /-- PIN_OUT_WRITE (R417). -/
  | pinOutWrite (t src w v : Nat)
  /-- PIN_OE_WRITE (R417). -/
  | pinOeWrite (t src w v : Nat)
  /-- TRIGGER_INPUT_EDGE (R426). -/
  | triggerInputEdge (t c : Nat) (rising : Bool)
  /-- TRIGGER_FIRE (R426). -/
  | triggerFire (t src c v : Nat)
  /-- TRIG_TS_POP (R427). -/
  | trigTsPop (t id p : Nat)
  /-- TRIG_ARM (R428). -/
  | trigArm (t src c v : Nat)
  /-- ARM_TIME_REACHED (R428). -/
  | armTimeReached (t c : Nat)
  /-- PULSE_END (R428). -/
  | pulseEnd (t c : Nat)
  /-- UART_DATA_WRITE (R430). -/
  | uartDataWrite (t src u v : Nat)
  /-- UART_DATA_READ (R430). -/
  | uartDataRead (t id p : Nat)
  /-- UART_RX_BYTE (R430). -/
  | uartRxByte (t u b : Nat) (ferr perr : Bool)
  /-- UART_TX_BYTE_DONE (R430). -/
  | uartTxByteDone (t u : Nat)
  /-- SPI_DATA_WRITE (R430). -/
  | spiDataWrite (t src u v : Nat)
  /-- SPI_TRANSFER_END (R430). -/
  | spiTransferEnd (t u rx : Nat)
  /-- I2C_CMD (R430). -/
  | i2cCmd (t src u v : Nat)
  /-- I2C_COMMAND_END (R430). -/
  | i2cCommandEnd (t u : Nat) (lost ack : Bool) (rdata : Nat)
  /-- CLOCK_TRIP (R437). -/
  | clockTrip (t cause : Nat)
  /-- FALLBACK_START (R439). -/
  | fallbackStart (t : Nat)
  /-- AUTO_RETURN (R440). -/
  | autoReturn (t : Nat)
  /-- REFERENCE_READY (R433). -/
  | referenceReady (t k : Nat)
  /-- CLK_SRC_GO (R441). -/
  | clkSrcGo (t src sel : Nat)
  /-- SOURCE_SWITCH_LOCK (R442). -/
  | sourceSwitchLock (t : Nat) (ok : Bool) (cause : Nat)
  /-- INT_EN_WRITE (R443). -/
  | intEnWrite (t src v : Nat)
  /-- CLK_GATE_REQUEST (R445). -/
  | clkGateRequest (t src g : Nat) (force : Bool)
  /-- GATE_IDLE (R446). -/
  | gateIdle (t g : Nat)
  /-- GATE_TIMEOUT (R446). -/
  | gateTimeout (t g : Nat)
  /-- CLK_UNGATE (R447). -/
  | clkUngate (t src g : Nat) (force : Bool)
  /-- PWR_DOM_OFF_WRITE (R452). -/
  | pwrDomOffWrite (t src d v : Nat)
  /-- DOMAIN_DRAINING (R452). -/
  | domainDraining (t d : Nat)
  /-- DOMAIN_OFF (R453). -/
  | domainOff (t d : Nat)
  /-- PWR_DOM_ON_WRITE (R456). -/
  | pwrDomOnWrite (t src d v : Nat)
  /-- DOMAIN_ON (R457). -/
  | domainOn (t d : Nat)
  /-- POWER_ON_RESET (R459). -/
  | powerOnReset (t : Nat)
  /-- DEVICE_RESET (R459). -/
  | deviceReset (t src v : Nat)
  /-- WARM_RESET (R463). -/
  | warmReset (t src v : Nat)
  /-- WARM_RESET_RELEASE (R463). -/
  | warmResetRelease (t : Nat)
  /-- DIE_RESET_ASSERT (R461). -/
  | dieResetAssert (t src k : Nat)
  /-- DIE_RESET_RELEASE (R461). -/
  | dieResetRelease (t k : Nat) (w : Option Nat)
  /-- ROD_RESET_WRITE (R461). -/
  | rodResetWrite (t src n v : Nat)
  /-- ROD_RESET_MIN_RELEASE (R461). -/
  | rodResetMinRelease (t n : Nat)
  /-- MODE_QUIESCE (R469). -/
  | modeQuiesce (t src v : Nat)
  /-- MODE_RESUME (R469). -/
  | modeResume (t src v : Nat)
  /-- MODE_STANDBY (R470). -/
  | modeStandby (t src v : Nat) (ok : Bool)
  /-- MODE_WAKE (R470). -/
  | modeWake (t src v : Nat)
  /-- PWRGOOD_RISE (R521). -/
  | pwrgoodRise (t : Nat)
  /-- POWER_UP_END (R468). -/
  | powerUpEnd (t : Nat) (vio : List Nat) (vias : List (Nat × Nat)) (faulty : Bool)
  /-- PWRGOOD_FALL (R521). -/
  | pwrgoodFall (t : Nat)
  /-- POWER_FAIL_INTERVAL_END (R521). -/
  | powerFailIntervalEnd (t : Nat)
  /-- RAIL_MONITOR_TRIP (R518). -/
  | railMonitorTrip (t : Nat)
  /-- THERMAL_TRIP (R527). -/
  | thermalTrip (t : Nat)
  /-- SWEEP_START (R479). -/
  | sweepStart (t : Nat)
  /-- STACK_CHECK_NOW (R479). -/
  | stackCheckNow (t src v : Nat)
  /-- GROUP_OBSERVATION_END (R480). -/
  | groupObservationEnd (t g : Nat) (faults : List (Nat × Nat))
  /-- PAUSE_END (R481). -/
  | pauseEnd (t g : Nat)
  /-- DEFERRED_PAUSE_START (R482). -/
  | deferredPauseStart (t g : Nat)
  /-- FUSE_BLOW (R477). -/
  | fuseBlow (t g v : Nat)
  /-- WEAR_SAMPLE (R486). -/
  | wearSample (t : Nat) (temps : List Nat)
  /-- LEDGER_RECORD_WRITE (R488). -/
  | ledgerRecordWrite (t : Nat) (ok : Bool)
  /-- STACK_SAVE (R488). -/
  | stackSave (t src v : Nat) (ok : Bool)
  /-- ALINK_PORT_UP (R491). -/
  | alinkPortUp (t p ver : Nat)
  /-- ALINK_PORT_LOST (R491). -/
  | alinkPortLost (t p : Nat)
  /-- ALINK_RETRY_LIMIT (R493). -/
  | alinkRetryLimit (t p : Nat)
  /-- ALINK_DATA_FRAME (R504). -/
  | alinkDataFrame (t p : Nat) (bytes : List Byte) (resp : Bool) (ans : Option (Nat × Nat))
  /-- ALINK_NAK (R493). -/
  | alinkNak (t p : Nat) (bytes : List Byte)
  /-- ALINK_IDLE (R492). -/
  | alinkIdle (t p : Nat) (bytes : List Byte)
  /-- BEACON (R497). -/
  | beacon (t p : Nat) (bytes : List Byte)
  /-- BEACON_SEND (R496). -/
  | beaconSend (t p : Nat)
  /-- DEVICE_SETTLE (R499). -/
  | deviceSettle (t : Nat)
  /-- PORT_ABSENT_TIMEOUT (R500). -/
  | portAbsentTimeout (t p : Nat)
  /-- FOREIGN_TIMEOUT (R496). -/
  | foreignTimeout (t p : Nat)
  /-- DELIVERY (R504). -/
  | delivery (t p : Nat) (bytes : List Byte) (id k : Nat)
  /-- ALINK_RT_WRITE (R502). -/
  | alinkRtWrite (t src b d v : Nat)
  /-- PAIR_ARM (R507). -/
  | pairArm (t src port : Nat)
  /-- PAIR_READY (R507). -/
  | pairReady (t p : Nat) (bytes : List Byte)
  /-- PAIRED_RUN_ENTRY (R509). -/
  | pairedRunEntry (t edge : Nat)
  /-- PAIR_WINDOW_END (R510). -/
  | pairWindowEnd (t : Nat)
  /-- PAIR_SIG (R510). -/
  | pairSig (t p : Nat) (bytes : List Byte)
  /-- PAIR_LINK_TIMEOUT (R511). -/
  | pairLinkTimeout (t : Nat)
  /-- PAIR_HALT (R511). -/
  | pairHalt (t p : Nat) (bytes : List Byte)
  /-- ALINK_PAIR_LEAVE_WRITE (R512). -/
  | alinkPairLeaveWrite (t src : Nat)
  /-- PAIR_LEAVE (R512). -/
  | pairLeave (t p : Nat) (bytes : List Byte) (retired : Bool)
  /-- PAIR_LEAVE_END (R512). -/
  | pairLeaveEnd (t : Nat)
  /-- ENGINE_SELECT_AT_BEAM (R85). -/
  | engineSelectAtBeam (t r : Nat)
  /-- HOST_LINK_UP (R383). -/
  | hostLinkUp (t gen width : Nat)
  /-- DMA_HOST_READ_COMPLETION (R388). -/
  | dmaHostReadCompletion (t d status : Nat) (bytes : List Byte)
  /-- LANE_HOLDOVER_END (R436). -/
  | laneHoldoverEnd (t : Nat)
  /-- REFERENCE_READY_LOSS (R433). -/
  | referenceReadyLoss (t k : Nat)
  /-- UART_CTS_CHANGE (R430). -/
  | uartCtsChange (t u : Nat) (cts : Bool)
  deriving DecidableEq, Repr

end Sys2Proof
end

