-- ==== Sys2Proof/Decode.lean ====
section
/-!
DEFINITION. The command that a word spells. The opcode table gives its rows no bits, so no word spells a command.
-/
namespace Sys2Proof

/-- The command whose row has `nbits` bits equal to `w`: none, for no row of the table has bits. -/
def decodeTableWord (_nbits _w : Nat) : Option Instr := none

end Sys2Proof
end

