-- ==== Sys2Proof/Config.lean ====
section
/-!
DEFINITION. What one device or one run fixes and the spec leaves open: the free values, and the fuses of a device.
A free value is an opaque constant applied to a number drawn from the state's counter `fresh`: no proof can learn
what it is (log entry 6).
-/
namespace Sys2Proof

/-- The fuses of one device (R33, R34, R135, R232, R477): read during POWER-UP and never changed by the operations
that only read them. -/
structure Fuses where
  step : Nat
  metal : Nat
  secureFused : Bool
  industrial : Bool
  speed : Nat
  secureBoot : Bool
  serial : Nat
  /-- The 64-bit die IDs of stack positions 0–7 (R34). -/
  dieId : List Nat
  /-- The device image key, where provisioned (R144 CFG_SEC_INFO.IMGKEY). -/
  imgKey : Option (List Byte)
  keyPresent : Nat
  keyRevoked : Nat
  /-- SHA-384 hashes of the signing keys of slots 0–3. -/
  keyHash : List (List Byte)
  /-- CFG_STORE_GOLDEN.PROTECTED. -/
  protected_ : Bool
  /-- The fuse entries of the via groups: bad positions, ascending, by group identifier (R476). -/
  vias : Table (List Nat)
  deriving DecidableEq, Repr, Inhabited

/-- The strap balls of one device on its board (R440, R494): sampled during POWER-UP. -/
structure Straps where
  clksel : Nat
  brdX : Nat
  brdY : Nat
  root : Bool
  deriving DecidableEq, Repr, Inhabited

/-- What a selector of a bead's inputs picks (R42, R44): one of the local tracks that beads drive, by column, row and track, or another
source: a received line, a port, a reckon or deck RAM output. -/
inductive Tap where
  | other
  | track (col row t : Nat)
  deriving DecidableEq, Repr, Inhabited

/-- The outputs of a region that leave it through a border cell and carry a policy (R48, R99): neighbour lines and long lines by side (0 N,
1 E, 2 S, 3 W) and number, rod channels, carry cascades by column, and pin output ports. -/
inductive BorderLine where
  | nbr (side i : Nat)
  | long (side i : Nat)
  | rod (j : Nat)
  | casc (c : Nat)
  | pin (p : Nat)
  deriving DecidableEq, Repr, Inhabited

namespace Config

/-- The straps of the device: any (log entry 7). -/
opaque straps : Straps

/-- The fuses of the device: any (log entry 7). -/
opaque fuses : Fuses
/-- An unpredictable memory word with its check bits (R8, R55, R236). -/
opaque freeWord72 : Nat → Word72
/-- An unpredictable word of data (R8, R10). -/
opaque freeWord : Nat → Word64
/-- Byte `i` of an unpredictable run of bytes. -/
opaque freeByte : Nat → Nat → Byte
/-- What the image store held when the model's run began, by 64-bit word: slot × 4,194,304 + word (R135; log entry 5). -/
opaque storeImage : Nat → Word64
/-- The mask ROM of engine 0, by 64-bit word: the spec gives its duties (R232) and not its contents (log entry 22). -/
opaque maskRom : Nat → Word64
/-- mtval of an illegal-instruction exception and of a breakpoint, which the base specification leaves to the implementation (log
entry 23): from the instruction word, and from the pc. -/
opaque illegalTval : Word32 → Word32
opaque breakTval : Word32 → Word32
/-- What the base specification leaves to the implementation of marchid, mimpid and mvendorid (log entry 23). -/
opaque csrId : Nat → Word32
/-- An unpredictable natural number: a status, a count or a level, reduced by its user to the range the spec gives. -/
opaque freeNat : Nat → Nat

/-- The routing that the spec leaves to the toolchain (log entry 81): what selector `v` of the bead at column `c`, row `k` picks. -/
opaque pick : Nat → Nat → Nat → Tap
/-- What only the routing knows of region `r` after fabric edge `f` (log entry 81): the value at a selector whose source is no single bead
output of the region (by column, row and selector), and at a loop of combinational logic. -/
opaque wire : Nat → Nat → Nat → Nat → Nat → Bool
opaque loop : Nat → Nat → Bool
/-- The operands A, B, D and C (0–3) that routing brings to the reckon block of a column (log entry 81): by region, edge, column, operand. -/
opaque operand : Nat → Nat → Nat → Nat → Nat
/-- What a design gives a border cell after fabric edge `f` (log entry 81): the value, and the output enable of a pin output port. -/
opaque line : Nat → Nat → BorderLine → Bool
opaque lineOn : Nat → Nat → BorderLine → Bool
/-- Whether a flip-flop's set or reset acts while its clock enable is low: R39 does not say (log entry 86). -/
opaque setFirst : Bool
/-- The slice and set, as slice × 16,384 + set, where a line of a load's dictionary is staged (R112; log entry 90). -/
opaque stageSet : Nat → Nat
/-- How the opaque product stage of a transfer image is written (R78; log entry 86): its bits are the product's under this mask. -/
opaque stageMask : Word64

/-- Configuration space words whose place or content the spec leaves to the PCI Express base specification: what dword `d` reads as after
`v` was written last (R382; log entry 27), and the dword of the MSI-X capability that holds its enable and function mask. -/
opaque cfgWord : Nat → Word32 → Word32
opaque msixDword : Nat

/-- The CRC of a window of paired run: the spec names what it covers and not in which order the bytes are taken (R510; log entry 28). -/
opaque pairCrc : Nat → List Nat → Nat

end Config
end Sys2Proof
end

