-- ==== Sys2Proof/Machine/RegMap.lean ====
section
/-!
DEFINITION. The control register map: every register that the chapters of the spec list, with its offset from
0x00F0_0000_0000 (R31), its indices, its fields with their types (R4) and its reset word. Each entry names the rule it is taken from.
A bit that no field covers is reserved: it reads as zero (R5).
-/
namespace Sys2Proof.Machine

/-- The register field types of R4. -/
inductive FieldType where
  | rw | ro | w1c | w1s | wo | rwl | rwo
  deriving DecidableEq, Repr

/-- A field of a control register: its bits `hi:lo` and its type (R4). -/
structure Field where
  hi : Nat
  lo : Nat
  ty : FieldType
  deriving DecidableEq, Repr

/-- One row of a register map: the offset of the first register, the count and stride of each index,
the word that every register of the row holds after reset, and the fields. -/
structure RegRow where
  base   : Nat
  dims   : List (Nat × Nat)
  reset  : Nat
  fields : List Field
  deriving DecidableEq, Repr

/-! ### DEV span, 0x0 – 0xFFFF (R31) -/

/-- DEV_ID: R33, 01_stack_and_rods.md. -/
def Reg.DEV_ID : Nat := 0x0
def Fld.DEV_ID_PART : Field := ⟨31, 16, .ro⟩
def Fld.DEV_ID_VENDOR : Field := ⟨15, 0, .ro⟩
/-- DEV_REV: R33, 01_stack_and_rods.md. -/
def Reg.DEV_REV : Nat := 0x4
def Fld.DEV_REV_STEP : Field := ⟨15, 8, .ro⟩
def Fld.DEV_REV_METAL : Field := ⟨7, 0, .ro⟩
/-- DEV_CAPS: R33, 01_stack_and_rods.md. -/
def Reg.DEV_CAPS : Nat := 0x8
def Fld.DEV_CAPS_SECURE_FUSED : Field := ⟨3, 3, .ro⟩
def Fld.DEV_CAPS_INDUSTRIAL : Field := ⟨2, 2, .ro⟩
def Fld.DEV_CAPS_SPEED : Field := ⟨1, 0, .ro⟩
/-- DEV_STATUS: R33, 01_stack_and_rods.md. -/
def Reg.DEV_STATUS : Nat := 0xC
def Fld.DEV_STATUS_BOOT_SLOT : Field := ⟨6, 5, .ro⟩
def Fld.DEV_STATUS_SECURE_BOOT : Field := ⟨4, 4, .ro⟩
def Fld.DEV_STATUS_MODE : Field := ⟨3, 0, .ro⟩
/-- DEV_SERIAL_LO: R33, 01_stack_and_rods.md. -/
def Reg.DEV_SERIAL_LO : Nat := 0x10
def Fld.DEV_SERIAL_LO_SERIAL : Field := ⟨31, 0, .ro⟩
/-- DEV_SERIAL_HI: R33, 01_stack_and_rods.md. -/
def Reg.DEV_SERIAL_HI : Nat := 0x14
def Fld.DEV_SERIAL_HI_SERIAL : Field := ⟨31, 0, .ro⟩
/-- DEV_BOARD: R33, 01_stack_and_rods.md. -/
def Reg.DEV_BOARD : Nat := 0x18
def Fld.DEV_BOARD_DEVNUM : Field := ⟨3, 0, .ro⟩
/-- DEV_DIE_ID_LO(k): R33, 01_stack_and_rods.md. -/
def Reg.DEV_DIE_ID_LO (k : Nat) : Nat := 0x40 + 0x8 * k
def Fld.DEV_DIE_ID_LO_ID : Field := ⟨31, 0, .ro⟩
/-- DEV_DIE_ID_HI(k): R33, 01_stack_and_rods.md. -/
def Reg.DEV_DIE_ID_HI (k : Nat) : Nat := 0x44 + 0x8 * k
def Fld.DEV_DIE_ID_HI_ID : Field := ⟨31, 0, .ro⟩
/-- DEV_STACK_SIG(i): R33, 01_stack_and_rods.md. -/
def Reg.DEV_STACK_SIG (i : Nat) : Nat := 0x80 + 0x4 * i
def Fld.DEV_STACK_SIG_SIG : Field := ⟨31, 0, .ro⟩
/-- DEV_PSN_LOG: R309, 10_ordering_poison_recovery.md. -/
def Reg.DEV_PSN_LOG : Nat := 0x200
def Fld.DEV_PSN_LOG_VALID : Field := ⟨31, 31, .w1c⟩
def Fld.DEV_PSN_LOG_MORE : Field := ⟨30, 30, .w1c⟩
def Fld.DEV_PSN_LOG_KIND : Field := ⟨13, 12, .ro⟩
def Fld.DEV_PSN_LOG_PATH : Field := ⟨11, 10, .ro⟩
def Fld.DEV_PSN_LOG_BANK : Field := ⟨9, 8, .ro⟩
def Fld.DEV_PSN_LOG_ID : Field := ⟨6, 0, .ro⟩
/-- DEV_PSN_CNT_ENG: R309, 10_ordering_poison_recovery.md. -/
def Reg.DEV_PSN_CNT_ENG : Nat := 0x204
def Fld.DEV_PSN_CNT_ENG_COUNT : Field := ⟨31, 0, .rw⟩
/-- DEV_PSN_CNT_FAB: R309, 10_ordering_poison_recovery.md. -/
def Reg.DEV_PSN_CNT_FAB : Nat := 0x208
def Fld.DEV_PSN_CNT_FAB_COUNT : Field := ⟨31, 0, .rw⟩
/-- DEV_PSN_CNT_HOST: R309, 10_ordering_poison_recovery.md. -/
def Reg.DEV_PSN_CNT_HOST : Nat := 0x20C
def Fld.DEV_PSN_CNT_HOST_COUNT : Field := ⟨31, 0, .rw⟩
/-- DEV_WERR_LOG: R309, 10_ordering_poison_recovery.md. -/
def Reg.DEV_WERR_LOG : Nat := 0x210
def Fld.DEV_WERR_LOG_VALID : Field := ⟨31, 31, .w1c⟩
def Fld.DEV_WERR_LOG_MORE : Field := ⟨30, 30, .w1c⟩
def Fld.DEV_WERR_LOG_BANK : Field := ⟨18, 17, .ro⟩
def Fld.DEV_WERR_LOG_STREAM : Field := ⟨16, 14, .ro⟩
def Fld.DEV_WERR_LOG_CODE : Field := ⟨11, 8, .ro⟩
def Fld.DEV_WERR_LOG_SRC : Field := ⟨7, 0, .ro⟩
/-- DEV_WERR_ADDR_LO: R309, 10_ordering_poison_recovery.md. -/
def Reg.DEV_WERR_ADDR_LO : Nat := 0x214
def Fld.DEV_WERR_ADDR_LO_ADDR : Field := ⟨31, 0, .ro⟩
/-- DEV_WERR_ADDR_HI: R309, 10_ordering_poison_recovery.md. -/
def Reg.DEV_WERR_ADDR_HI : Nat := 0x218
def Fld.DEV_WERR_ADDR_HI_ADDR : Field := ⟨19, 0, .ro⟩

/-- Rows of the DEV span, part 0. -/
def rowsDEV0 : List RegRow := [
  ⟨0x0, [], 0x71642A1D, [Fld.DEV_ID_PART, Fld.DEV_ID_VENDOR]⟩,
  ⟨0x4, [], 0x0, [Fld.DEV_REV_STEP, Fld.DEV_REV_METAL]⟩,
  ⟨0x8, [], 0x0, [Fld.DEV_CAPS_SECURE_FUSED, Fld.DEV_CAPS_INDUSTRIAL, Fld.DEV_CAPS_SPEED]⟩,
  ⟨0xC, [], 0x1, [Fld.DEV_STATUS_BOOT_SLOT, Fld.DEV_STATUS_SECURE_BOOT, Fld.DEV_STATUS_MODE]⟩,
  ⟨0x10, [], 0x0, [Fld.DEV_SERIAL_LO_SERIAL]⟩,
  ⟨0x14, [], 0x0, [Fld.DEV_SERIAL_HI_SERIAL]⟩,
  ⟨0x18, [], 0x0, [Fld.DEV_BOARD_DEVNUM]⟩,
  ⟨0x40, [(8, 0x8)], 0x0, [Fld.DEV_DIE_ID_LO_ID]⟩,
  ⟨0x44, [(8, 0x8)], 0x0, [Fld.DEV_DIE_ID_HI_ID]⟩,
  ⟨0x80, [(4, 0x4)], 0x0, [Fld.DEV_STACK_SIG_SIG]⟩,
  ⟨0x200, [], 0x0, [Fld.DEV_PSN_LOG_VALID, Fld.DEV_PSN_LOG_MORE, Fld.DEV_PSN_LOG_KIND, Fld.DEV_PSN_LOG_PATH, Fld.DEV_PSN_LOG_BANK, Fld.DEV_PSN_LOG_ID]⟩,
  ⟨0x204, [], 0x0, [Fld.DEV_PSN_CNT_ENG_COUNT]⟩]
/-- Rows of the DEV span, part 1. -/
def rowsDEV1 : List RegRow := [
  ⟨0x208, [], 0x0, [Fld.DEV_PSN_CNT_FAB_COUNT]⟩,
  ⟨0x20C, [], 0x0, [Fld.DEV_PSN_CNT_HOST_COUNT]⟩,
  ⟨0x210, [], 0x0, [Fld.DEV_WERR_LOG_VALID, Fld.DEV_WERR_LOG_MORE, Fld.DEV_WERR_LOG_BANK, Fld.DEV_WERR_LOG_STREAM, Fld.DEV_WERR_LOG_CODE, Fld.DEV_WERR_LOG_SRC]⟩,
  ⟨0x214, [], 0x0, [Fld.DEV_WERR_ADDR_LO_ADDR]⟩,
  ⟨0x218, [], 0x0, [Fld.DEV_WERR_ADDR_HI_ADDR]⟩]
def rowsDEV : List RegRow := rowsDEV0 ++ rowsDEV1

/-! ### CLK span, 0x10000 – 0x1FFFF (R31) -/

/-- CLK_CTL: R448, 16_clocks.md. -/
def Reg.CLK_CTL : Nat := 0x10000
def Fld.CLK_CTL_PREF : Field := ⟨7, 6, .rw⟩
def Fld.CLK_CTL_INT_EN : Field := ⟨2, 2, .rw⟩
def Fld.CLK_CTL_AUTO_RETURN : Field := ⟨1, 1, .rw⟩
def Fld.CLK_CTL_AUTO_FALLBACK : Field := ⟨0, 0, .rw⟩
/-- CLK_STATUS: R448, 16_clocks.md. -/
def Reg.CLK_STATUS : Nat := 0x10004
def Fld.CLK_STATUS_LOCK : Field := ⟨31, 31, .ro⟩
def Fld.CLK_STATUS_COAST : Field := ⟨30, 30, .ro⟩
def Fld.CLK_STATUS_SWITCHING : Field := ⟨29, 29, .ro⟩
def Fld.CLK_STATUS_LANE_HOLD : Field := ⟨28, 28, .ro⟩
def Fld.CLK_STATUS_FB_WAIT : Field := ⟨27, 27, .ro⟩
def Fld.CLK_STATUS_SRC : Field := ⟨9, 8, .ro⟩
def Fld.CLK_STATUS_READY_INT : Field := ⟨2, 2, .ro⟩
def Fld.CLK_STATUS_READY_LOCAL : Field := ⟨1, 1, .ro⟩
def Fld.CLK_STATUS_READY_CHASSIS : Field := ⟨0, 0, .ro⟩
/-- CLK_SRC_CTL: R448, 16_clocks.md. -/
def Reg.CLK_SRC_CTL : Nat := 0x10008
def Fld.CLK_SRC_CTL_GO : Field := ⟨31, 31, .wo⟩
def Fld.CLK_SRC_CTL_SEL : Field := ⟨1, 0, .rw⟩
/-- CLK_SRC_RESULT: R448, 16_clocks.md. -/
def Reg.CLK_SRC_RESULT : Nat := 0x1000C
def Fld.CLK_SRC_RESULT_DONE : Field := ⟨31, 31, .w1c⟩
def Fld.CLK_SRC_RESULT_OUTCOME : Field := ⟨19, 16, .ro⟩
def Fld.CLK_SRC_RESULT_BY : Field := ⟨9, 8, .ro⟩
def Fld.CLK_SRC_RESULT_TARGET : Field := ⟨1, 0, .ro⟩
/-- CLK_TRIP_LOG: R448, 16_clocks.md. -/
def Reg.CLK_TRIP_LOG : Nat := 0x10018
def Fld.CLK_TRIP_LOG_VALID : Field := ⟨31, 31, .w1c⟩
def Fld.CLK_TRIP_LOG_MORE : Field := ⟨30, 30, .w1c⟩
def Fld.CLK_TRIP_LOG_SRC : Field := ⟨9, 8, .ro⟩
def Fld.CLK_TRIP_LOG_CAUSE : Field := ⟨0, 0, .ro⟩
/-- CLK_INT_STATUS: R448, 16_clocks.md. -/
def Reg.CLK_INT_STATUS : Nat := 0x10010
def Fld.CLK_INT_STATUS_GATE : Field := ⟨4, 4, .w1c⟩
def Fld.CLK_INT_STATUS_INT_REFUSED : Field := ⟨3, 3, .w1c⟩
def Fld.CLK_INT_STATUS_SWITCH_DONE : Field := ⟨2, 2, .w1c⟩
def Fld.CLK_INT_STATUS_RELOCK : Field := ⟨1, 1, .w1c⟩
def Fld.CLK_INT_STATUS_TRIP : Field := ⟨0, 0, .w1c⟩
/-- CLK_INT_EN: R448, 16_clocks.md. -/
def Reg.CLK_INT_EN : Nat := 0x10014
def Fld.CLK_INT_EN_GATE : Field := ⟨4, 4, .rw⟩
def Fld.CLK_INT_EN_INT_REFUSED : Field := ⟨3, 3, .rw⟩
def Fld.CLK_INT_EN_SWITCH_DONE : Field := ⟨2, 2, .rw⟩
def Fld.CLK_INT_EN_RELOCK : Field := ⟨1, 1, .rw⟩
def Fld.CLK_INT_EN_TRIP : Field := ⟨0, 0, .rw⟩
/-- CLK_COAST_CNT_LO: R448, 16_clocks.md. -/
def Reg.CLK_COAST_CNT_LO : Nat := 0x10020
def Fld.CLK_COAST_CNT_LO_COUNT : Field := ⟨31, 0, .rw⟩
/-- CLK_COAST_CNT_HI: R448, 16_clocks.md. -/
def Reg.CLK_COAST_CNT_HI : Nat := 0x10024
def Fld.CLK_COAST_CNT_HI_COUNT : Field := ⟨15, 0, .rw⟩
/-- CLK_GATE_CTL(g): R448, 16_clocks.md. -/
def Reg.CLK_GATE_CTL (g : Nat) : Nat := 0x11000 + 0x8 * g
def Fld.CLK_GATE_CTL_GATE : Field := ⟨31, 31, .rw⟩
def Fld.CLK_GATE_CTL_FORCE : Field := ⟨30, 30, .rw⟩
/-- CLK_GATE_STATUS(g): R448, 16_clocks.md. -/
def Reg.CLK_GATE_STATUS (g : Nat) : Nat := 0x11004 + 0x8 * g
def Fld.CLK_GATE_STATUS_STATE : Field := ⟨31, 30, .ro⟩
def Fld.CLK_GATE_STATUS_OUTCOME : Field := ⟨19, 16, .ro⟩
def Fld.CLK_GATE_STATUS_WAITED : Field := ⟨8, 0, .ro⟩

/-- Rows of the CLK span, part 0. -/
def rowsCLK0 : List RegRow := [
  ⟨0x10000, [], 0x7, [Fld.CLK_CTL_PREF, Fld.CLK_CTL_INT_EN, Fld.CLK_CTL_AUTO_RETURN, Fld.CLK_CTL_AUTO_FALLBACK]⟩,
  ⟨0x10004, [], 0x200, [Fld.CLK_STATUS_LOCK, Fld.CLK_STATUS_COAST, Fld.CLK_STATUS_SWITCHING, Fld.CLK_STATUS_LANE_HOLD, Fld.CLK_STATUS_FB_WAIT, Fld.CLK_STATUS_SRC, Fld.CLK_STATUS_READY_INT, Fld.CLK_STATUS_READY_LOCAL, Fld.CLK_STATUS_READY_CHASSIS]⟩,
  ⟨0x10008, [], 0x0, [Fld.CLK_SRC_CTL_GO, Fld.CLK_SRC_CTL_SEL]⟩,
  ⟨0x1000C, [], 0x0, [Fld.CLK_SRC_RESULT_DONE, Fld.CLK_SRC_RESULT_OUTCOME, Fld.CLK_SRC_RESULT_BY, Fld.CLK_SRC_RESULT_TARGET]⟩,
  ⟨0x10018, [], 0x0, [Fld.CLK_TRIP_LOG_VALID, Fld.CLK_TRIP_LOG_MORE, Fld.CLK_TRIP_LOG_SRC, Fld.CLK_TRIP_LOG_CAUSE]⟩,
  ⟨0x10010, [], 0x0, [Fld.CLK_INT_STATUS_GATE, Fld.CLK_INT_STATUS_INT_REFUSED, Fld.CLK_INT_STATUS_SWITCH_DONE, Fld.CLK_INT_STATUS_RELOCK, Fld.CLK_INT_STATUS_TRIP]⟩,
  ⟨0x10014, [], 0x0, [Fld.CLK_INT_EN_GATE, Fld.CLK_INT_EN_INT_REFUSED, Fld.CLK_INT_EN_SWITCH_DONE, Fld.CLK_INT_EN_RELOCK, Fld.CLK_INT_EN_TRIP]⟩,
  ⟨0x10020, [], 0x0, [Fld.CLK_COAST_CNT_LO_COUNT]⟩,
  ⟨0x10024, [], 0x0, [Fld.CLK_COAST_CNT_HI_COUNT]⟩,
  ⟨0x11000, [(84, 0x8)], 0x0, [Fld.CLK_GATE_CTL_GATE, Fld.CLK_GATE_CTL_FORCE]⟩,
  ⟨0x11004, [(84, 0x8)], 0x0, [Fld.CLK_GATE_STATUS_STATE, Fld.CLK_GATE_STATUS_OUTCOME, Fld.CLK_GATE_STATUS_WAITED]⟩]
def rowsCLK : List RegRow := rowsCLK0

/-! ### PWR span, 0x20000 – 0x2FFFF (R31) -/

/-- PWR_MODE_CTL: R473, 17_power_reset_modes.md. -/
def Reg.PWR_MODE_CTL : Nat := 0x20000
def Fld.PWR_MODE_CTL_WAKE : Field := ⟨3, 3, .wo⟩
def Fld.PWR_MODE_CTL_STANDBY : Field := ⟨2, 2, .wo⟩
def Fld.PWR_MODE_CTL_RESUME : Field := ⟨1, 1, .wo⟩
def Fld.PWR_MODE_CTL_QUIESCE : Field := ⟨0, 0, .wo⟩
/-- PWR_MODE_STATUS: R473, 17_power_reset_modes.md. -/
def Reg.PWR_MODE_STATUS : Nat := 0x20004
def Fld.PWR_MODE_STATUS_DRAINED : Field := ⟨31, 31, .ro⟩
def Fld.PWR_MODE_STATUS_RESULT : Field := ⟨19, 16, .ro⟩
def Fld.PWR_MODE_STATUS_RUN_MODE : Field := ⟨3, 0, .ro⟩
/-- PWR_WAKE_CFG: R473, 17_power_reset_modes.md. -/
def Reg.PWR_WAKE_CFG : Nat := 0x20010
def Fld.PWR_WAKE_CFG_TRIG : Field := ⟨15, 0, .rw⟩
/-- PWR_INT_STATUS: R473, 17_power_reset_modes.md. -/
def Reg.PWR_INT_STATUS : Nat := 0x20008
def Fld.PWR_INT_STATUS_MODE : Field := ⟨2, 2, .w1c⟩
def Fld.PWR_INT_STATUS_WAKE_REQ : Field := ⟨1, 1, .w1c⟩
def Fld.PWR_INT_STATUS_DOMAIN : Field := ⟨0, 0, .w1c⟩
/-- PWR_INT_EN: R473, 17_power_reset_modes.md. -/
def Reg.PWR_INT_EN : Nat := 0x2000C
def Fld.PWR_INT_EN_MODE : Field := ⟨2, 2, .rw⟩
def Fld.PWR_INT_EN_WAKE_REQ : Field := ⟨1, 1, .rw⟩
def Fld.PWR_INT_EN_DOMAIN : Field := ⟨0, 0, .rw⟩
/-- PWR_DOM_CTL(d): R473, 17_power_reset_modes.md. -/
def Reg.PWR_DOM_CTL (d : Nat) : Nat := 0x21000 + 0x8 * d
def Fld.PWR_DOM_CTL_ON : Field := ⟨31, 31, .rw⟩
def Fld.PWR_DOM_CTL_POLICY : Field := ⟨30, 30, .rw⟩
/-- PWR_DOM_STATUS(d): R473, 17_power_reset_modes.md. -/
def Reg.PWR_DOM_STATUS (d : Nat) : Nat := 0x21004 + 0x8 * d
def Fld.PWR_DOM_STATUS_STATE : Field := ⟨31, 29, .ro⟩
def Fld.PWR_DOM_STATUS_WAKE_PENDING : Field := ⟨28, 28, .ro⟩
def Fld.PWR_DOM_STATUS_OUTCOME : Field := ⟨27, 24, .ro⟩
def Fld.PWR_DOM_STATUS_HELD : Field := ⟨4, 0, .ro⟩

/-- Rows of the PWR span, part 0. -/
def rowsPWR0 : List RegRow := [
  ⟨0x20000, [], 0x0, [Fld.PWR_MODE_CTL_WAKE, Fld.PWR_MODE_CTL_STANDBY, Fld.PWR_MODE_CTL_RESUME, Fld.PWR_MODE_CTL_QUIESCE]⟩,
  ⟨0x20004, [], 0x6, [Fld.PWR_MODE_STATUS_DRAINED, Fld.PWR_MODE_STATUS_RESULT, Fld.PWR_MODE_STATUS_RUN_MODE]⟩,
  ⟨0x20010, [], 0x0, [Fld.PWR_WAKE_CFG_TRIG]⟩,
  ⟨0x20008, [], 0x0, [Fld.PWR_INT_STATUS_MODE, Fld.PWR_INT_STATUS_WAKE_REQ, Fld.PWR_INT_STATUS_DOMAIN]⟩,
  ⟨0x2000C, [], 0x0, [Fld.PWR_INT_EN_MODE, Fld.PWR_INT_EN_WAKE_REQ, Fld.PWR_INT_EN_DOMAIN]⟩,
  ⟨0x21000, [(212, 0x8)], 0x80000000, [Fld.PWR_DOM_CTL_ON, Fld.PWR_DOM_CTL_POLICY]⟩,
  ⟨0x21004, [(212, 0x8)], 0x40000000, [Fld.PWR_DOM_STATUS_STATE, Fld.PWR_DOM_STATUS_WAKE_PENDING, Fld.PWR_DOM_STATUS_OUTCOME, Fld.PWR_DOM_STATUS_HELD]⟩]
def rowsPWR : List RegRow := rowsPWR0

/-! ### RST span, 0x30000 – 0x3FFFF (R31) -/

/-- RST_CTL: R474, 17_power_reset_modes.md. -/
def Reg.RST_CTL : Nat := 0x30000
def Fld.RST_CTL_DEVICE : Field := ⟨31, 31, .wo⟩
def Fld.RST_CTL_WARM : Field := ⟨30, 30, .wo⟩
def Fld.RST_CTL_RETAIN : Field := ⟨1, 1, .rw⟩
def Fld.RST_CTL_PERST_DEV : Field := ⟨0, 0, .rw⟩
/-- RST_STATUS: R474, 17_power_reset_modes.md. -/
def Reg.RST_STATUS : Nat := 0x30004
def Fld.RST_STATUS_REFUSED : Field := ⟨31, 31, .w1c⟩
def Fld.RST_STATUS_WARM_BUSY : Field := ⟨30, 30, .ro⟩
/-- RST_CAUSE: R474, 17_power_reset_modes.md. -/
def Reg.RST_CAUSE : Nat := 0x30008
def Fld.RST_CAUSE_LAST : Field := ⟨7, 4, .ro⟩
def Fld.RST_CAUSE_RETAINED : Field := ⟨0, 0, .ro⟩
/-- RST_DIE(k): R474, 17_power_reset_modes.md. -/
def Reg.RST_DIE (k : Nat) : Nat := 0x30010 + 0x4 * k
def Fld.RST_DIE_HOLD : Field := ⟨31, 31, .rw⟩
def Fld.RST_DIE_ACTIVE : Field := ⟨30, 30, .ro⟩
def Fld.RST_DIE_OUTCOME : Field := ⟨19, 16, .ro⟩
/-- RST_ROD(n): R474, 17_power_reset_modes.md. -/
def Reg.RST_ROD (n : Nat) : Nat := 0x30100 + 0x4 * n
def Fld.RST_ROD_ACTIVE : Field := ⟨10, 8, .ro⟩
def Fld.RST_ROD_ENG : Field := ⟨2, 2, .rw⟩
def Fld.RST_ROD_REG_UP : Field := ⟨1, 1, .rw⟩
def Fld.RST_ROD_REG_LO : Field := ⟨0, 0, .rw⟩

/-- Rows of the RST span, part 0. -/
def rowsRST0 : List RegRow := [
  ⟨0x30000, [], 0x1, [Fld.RST_CTL_DEVICE, Fld.RST_CTL_WARM, Fld.RST_CTL_RETAIN, Fld.RST_CTL_PERST_DEV]⟩,
  ⟨0x30004, [], 0x0, [Fld.RST_STATUS_REFUSED, Fld.RST_STATUS_WARM_BUSY]⟩,
  ⟨0x30008, [], 0x0, [Fld.RST_CAUSE_LAST, Fld.RST_CAUSE_RETAINED]⟩,
  ⟨0x30014, [(7, 0x4)], 0x0, [Fld.RST_DIE_HOLD, Fld.RST_DIE_ACTIVE, Fld.RST_DIE_OUTCOME]⟩,
  ⟨0x30100, [(64, 0x4)], 0x0, [Fld.RST_ROD_ACTIVE, Fld.RST_ROD_ENG, Fld.RST_ROD_REG_UP, Fld.RST_ROD_REG_LO]⟩]
def rowsRST : List RegRow := rowsRST0

/-! ### CFG span, 0x40000 – 0x7FFFF (R31) -/

/-- CFG_LOAD_CTL: R144, 04_images_and_loading.md. -/
def Reg.CFG_LOAD_CTL : Nat := 0x40000
def Fld.CFG_LOAD_CTL_GO : Field := ⟨31, 31, .wo⟩
def Fld.CFG_LOAD_CTL_CANCEL : Field := ⟨30, 30, .wo⟩
def Fld.CFG_LOAD_CTL_VERIFY : Field := ⟨10, 10, .rw⟩
def Fld.CFG_LOAD_CTL_SLOT : Field := ⟨9, 8, .rw⟩
def Fld.CFG_LOAD_CTL_SRC : Field := ⟨0, 0, .rw⟩
/-- CFG_LOAD_STATUS: R144, 04_images_and_loading.md. -/
def Reg.CFG_LOAD_STATUS : Nat := 0x40004
def Fld.CFG_LOAD_STATUS_BUSY : Field := ⟨31, 31, .ro⟩
def Fld.CFG_LOAD_STATUS_DONE : Field := ⟨30, 30, .w1c⟩
def Fld.CFG_LOAD_STATUS_RESULT : Field := ⟨21, 20, .ro⟩
def Fld.CFG_LOAD_STATUS_STATE : Field := ⟨19, 16, .ro⟩
def Fld.CFG_LOAD_STATUS_FAIL : Field := ⟨12, 8, .ro⟩
/-- CFG_LOAD_LEN: R144, 04_images_and_loading.md. -/
def Reg.CFG_LOAD_LEN : Nat := 0x40010
def Fld.CFG_LOAD_LEN_LEN : Field := ⟨31, 0, .rw⟩
/-- CFG_LOAD_PROGRESS: R144, 04_images_and_loading.md. -/
def Reg.CFG_LOAD_PROGRESS : Nat := 0x40014
def Fld.CFG_LOAD_PROGRESS_FRAMES : Field := ⟨31, 0, .ro⟩
/-- CFG_LOAD_FAIL_OFFSET: R144, 04_images_and_loading.md. -/
def Reg.CFG_LOAD_FAIL_OFFSET : Nat := 0x40018
def Fld.CFG_LOAD_FAIL_OFFSET_OFFSET : Field := ⟨31, 0, .ro⟩
/-- CFG_BOOT_SEL: R144, 04_images_and_loading.md. -/
def Reg.CFG_BOOT_SEL : Nat := 0x40040
def Fld.CFG_BOOT_SEL_NEXT_SLOT : Field := ⟨9, 8, .rw⟩
def Fld.CFG_BOOT_SEL_NEXT_VALID : Field := ⟨7, 7, .rw⟩
def Fld.CFG_BOOT_SEL_SLOT : Field := ⟨1, 0, .rw⟩
/-- CFG_BOOT_LOG: R144, 04_images_and_loading.md. -/
def Reg.CFG_BOOT_LOG : Nat := 0x40044
def Fld.CFG_BOOT_LOG_GOLD_FAIL : Field := ⟨28, 24, .ro⟩
def Fld.CFG_BOOT_LOG_WORK_FAIL : Field := ⟨20, 16, .ro⟩
def Fld.CFG_BOOT_LOG_WORK_SLOT : Field := ⟨9, 8, .ro⟩
def Fld.CFG_BOOT_LOG_GOLD_TRIED : Field := ⟨1, 1, .ro⟩
def Fld.CFG_BOOT_LOG_WORK_TRIED : Field := ⟨0, 0, .ro⟩
/-- CFG_SEC_INFO: R144, 04_images_and_loading.md. -/
def Reg.CFG_SEC_INFO : Nat := 0x40048
def Fld.CFG_SEC_INFO_IMGKEY : Field := ⟨8, 8, .ro⟩
def Fld.CFG_SEC_INFO_KEY_REVOKED : Field := ⟨7, 4, .ro⟩
def Fld.CFG_SEC_INFO_KEY_PRESENT : Field := ⟨3, 0, .ro⟩
/-- CFG_STORE_CTL: R145, 04_images_and_loading.md. -/
def Reg.CFG_STORE_CTL : Nat := 0x40080
def Fld.CFG_STORE_CTL_GO : Field := ⟨31, 31, .wo⟩
def Fld.CFG_STORE_CTL_SLOT : Field := ⟨9, 8, .rw⟩
def Fld.CFG_STORE_CTL_OP : Field := ⟨1, 0, .rw⟩
/-- CFG_STORE_STATUS: R145, 04_images_and_loading.md. -/
def Reg.CFG_STORE_STATUS : Nat := 0x40084
def Fld.CFG_STORE_STATUS_BUSY : Field := ⟨31, 31, .ro⟩
def Fld.CFG_STORE_STATUS_DONE : Field := ⟨30, 30, .w1c⟩
def Fld.CFG_STORE_STATUS_OUTCOME : Field := ⟨19, 16, .ro⟩
def Fld.CFG_STORE_STATUS_PROGRESS : Field := ⟨13, 0, .ro⟩
/-- CFG_STORE_OFFSET: R145, 04_images_and_loading.md. -/
def Reg.CFG_STORE_OFFSET : Nat := 0x40090
def Fld.CFG_STORE_OFFSET_OFFSET : Field := ⟨24, 12, .rw⟩
/-- CFG_STORE_LEN: R145, 04_images_and_loading.md. -/
def Reg.CFG_STORE_LEN : Nat := 0x40094
def Fld.CFG_STORE_LEN_LEN : Field := ⟨25, 12, .rw⟩
/-- CFG_STORE_GOLDEN: R145, 04_images_and_loading.md. -/
def Reg.CFG_STORE_GOLDEN : Nat := 0x400B0
def Fld.CFG_STORE_GOLDEN_UNLOCK : Field := ⟨1, 1, .rwo⟩
def Fld.CFG_STORE_GOLDEN_PROTECTED : Field := ⟨0, 0, .ro⟩
/-- CFG_LOAD_SRC_LO: R144, 04_images_and_loading.md. -/
def Reg.CFG_LOAD_SRC_LO : Nat := 0x40008
def Fld.CFG_LOAD_SRC_LO_ADDR : Field := ⟨31, 7, .rw⟩
/-- CFG_LOAD_SRC_HI: R144, 04_images_and_loading.md. -/
def Reg.CFG_LOAD_SRC_HI : Nat := 0x4000C
def Fld.CFG_LOAD_SRC_HI_ADDR : Field := ⟨15, 0, .rw⟩
/-- CFG_INT_STATUS: R145, 04_images_and_loading.md. -/
def Reg.CFG_INT_STATUS : Nat := 0x40050
def Fld.CFG_INT_STATUS_WORN : Field := ⟨2, 2, .w1c⟩
def Fld.CFG_INT_STATUS_STORE : Field := ⟨1, 1, .w1c⟩
def Fld.CFG_INT_STATUS_LOAD : Field := ⟨0, 0, .w1c⟩
/-- CFG_INT_EN: R145, 04_images_and_loading.md. -/
def Reg.CFG_INT_EN : Nat := 0x40054
def Fld.CFG_INT_EN_WORN : Field := ⟨2, 2, .rw⟩
def Fld.CFG_INT_EN_STORE : Field := ⟨1, 1, .rw⟩
def Fld.CFG_INT_EN_LOAD : Field := ⟨0, 0, .rw⟩
/-- CFG_STORE_ADDR_LO: R144, 04_images_and_loading.md. -/
def Reg.CFG_STORE_ADDR_LO : Nat := 0x40088
def Fld.CFG_STORE_ADDR_LO_ADDR : Field := ⟨31, 7, .rw⟩
/-- CFG_STORE_ADDR_HI: R144, 04_images_and_loading.md. -/
def Reg.CFG_STORE_ADDR_HI : Nat := 0x4008C
def Fld.CFG_STORE_ADDR_HI_ADDR : Field := ⟨15, 0, .rw⟩
/-- CFG_STORE_WCOUNT(s): R145, 04_images_and_loading.md. -/
def Reg.CFG_STORE_WCOUNT (s : Nat) : Nat := 0x400A0 + 0x4 * s
def Fld.CFG_STORE_WCOUNT_WORN : Field := ⟨16, 16, .ro⟩
def Fld.CFG_STORE_WCOUNT_COUNT : Field := ⟨15, 0, .ro⟩

/-- Rows of the CFG span, part 0. -/
def rowsCFG0 : List RegRow := [
  ⟨0x40000, [], 0x0, [Fld.CFG_LOAD_CTL_GO, Fld.CFG_LOAD_CTL_CANCEL, Fld.CFG_LOAD_CTL_VERIFY, Fld.CFG_LOAD_CTL_SLOT, Fld.CFG_LOAD_CTL_SRC]⟩,
  ⟨0x40004, [], 0x0, [Fld.CFG_LOAD_STATUS_BUSY, Fld.CFG_LOAD_STATUS_DONE, Fld.CFG_LOAD_STATUS_RESULT, Fld.CFG_LOAD_STATUS_STATE, Fld.CFG_LOAD_STATUS_FAIL]⟩,
  ⟨0x40010, [], 0x0, [Fld.CFG_LOAD_LEN_LEN]⟩,
  ⟨0x40014, [], 0x0, [Fld.CFG_LOAD_PROGRESS_FRAMES]⟩,
  ⟨0x40018, [], 0x0, [Fld.CFG_LOAD_FAIL_OFFSET_OFFSET]⟩,
  ⟨0x40040, [], 0x0, [Fld.CFG_BOOT_SEL_NEXT_SLOT, Fld.CFG_BOOT_SEL_NEXT_VALID, Fld.CFG_BOOT_SEL_SLOT]⟩,
  ⟨0x40044, [], 0x0, [Fld.CFG_BOOT_LOG_GOLD_FAIL, Fld.CFG_BOOT_LOG_WORK_FAIL, Fld.CFG_BOOT_LOG_WORK_SLOT, Fld.CFG_BOOT_LOG_GOLD_TRIED, Fld.CFG_BOOT_LOG_WORK_TRIED]⟩,
  ⟨0x40048, [], 0x0, [Fld.CFG_SEC_INFO_IMGKEY, Fld.CFG_SEC_INFO_KEY_REVOKED, Fld.CFG_SEC_INFO_KEY_PRESENT]⟩,
  ⟨0x40080, [], 0x0, [Fld.CFG_STORE_CTL_GO, Fld.CFG_STORE_CTL_SLOT, Fld.CFG_STORE_CTL_OP]⟩,
  ⟨0x40084, [], 0x0, [Fld.CFG_STORE_STATUS_BUSY, Fld.CFG_STORE_STATUS_DONE, Fld.CFG_STORE_STATUS_OUTCOME, Fld.CFG_STORE_STATUS_PROGRESS]⟩,
  ⟨0x40090, [], 0x0, [Fld.CFG_STORE_OFFSET_OFFSET]⟩,
  ⟨0x40094, [], 0x0, [Fld.CFG_STORE_LEN_LEN]⟩]
/-- Rows of the CFG span, part 1. -/
def rowsCFG1 : List RegRow := [
  ⟨0x400B0, [], 0x0, [Fld.CFG_STORE_GOLDEN_UNLOCK, Fld.CFG_STORE_GOLDEN_PROTECTED]⟩,
  ⟨0x40008, [], 0x0, [Fld.CFG_LOAD_SRC_LO_ADDR]⟩,
  ⟨0x4000C, [], 0x0, [Fld.CFG_LOAD_SRC_HI_ADDR]⟩,
  ⟨0x40050, [], 0x0, [Fld.CFG_INT_STATUS_WORN, Fld.CFG_INT_STATUS_STORE, Fld.CFG_INT_STATUS_LOAD]⟩,
  ⟨0x40054, [], 0x0, [Fld.CFG_INT_EN_WORN, Fld.CFG_INT_EN_STORE, Fld.CFG_INT_EN_LOAD]⟩,
  ⟨0x40088, [], 0x0, [Fld.CFG_STORE_ADDR_LO_ADDR]⟩,
  ⟨0x4008C, [], 0x0, [Fld.CFG_STORE_ADDR_HI_ADDR]⟩,
  ⟨0x400A0, [(4, 0x4)], 0x0, [Fld.CFG_STORE_WCOUNT_WORN, Fld.CFG_STORE_WCOUNT_COUNT]⟩]
def rowsCFG : List RegRow := rowsCFG0 ++ rowsCFG1

/-! ### PLANE span, 0x80000 – 0x9FFFF (R31) -/

/-- PLANE_FAB_INFO(r): R66, 02_fabric_decks_and_beads.md. -/
def Reg.PLANE_FAB_INFO (r : Nat) : Nat := 0x80300 + 0x400 * r
def Fld.PLANE_FAB_INFO_QUAD_PRESENT : Field := ⟨12, 12, .ro⟩
def Fld.PLANE_FAB_INFO_QUAD : Field := ⟨11, 8, .ro⟩
def Fld.PLANE_FAB_INFO_DECK : Field := ⟨7, 7, .ro⟩
def Fld.PLANE_FAB_INFO_REGION : Field := ⟨6, 0, .ro⟩
/-- PLANE_FAB_RC_AVAIL_LO(r): R66, 02_fabric_decks_and_beads.md. -/
def Reg.PLANE_FAB_RC_AVAIL_LO (r : Nat) : Nat := 0x80304 + 0x400 * r
def Fld.PLANE_FAB_RC_AVAIL_LO_AVAIL : Field := ⟨31, 0, .ro⟩
/-- PLANE_FAB_RC_AVAIL_HI(r): R66, 02_fabric_decks_and_beads.md. -/
def Reg.PLANE_FAB_RC_AVAIL_HI (r : Nat) : Nat := 0x80308 + 0x400 * r
def Fld.PLANE_FAB_RC_AVAIL_HI_AVAIL : Field := ⟨31, 0, .ro⟩
/-- PLANE_FAB_UCLK(r, k): R66, 02_fabric_decks_and_beads.md. -/
def Reg.PLANE_FAB_UCLK (r : Nat) (k : Nat) : Nat := 0x80310 + 0x400 * r + 0x4 * k
def Fld.PLANE_FAB_UCLK_EN : Field := ⟨31, 31, .rw⟩
def Fld.PLANE_FAB_UCLK_PHASE : Field := ⟨15, 8, .rw⟩
def Fld.PLANE_FAB_UCLK_DIV_M1 : Field := ⟨7, 0, .rw⟩
/-- PLANE_FAB_RAM_ERR(r): R66, 02_fabric_decks_and_beads.md. -/
def Reg.PLANE_FAB_RAM_ERR (r : Nat) : Nat := 0x80320 + 0x400 * r
def Fld.PLANE_FAB_RAM_ERR_UNCORR : Field := ⟨31, 16, .rw⟩
def Fld.PLANE_FAB_RAM_ERR_CORR : Field := ⟨15, 0, .rw⟩
/-- PLANE_FAB_RAM_UELOG(r): R66, 02_fabric_decks_and_beads.md. -/
def Reg.PLANE_FAB_RAM_UELOG (r : Nat) : Nat := 0x80324 + 0x400 * r
def Fld.PLANE_FAB_RAM_UELOG_VALID : Field := ⟨31, 31, .w1c⟩
def Fld.PLANE_FAB_RAM_UELOG_MORE : Field := ⟨30, 30, .w1c⟩
def Fld.PLANE_FAB_RAM_UELOG_BLOCK : Field := ⟨21, 16, .ro⟩
def Fld.PLANE_FAB_RAM_UELOG_PATH : Field := ⟨13, 12, .ro⟩
def Fld.PLANE_FAB_RAM_UELOG_ROW : Field := ⟨8, 0, .ro⟩
/-- PLANE_CTL(r): R543, 03_planes_and_switching.md. -/
def Reg.PLANE_CTL (r : Nat) : Nat := 0x80000 + 0x400 * r
def Fld.PLANE_CTL_STROBE_EN : Field := ⟨8, 8, .rw⟩
def Fld.PLANE_CTL_SCHED : Field := ⟨4, 4, .ro⟩
def Fld.PLANE_CTL_SET_DIRECT : Field := ⟨3, 3, .wo⟩
def Fld.PLANE_CTL_SET_SCHED : Field := ⟨2, 2, .wo⟩
def Fld.PLANE_CTL_ISOLATE : Field := ⟨1, 1, .wo⟩
def Fld.PLANE_CTL_RELEASE : Field := ⟨0, 0, .wo⟩
/-- PLANE_PTR(r): R543, 03_planes_and_switching.md. -/
def Reg.PLANE_PTR (r : Nat) : Nat := 0x80004 + 0x400 * r
def Fld.PLANE_PTR_INIT : Field := ⟨14, 14, .wo⟩
def Fld.PLANE_PTR_KEEP_BANK : Field := ⟨13, 13, .wo⟩
def Fld.PLANE_PTR_KEEP_PLANE : Field := ⟨12, 12, .wo⟩
def Fld.PLANE_PTR_BANK : Field := ⟨5, 4, .rw⟩
def Fld.PLANE_PTR_PLANE : Field := ⟨2, 0, .rw⟩
/-- PLANE_STATUS(r): R543, 03_planes_and_switching.md. -/
def Reg.PLANE_STATUS (r : Nat) : Nat := 0x80008 + 0x400 * r
def Fld.PLANE_STATUS_LAST_SRC : Field := ⟨23, 20, .ro⟩
def Fld.PLANE_STATUS_WRSTAT : Field := ⟨15, 12, .ro⟩
def Fld.PLANE_STATUS_STALE : Field := ⟨5, 5, .ro⟩
def Fld.PLANE_STATUS_PENDING : Field := ⟨4, 4, .ro⟩
def Fld.PLANE_STATUS_RSTATE : Field := ⟨2, 0, .ro⟩
/-- PLANE_PSTATE(r): R543, 03_planes_and_switching.md. -/
def Reg.PLANE_PSTATE (r : Nat) : Nat := 0x8000C + 0x400 * r
def Fld.PLANE_PSTATE_STATE : Field := ⟨15, 0, .ro⟩
/-- PLANE_BSTATE(r): R543, 03_planes_and_switching.md. -/
def Reg.PLANE_BSTATE (r : Nat) : Nat := 0x80010 + 0x400 * r
def Fld.PLANE_BSTATE_DISCARD : Field := ⟨19, 16, .wo⟩
def Fld.PLANE_BSTATE_STATE : Field := ⟨7, 0, .ro⟩
/-- PLANE_PARK(r): R543, 03_planes_and_switching.md. -/
def Reg.PLANE_PARK (r : Nat) : Nat := 0x80014 + 0x400 * r
def Fld.PLANE_PARK_COUNT : Field := ⟨23, 0, .ro⟩
/-- PLANE_GEN(r): R543, 03_planes_and_switching.md. -/
def Reg.PLANE_GEN (r : Nat) : Nat := 0x80018 + 0x400 * r
def Fld.PLANE_GEN_BGEN : Field := ⟨31, 16, .ro⟩
def Fld.PLANE_GEN_RGEN : Field := ⟨15, 0, .ro⟩
/-- PLANE_SWITCH_CNT(r): R543, 03_planes_and_switching.md. -/
def Reg.PLANE_SWITCH_CNT (r : Nat) : Nat := 0x8001C + 0x400 * r
def Fld.PLANE_SWITCH_CNT_COUNT : Field := ⟨31, 0, .rw⟩
/-- PLANE_STROBE_LOST(r): R543, 03_planes_and_switching.md. -/
def Reg.PLANE_STROBE_LOST (r : Nat) : Nat := 0x80020 + 0x400 * r
def Fld.PLANE_STROBE_LOST_LAST_REASON : Field := ⟨23, 20, .ro⟩
def Fld.PLANE_STROBE_LOST_LAST_SLOT : Field := ⟨17, 16, .ro⟩
def Fld.PLANE_STROBE_LOST_COUNT : Field := ⟨15, 0, .rw⟩
/-- PLANE_XFER_CTL(r): R543, 03_planes_and_switching.md. -/
def Reg.PLANE_XFER_CTL (r : Nat) : Nat := 0x80048 + 0x400 * r
def Fld.PLANE_XFER_CTL_BUSY : Field := ⟨31, 31, .ro⟩
def Fld.PLANE_XFER_CTL_DONE : Field := ⟨30, 30, .w1c⟩
def Fld.PLANE_XFER_CTL_CODE : Field := ⟨23, 20, .ro⟩
def Fld.PLANE_XFER_CTL_OUTCOME : Field := ⟨19, 16, .ro⟩
def Fld.PLANE_XFER_CTL_DIR : Field := ⟨9, 9, .rw⟩
def Fld.PLANE_XFER_CTL_GO : Field := ⟨8, 8, .wo⟩
def Fld.PLANE_XFER_CTL_BANK : Field := ⟨1, 0, .rw⟩
/-- PLANE_STROBE(r, k): R543, 03_planes_and_switching.md. -/
def Reg.PLANE_STROBE (r : Nat) (k : Nat) : Nat := 0x80030 + 0x400 * r + 0x4 * k
def Fld.PLANE_STROBE_EN : Field := ⟨31, 31, .rw⟩
def Fld.PLANE_STROBE_INIT : Field := ⟨30, 30, .rw⟩
def Fld.PLANE_STROBE_MOVE_BANK : Field := ⟨29, 29, .rw⟩
def Fld.PLANE_STROBE_MOVE_PLANE : Field := ⟨28, 28, .rw⟩
def Fld.PLANE_STROBE_BANK : Field := ⟨21, 20, .rw⟩
def Fld.PLANE_STROBE_PLANE : Field := ⟨18, 16, .rw⟩
def Fld.PLANE_STROBE_SRC_KIND : Field := ⟨9, 8, .rw⟩
def Fld.PLANE_STROBE_SRC_NUM : Field := ⟨5, 0, .rw⟩
/-- PLANE_XFER_ADDR_LO(r): R543, 03_planes_and_switching.md. -/
def Reg.PLANE_XFER_ADDR_LO (r : Nat) : Nat := 0x80040 + 0x400 * r
def Fld.PLANE_XFER_ADDR_LO_ADDR : Field := ⟨31, 7, .rw⟩
/-- PLANE_XFER_ADDR_HI(r): R543, 03_planes_and_switching.md. -/
def Reg.PLANE_XFER_ADDR_HI (r : Nat) : Nat := 0x80044 + 0x400 * r
def Fld.PLANE_XFER_ADDR_HI_ADDR : Field := ⟨15, 0, .rw⟩

/-- Rows of the PLANE span, part 0. -/
def rowsPLANE0 : List RegRow := [
  ⟨0x80300, [(128, 0x400)], 0x0, [Fld.PLANE_FAB_INFO_QUAD_PRESENT, Fld.PLANE_FAB_INFO_QUAD, Fld.PLANE_FAB_INFO_DECK, Fld.PLANE_FAB_INFO_REGION]⟩,
  ⟨0x80304, [(128, 0x400)], 0xFFFFFFFF, [Fld.PLANE_FAB_RC_AVAIL_LO_AVAIL]⟩,
  ⟨0x80308, [(128, 0x400)], 0xFFFFFFFF, [Fld.PLANE_FAB_RC_AVAIL_HI_AVAIL]⟩,
  ⟨0x80310, [(128, 0x400), (4, 0x4)], 0x0, [Fld.PLANE_FAB_UCLK_EN, Fld.PLANE_FAB_UCLK_PHASE, Fld.PLANE_FAB_UCLK_DIV_M1]⟩,
  ⟨0x80320, [(128, 0x400)], 0x0, [Fld.PLANE_FAB_RAM_ERR_UNCORR, Fld.PLANE_FAB_RAM_ERR_CORR]⟩,
  ⟨0x80324, [(128, 0x400)], 0x0, [Fld.PLANE_FAB_RAM_UELOG_VALID, Fld.PLANE_FAB_RAM_UELOG_MORE, Fld.PLANE_FAB_RAM_UELOG_BLOCK, Fld.PLANE_FAB_RAM_UELOG_PATH, Fld.PLANE_FAB_RAM_UELOG_ROW]⟩,
  ⟨0x80000, [(128, 0x400)], 0x0, [Fld.PLANE_CTL_STROBE_EN, Fld.PLANE_CTL_SCHED, Fld.PLANE_CTL_SET_DIRECT, Fld.PLANE_CTL_SET_SCHED, Fld.PLANE_CTL_ISOLATE, Fld.PLANE_CTL_RELEASE]⟩,
  ⟨0x80004, [(128, 0x400)], 0x0, [Fld.PLANE_PTR_INIT, Fld.PLANE_PTR_KEEP_BANK, Fld.PLANE_PTR_KEEP_PLANE, Fld.PLANE_PTR_BANK, Fld.PLANE_PTR_PLANE]⟩,
  ⟨0x80008, [(128, 0x400)], 0x0, [Fld.PLANE_STATUS_LAST_SRC, Fld.PLANE_STATUS_WRSTAT, Fld.PLANE_STATUS_STALE, Fld.PLANE_STATUS_PENDING, Fld.PLANE_STATUS_RSTATE]⟩,
  ⟨0x8000C, [(128, 0x400)], 0x0, [Fld.PLANE_PSTATE_STATE]⟩,
  ⟨0x80010, [(128, 0x400)], 0x0, [Fld.PLANE_BSTATE_DISCARD, Fld.PLANE_BSTATE_STATE]⟩,
  ⟨0x80014, [(128, 0x400)], 0x0, [Fld.PLANE_PARK_COUNT]⟩]
/-- Rows of the PLANE span, part 1. -/
def rowsPLANE1 : List RegRow := [
  ⟨0x80018, [(128, 0x400)], 0x0, [Fld.PLANE_GEN_BGEN, Fld.PLANE_GEN_RGEN]⟩,
  ⟨0x8001C, [(128, 0x400)], 0x0, [Fld.PLANE_SWITCH_CNT_COUNT]⟩,
  ⟨0x80020, [(128, 0x400)], 0x0, [Fld.PLANE_STROBE_LOST_LAST_REASON, Fld.PLANE_STROBE_LOST_LAST_SLOT, Fld.PLANE_STROBE_LOST_COUNT]⟩,
  ⟨0x80048, [(128, 0x400)], 0x0, [Fld.PLANE_XFER_CTL_BUSY, Fld.PLANE_XFER_CTL_DONE, Fld.PLANE_XFER_CTL_CODE, Fld.PLANE_XFER_CTL_OUTCOME, Fld.PLANE_XFER_CTL_DIR, Fld.PLANE_XFER_CTL_GO, Fld.PLANE_XFER_CTL_BANK]⟩,
  ⟨0x80030, [(128, 0x400), (4, 0x4)], 0x0, [Fld.PLANE_STROBE_EN, Fld.PLANE_STROBE_INIT, Fld.PLANE_STROBE_MOVE_BANK, Fld.PLANE_STROBE_MOVE_PLANE, Fld.PLANE_STROBE_BANK, Fld.PLANE_STROBE_PLANE, Fld.PLANE_STROBE_SRC_KIND, Fld.PLANE_STROBE_SRC_NUM]⟩,
  ⟨0x80040, [(128, 0x400)], 0x0, [Fld.PLANE_XFER_ADDR_LO_ADDR]⟩,
  ⟨0x80044, [(128, 0x400)], 0x0, [Fld.PLANE_XFER_ADDR_HI_ADDR]⟩]
def rowsPLANE : List RegRow := rowsPLANE0 ++ rowsPLANE1

/-! ### TALLY span, 0x100000 – 0x17FFFF (R31) -/

/-- TALLY_CTL: R178, 05_tally_scheduler.md. -/
def Reg.TALLY_CTL : Nat := 0x100000
def Fld.TALLY_CTL_EN : Field := ⟨0, 0, .rw⟩
/-- TALLY_STATUS: R178, 05_tally_scheduler.md. -/
def Reg.TALLY_STATUS : Nat := 0x100004
def Fld.TALLY_STATUS_STORE_READY : Field := ⟨31, 31, .ro⟩
def Fld.TALLY_STATUS_LIVE : Field := ⟨20, 0, .ro⟩
/-- TALLY_CANCEL: R178, 05_tally_scheduler.md. -/
def Reg.TALLY_CANCEL : Nat := 0x100010
def Fld.TALLY_CANCEL_HANDLE : Field := ⟨27, 0, .wo⟩
/-- TALLY_CANCEL_STAT: R178, 05_tally_scheduler.md. -/
def Reg.TALLY_CANCEL_STAT : Nat := 0x100014
def Fld.TALLY_CANCEL_STAT_DONE : Field := ⟨31, 31, .w1c⟩
def Fld.TALLY_CANCEL_STAT_OUTCOME : Field := ⟨1, 0, .ro⟩
/-- TALLY_TMPL_RESULT: R178, 05_tally_scheduler.md. -/
def Reg.TALLY_TMPL_RESULT : Nat := 0x100018
def Fld.TALLY_TMPL_RESULT_TEMPLATE : Field := ⟨27, 16, .ro⟩
def Fld.TALLY_TMPL_RESULT_OUTCOME : Field := ⟨3, 0, .ro⟩
/-- TALLY_REFLOG: R178, 05_tally_scheduler.md. -/
def Reg.TALLY_REFLOG : Nat := 0x100040
def Fld.TALLY_REFLOG_VALID : Field := ⟨31, 31, .w1c⟩
def Fld.TALLY_REFLOG_MORE : Field := ⟨30, 30, .w1c⟩
def Fld.TALLY_REFLOG_CODE : Field := ⟨11, 10, .ro⟩
def Fld.TALLY_REFLOG_SOURCE : Field := ⟨8, 0, .ro⟩
/-- TALLY_REFLOG_HANDLE: R178, 05_tally_scheduler.md. -/
def Reg.TALLY_REFLOG_HANDLE : Nat := 0x100044
def Fld.TALLY_REFLOG_HANDLE_SLOT : Field := ⟨31, 30, .ro⟩
def Fld.TALLY_REFLOG_HANDLE_HANDLE : Field := ⟨27, 0, .ro⟩
/-- TALLY_NOW_LO: R178, 05_tally_scheduler.md. -/
def Reg.TALLY_NOW_LO : Nat := 0x100008
def Fld.TALLY_NOW_LO_NOW : Field := ⟨31, 0, .ro⟩
/-- TALLY_NOW_HI: R178, 05_tally_scheduler.md. -/
def Reg.TALLY_NOW_HI : Nat := 0x10000C
def Fld.TALLY_NOW_HI_NOW : Field := ⟨15, 0, .ro⟩
/-- TALLY_CNT_DISPATCH: R178, 05_tally_scheduler.md. -/
def Reg.TALLY_CNT_DISPATCH : Nat := 0x100020
def Fld.TALLY_CNT_DISPATCH_COUNT : Field := ⟨31, 0, .rw⟩
/-- TALLY_CNT_PREEMPT: R178, 05_tally_scheduler.md. -/
def Reg.TALLY_CNT_PREEMPT : Nat := 0x100024
def Fld.TALLY_CNT_PREEMPT_COUNT : Field := ⟨31, 0, .rw⟩
/-- TALLY_CNT_SPILL: R178, 05_tally_scheduler.md. -/
def Reg.TALLY_CNT_SPILL : Nat := 0x100028
def Fld.TALLY_CNT_SPILL_COUNT : Field := ⟨31, 0, .rw⟩
/-- TALLY_CNT_REDISPATCH: R178, 05_tally_scheduler.md. -/
def Reg.TALLY_CNT_REDISPATCH : Nat := 0x10002C
def Fld.TALLY_CNT_REDISPATCH_COUNT : Field := ⟨31, 0, .rw⟩
/-- TALLY_CNT_REFUSED: R178, 05_tally_scheduler.md. -/
def Reg.TALLY_CNT_REFUSED : Nat := 0x100030
def Fld.TALLY_CNT_REFUSED_COUNT : Field := ⟨31, 0, .rw⟩
/-- TALLY_CNT_DROP: R178, 05_tally_scheduler.md. -/
def Reg.TALLY_CNT_DROP : Nat := 0x100034
def Fld.TALLY_CNT_DROP_COUNT : Field := ⟨31, 0, .rw⟩
/-- TALLY_FAULT_LOG: R178, 05_tally_scheduler.md. -/
def Reg.TALLY_FAULT_LOG : Nat := 0x100048
def Fld.TALLY_FAULT_LOG_VALID : Field := ⟨31, 31, .w1c⟩
def Fld.TALLY_FAULT_LOG_MORE : Field := ⟨30, 30, .w1c⟩
def Fld.TALLY_FAULT_LOG_REASON : Field := ⟨8, 7, .ro⟩
def Fld.TALLY_FAULT_LOG_REGION : Field := ⟨6, 0, .ro⟩
/-- TALLY_FAULT_HANDLE: R178, 05_tally_scheduler.md. -/
def Reg.TALLY_FAULT_HANDLE : Nat := 0x10004C
def Fld.TALLY_FAULT_HANDLE_HANDLE : Field := ⟨27, 0, .ro⟩
/-- TALLY_INT_STATUS: R178, 05_tally_scheduler.md. -/
def Reg.TALLY_INT_STATUS : Nat := 0x100050
def Fld.TALLY_INT_STATUS_FAULT : Field := ⟨2, 2, .w1c⟩
def Fld.TALLY_INT_STATUS_REFUSED : Field := ⟨1, 1, .w1c⟩
def Fld.TALLY_INT_STATUS_FULL : Field := ⟨0, 0, .w1c⟩
/-- TALLY_INT_EN: R178, 05_tally_scheduler.md. -/
def Reg.TALLY_INT_EN : Nat := 0x100054
def Fld.TALLY_INT_EN_FAULT : Field := ⟨2, 2, .rw⟩
def Fld.TALLY_INT_EN_REFUSED : Field := ⟨1, 1, .rw⟩
def Fld.TALLY_INT_EN_FULL : Field := ⟨0, 0, .rw⟩
/-- TALLY_PEEK_INDEX: R178, 05_tally_scheduler.md. -/
def Reg.TALLY_PEEK_INDEX : Nat := 0x100060
def Fld.TALLY_PEEK_INDEX_INDEX : Field := ⟨19, 0, .rw⟩
/-- TALLY_PEEK(i): R178, 05_tally_scheduler.md. -/
def Reg.TALLY_PEEK (i : Nat) : Nat := 0x100080 + 0x4 * i
def Fld.TALLY_PEEK_DATA : Field := ⟨31, 0, .ro⟩
/-- TALLY_INGRESS(s): R178, 05_tally_scheduler.md. -/
def Reg.TALLY_INGRESS (s : Nat) : Nat := 0x101000 + 0x4 * s
def Fld.TALLY_INGRESS_DEPTH : Field := ⟨6, 0, .ro⟩
/-- TALLY_SPILL_REQ(n): R178, 05_tally_scheduler.md. -/
def Reg.TALLY_SPILL_REQ (n : Nat) : Nat := 0x102000 + 0x8 * n
def Fld.TALLY_SPILL_REQ_VALID : Field := ⟨31, 31, .ro⟩
def Fld.TALLY_SPILL_REQ_DIR : Field := ⟨30, 30, .ro⟩
def Fld.TALLY_SPILL_REQ_UPPER : Field := ⟨29, 29, .ro⟩
def Fld.TALLY_SPILL_REQ_BANK : Field := ⟨25, 24, .ro⟩
def Fld.TALLY_SPILL_REQ_SLOT : Field := ⟨20, 16, .ro⟩
/-- TALLY_SPILL_ACK(n): R178, 05_tally_scheduler.md. -/
def Reg.TALLY_SPILL_ACK (n : Nat) : Nat := 0x102004 + 0x8 * n
def Fld.TALLY_SPILL_ACK_ACK : Field := ⟨31, 31, .wo⟩
def Fld.TALLY_SPILL_ACK_CODE : Field := ⟨7, 4, .wo⟩
def Fld.TALLY_SPILL_ACK_OUTCOME : Field := ⟨3, 0, .wo⟩
/-- TALLY_SPILL_CFG(r): R178, 05_tally_scheduler.md. -/
def Reg.TALLY_SPILL_CFG (r : Nat) : Nat := 0x103000 + 0x4 * r
def Fld.TALLY_SPILL_CFG_EN : Field := ⟨31, 31, .rw⟩
def Fld.TALLY_SPILL_CFG_USED : Field := ⟨23, 16, .ro⟩
def Fld.TALLY_SPILL_CFG_BANK : Field := ⟨14, 8, .rwl⟩
def Fld.TALLY_SPILL_CFG_SLOTS : Field := ⟨4, 0, .rwl⟩
/-- TALLY_REGION(r): R178, 05_tally_scheduler.md. -/
def Reg.TALLY_REGION (r : Nat) : Nat := 0x103400 + 0x4 * r
def Fld.TALLY_REGION_QUIESCE : Field := ⟨31, 31, .rw⟩
def Fld.TALLY_REGION_BUSY : Field := ⟨30, 30, .ro⟩
def Fld.TALLY_REGION_PREEMPTIBLE : Field := ⟨29, 29, .ro⟩
def Fld.TALLY_REGION_HELD : Field := ⟨27, 24, .ro⟩
def Fld.TALLY_REGION_RESERVED_BANKS : Field := ⟨23, 20, .ro⟩
def Fld.TALLY_REGION_TALLY : Field := ⟨19, 0, .ro⟩
/-- TALLY_TMPL_CTL(t): R151, 05_tally_scheduler.md. -/
def Reg.TALLY_TMPL_CTL (t : Nat) : Nat := 0x140000 + 0x20 * t
def Fld.TALLY_TMPL_CTL_EN : Field := ⟨31, 31, .rw⟩
def Fld.TALLY_TMPL_CTL_KIND : Field := ⟨30, 30, .rwl⟩
def Fld.TALLY_TMPL_CTL_PREEMPT : Field := ⟨29, 29, .rwl⟩
def Fld.TALLY_TMPL_CTL_SPEC : Field := ⟨28, 28, .rwl⟩
def Fld.TALLY_TMPL_CTL_BANK_MODE : Field := ⟨27, 26, .rwl⟩
def Fld.TALLY_TMPL_CTL_NOPS : Field := ⟨25, 24, .rwl⟩
def Fld.TALLY_TMPL_CTL_BANK : Field := ⟨21, 20, .rwl⟩
def Fld.TALLY_TMPL_CTL_PLANE : Field := ⟨18, 16, .rwl⟩
def Fld.TALLY_TMPL_CTL_SPEC_CTL : Field := ⟨15, 8, .rwl⟩
def Fld.TALLY_TMPL_CTL_LOCKED : Field := ⟨7, 7, .ro⟩
/-- TALLY_TMPL_DEADLINE(t): R151, 05_tally_scheduler.md. -/
def Reg.TALLY_TMPL_DEADLINE (t : Nat) : Nat := 0x140004 + 0x20 * t
def Fld.TALLY_TMPL_DEADLINE_REL_DEADLINE : Field := ⟨31, 0, .rwl⟩
/-- TALLY_TMPL_TARGETS(t, w): R151, 05_tally_scheduler.md. -/
def Reg.TALLY_TMPL_TARGETS (t : Nat) (w : Nat) : Nat := 0x140008 + 0x20 * t + 0x4 * w
def Fld.TALLY_TMPL_TARGETS_TARGETS : Field := ⟨31, 0, .rwl⟩
/-- TALLY_TMPL_SPEC(t, w): R151, 05_tally_scheduler.md. -/
def Reg.TALLY_TMPL_SPEC (t : Nat) (w : Nat) : Nat := 0x140018 + 0x20 * t + 0x4 * w
def Fld.TALLY_TMPL_SPEC_SPEC_VALUE : Field := ⟨31, 0, .rwl⟩
/-- TALLY_SPEC_CTL: R203, 06_speculative_dispatch.md. -/
def Reg.TALLY_SPEC_CTL : Nat := 0x100058
def Fld.TALLY_SPEC_CTL_EN : Field := ⟨0, 0, .rw⟩
/-- TALLY_SPEC_LOG: R203, 06_speculative_dispatch.md. -/
def Reg.TALLY_SPEC_LOG : Nat := 0x10005C
def Fld.TALLY_SPEC_LOG_VALID : Field := ⟨31, 31, .w1c⟩
def Fld.TALLY_SPEC_LOG_MORE : Field := ⟨30, 30, .w1c⟩
def Fld.TALLY_SPEC_LOG_REASON : Field := ⟨10, 8, .ro⟩
def Fld.TALLY_SPEC_LOG_REGION : Field := ⟨6, 0, .ro⟩
/-- TALLY_SPEC_REGION(r): R203, 06_speculative_dispatch.md. -/
def Reg.TALLY_SPEC_REGION (r : Nat) : Nat := 0x103800 + 0x10 * r
def Fld.TALLY_SPEC_REGION_ALLOW : Field := ⟨31, 31, .rw⟩
def Fld.TALLY_SPEC_REGION_ACTIVE : Field := ⟨30, 30, .ro⟩
def Fld.TALLY_SPEC_REGION_DRAINING : Field := ⟨29, 29, .ro⟩
def Fld.TALLY_SPEC_REGION_DRAM_WR : Field := ⟨28, 28, .w1c⟩
def Fld.TALLY_SPEC_REGION_DEPTH : Field := ⟨22, 16, .ro⟩
def Fld.TALLY_SPEC_REGION_HELD : Field := ⟨13, 8, .ro⟩
/-- TALLY_SPEC_HANDLE(r): R203, 06_speculative_dispatch.md. -/
def Reg.TALLY_SPEC_HANDLE (r : Nat) : Nat := 0x103804 + 0x10 * r
def Fld.TALLY_SPEC_HANDLE_HANDLE : Field := ⟨27, 0, .ro⟩
/-- TALLY_SPEC_CNT_COMMIT(r): R203, 06_speculative_dispatch.md. -/
def Reg.TALLY_SPEC_CNT_COMMIT (r : Nat) : Nat := 0x103808 + 0x10 * r
def Fld.TALLY_SPEC_CNT_COMMIT_COUNT : Field := ⟨31, 0, .rw⟩
/-- TALLY_SPEC_CNT_SQUASH(r): R203, 06_speculative_dispatch.md. -/
def Reg.TALLY_SPEC_CNT_SQUASH (r : Nat) : Nat := 0x10380C + 0x10 * r
def Fld.TALLY_SPEC_CNT_SQUASH_COUNT : Field := ⟨31, 0, .rw⟩

/-- Rows of the TALLY span, part 0. -/
def rowsTALLY0 : List RegRow := [
  ⟨0x100000, [], 0x0, [Fld.TALLY_CTL_EN]⟩,
  ⟨0x100004, [], 0x0, [Fld.TALLY_STATUS_STORE_READY, Fld.TALLY_STATUS_LIVE]⟩,
  ⟨0x100010, [], 0x0, [Fld.TALLY_CANCEL_HANDLE]⟩,
  ⟨0x100014, [], 0x0, [Fld.TALLY_CANCEL_STAT_DONE, Fld.TALLY_CANCEL_STAT_OUTCOME]⟩,
  ⟨0x100018, [], 0x0, [Fld.TALLY_TMPL_RESULT_TEMPLATE, Fld.TALLY_TMPL_RESULT_OUTCOME]⟩,
  ⟨0x100040, [], 0x0, [Fld.TALLY_REFLOG_VALID, Fld.TALLY_REFLOG_MORE, Fld.TALLY_REFLOG_CODE, Fld.TALLY_REFLOG_SOURCE]⟩,
  ⟨0x100044, [], 0x0, [Fld.TALLY_REFLOG_HANDLE_SLOT, Fld.TALLY_REFLOG_HANDLE_HANDLE]⟩,
  ⟨0x100008, [], 0x0, [Fld.TALLY_NOW_LO_NOW]⟩,
  ⟨0x10000C, [], 0x0, [Fld.TALLY_NOW_HI_NOW]⟩,
  ⟨0x100020, [], 0x0, [Fld.TALLY_CNT_DISPATCH_COUNT]⟩,
  ⟨0x100024, [], 0x0, [Fld.TALLY_CNT_PREEMPT_COUNT]⟩,
  ⟨0x100028, [], 0x0, [Fld.TALLY_CNT_SPILL_COUNT]⟩]
/-- Rows of the TALLY span, part 1. -/
def rowsTALLY1 : List RegRow := [
  ⟨0x10002C, [], 0x0, [Fld.TALLY_CNT_REDISPATCH_COUNT]⟩,
  ⟨0x100030, [], 0x0, [Fld.TALLY_CNT_REFUSED_COUNT]⟩,
  ⟨0x100034, [], 0x0, [Fld.TALLY_CNT_DROP_COUNT]⟩,
  ⟨0x100048, [], 0x0, [Fld.TALLY_FAULT_LOG_VALID, Fld.TALLY_FAULT_LOG_MORE, Fld.TALLY_FAULT_LOG_REASON, Fld.TALLY_FAULT_LOG_REGION]⟩,
  ⟨0x10004C, [], 0x0, [Fld.TALLY_FAULT_HANDLE_HANDLE]⟩,
  ⟨0x100050, [], 0x0, [Fld.TALLY_INT_STATUS_FAULT, Fld.TALLY_INT_STATUS_REFUSED, Fld.TALLY_INT_STATUS_FULL]⟩,
  ⟨0x100054, [], 0x0, [Fld.TALLY_INT_EN_FAULT, Fld.TALLY_INT_EN_REFUSED, Fld.TALLY_INT_EN_FULL]⟩,
  ⟨0x100060, [], 0x0, [Fld.TALLY_PEEK_INDEX_INDEX]⟩,
  ⟨0x100080, [(16, 0x4)], 0x0, [Fld.TALLY_PEEK_DATA]⟩,
  ⟨0x101000, [(270, 0x4)], 0x0, [Fld.TALLY_INGRESS_DEPTH]⟩,
  ⟨0x102000, [(64, 0x8)], 0x0, [Fld.TALLY_SPILL_REQ_VALID, Fld.TALLY_SPILL_REQ_DIR, Fld.TALLY_SPILL_REQ_UPPER, Fld.TALLY_SPILL_REQ_BANK, Fld.TALLY_SPILL_REQ_SLOT]⟩,
  ⟨0x102004, [(64, 0x8)], 0x0, [Fld.TALLY_SPILL_ACK_ACK, Fld.TALLY_SPILL_ACK_CODE, Fld.TALLY_SPILL_ACK_OUTCOME]⟩]
/-- Rows of the TALLY span, part 2. -/
def rowsTALLY2 : List RegRow := [
  ⟨0x103000, [(128, 0x4)], 0x0, [Fld.TALLY_SPILL_CFG_EN, Fld.TALLY_SPILL_CFG_USED, Fld.TALLY_SPILL_CFG_BANK, Fld.TALLY_SPILL_CFG_SLOTS]⟩,
  ⟨0x103400, [(128, 0x4)], 0x0, [Fld.TALLY_REGION_QUIESCE, Fld.TALLY_REGION_BUSY, Fld.TALLY_REGION_PREEMPTIBLE, Fld.TALLY_REGION_HELD, Fld.TALLY_REGION_RESERVED_BANKS, Fld.TALLY_REGION_TALLY]⟩,
  ⟨0x140000, [(4096, 0x20)], 0x0, [Fld.TALLY_TMPL_CTL_EN, Fld.TALLY_TMPL_CTL_KIND, Fld.TALLY_TMPL_CTL_PREEMPT, Fld.TALLY_TMPL_CTL_SPEC, Fld.TALLY_TMPL_CTL_BANK_MODE, Fld.TALLY_TMPL_CTL_NOPS, Fld.TALLY_TMPL_CTL_BANK, Fld.TALLY_TMPL_CTL_PLANE, Fld.TALLY_TMPL_CTL_SPEC_CTL, Fld.TALLY_TMPL_CTL_LOCKED]⟩,
  ⟨0x140004, [(4096, 0x20)], 0x0, [Fld.TALLY_TMPL_DEADLINE_REL_DEADLINE]⟩,
  ⟨0x140008, [(4096, 0x20), (4, 0x4)], 0x0, [Fld.TALLY_TMPL_TARGETS_TARGETS]⟩,
  ⟨0x140018, [(4096, 0x20), (2, 0x4)], 0x0, [Fld.TALLY_TMPL_SPEC_SPEC_VALUE]⟩,
  ⟨0x100058, [], 0x0, [Fld.TALLY_SPEC_CTL_EN]⟩,
  ⟨0x10005C, [], 0x0, [Fld.TALLY_SPEC_LOG_VALID, Fld.TALLY_SPEC_LOG_MORE, Fld.TALLY_SPEC_LOG_REASON, Fld.TALLY_SPEC_LOG_REGION]⟩,
  ⟨0x103800, [(128, 0x10)], 0x0, [Fld.TALLY_SPEC_REGION_ALLOW, Fld.TALLY_SPEC_REGION_ACTIVE, Fld.TALLY_SPEC_REGION_DRAINING, Fld.TALLY_SPEC_REGION_DRAM_WR, Fld.TALLY_SPEC_REGION_DEPTH, Fld.TALLY_SPEC_REGION_HELD]⟩,
  ⟨0x103804, [(128, 0x10)], 0x0, [Fld.TALLY_SPEC_HANDLE_HANDLE]⟩,
  ⟨0x103808, [(128, 0x10)], 0x0, [Fld.TALLY_SPEC_CNT_COMMIT_COUNT]⟩,
  ⟨0x10380C, [(128, 0x10)], 0x0, [Fld.TALLY_SPEC_CNT_SQUASH_COUNT]⟩]
def rowsTALLY : List RegRow := rowsTALLY0 ++ rowsTALLY1 ++ rowsTALLY2

/-! ### ENG span, 0x180000 – 0x1BFFFF (R31) -/

/-- ENG_CTL(n): R234, 07_reckoner_engines.md. -/
def Reg.ENG_CTL (n : Nat) : Nat := 0x180000 + 0x1000 * n
def Fld.ENG_CTL_RESET : Field := ⟨1, 1, .rw⟩
def Fld.ENG_CTL_RUN : Field := ⟨0, 0, .rw⟩
/-- ENG_STATUS(n): R234, 07_reckoner_engines.md. -/
def Reg.ENG_STATUS (n : Nat) : Nat := 0x180004 + 0x1000 * n
def Fld.ENG_STATUS_PRIV : Field := ⟨8, 8, .ro⟩
def Fld.ENG_STATUS_TASK : Field := ⟨3, 3, .ro⟩
def Fld.ENG_STATUS_STATE : Field := ⟨2, 0, .ro⟩
/-- ENG_BOOT_ADDR(n): R234, 07_reckoner_engines.md. -/
def Reg.ENG_BOOT_ADDR (n : Nat) : Nat := 0x180008 + 0x1000 * n
def Fld.ENG_BOOT_ADDR_ADDR : Field := ⟨31, 2, .rw⟩
/-- ENG_MSIP(n): R234, 07_reckoner_engines.md. -/
def Reg.ENG_MSIP (n : Nat) : Nat := 0x180010 + 0x1000 * n
def Fld.ENG_MSIP_PEND : Field := ⟨0, 0, .rw⟩
/-- ENG_MBOX_DB(n): R234, 07_reckoner_engines.md. -/
def Reg.ENG_MBOX_DB (n : Nat) : Nat := 0x180038 + 0x1000 * n
def Fld.ENG_MBOX_DB_LOST : Field := ⟨2, 2, .w1c⟩
def Fld.ENG_MBOX_DB_OUT : Field := ⟨1, 1, .w1c⟩
def Fld.ENG_MBOX_DB_IN : Field := ⟨0, 0, .w1c⟩
/-- ENG_WERR_LOG(n): R234, 07_reckoner_engines.md. -/
def Reg.ENG_WERR_LOG (n : Nat) : Nat := 0x180040 + 0x1000 * n
def Fld.ENG_WERR_LOG_VALID : Field := ⟨31, 31, .w1c⟩
def Fld.ENG_WERR_LOG_MORE : Field := ⟨30, 30, .w1c⟩
def Fld.ENG_WERR_LOG_STREAM : Field := ⟨6, 4, .ro⟩
def Fld.ENG_WERR_LOG_CODE : Field := ⟨3, 0, .ro⟩
/-- ENG_LRAM_ERR(n): R234, 07_reckoner_engines.md. -/
def Reg.ENG_LRAM_ERR (n : Nat) : Nat := 0x180050 + 0x1000 * n
def Fld.ENG_LRAM_ERR_UNCORR : Field := ⟨31, 16, .rw⟩
def Fld.ENG_LRAM_ERR_CORR : Field := ⟨15, 0, .rw⟩
/-- ENG_TIMECMP_LO(n): R234, 07_reckoner_engines.md. -/
def Reg.ENG_TIMECMP_LO (n : Nat) : Nat := 0x180018 + 0x1000 * n
def Fld.ENG_TIMECMP_LO_CMP : Field := ⟨31, 0, .rw⟩
/-- ENG_TIMECMP_HI(n): R234, 07_reckoner_engines.md. -/
def Reg.ENG_TIMECMP_HI (n : Nat) : Nat := 0x18001C + 0x1000 * n
def Fld.ENG_TIMECMP_HI_CMP : Field := ⟨15, 0, .rw⟩
/-- ENG_EXT_STATUS(n): R234, 07_reckoner_engines.md. -/
def Reg.ENG_EXT_STATUS (n : Nat) : Nat := 0x180020 + 0x1000 * n
def Fld.ENG_EXT_STATUS_LINES : Field := ⟨15, 0, .ro⟩
/-- ENG_EXT_EN(n): R234, 07_reckoner_engines.md. -/
def Reg.ENG_EXT_EN (n : Nat) : Nat := 0x180024 + 0x1000 * n
def Fld.ENG_EXT_EN_LINES : Field := ⟨15, 0, .rw⟩
/-- ENG_MBOX_IN(n): R234, 07_reckoner_engines.md. -/
def Reg.ENG_MBOX_IN (n : Nat) : Nat := 0x180030 + 0x1000 * n
def Fld.ENG_MBOX_IN_DATA : Field := ⟨31, 0, .rw⟩
/-- ENG_MBOX_OUT(n): R234, 07_reckoner_engines.md. -/
def Reg.ENG_MBOX_OUT (n : Nat) : Nat := 0x180034 + 0x1000 * n
def Fld.ENG_MBOX_OUT_DATA : Field := ⟨31, 0, .rw⟩
/-- ENG_MBOX_DATA(n): R234, 07_reckoner_engines.md. -/
def Reg.ENG_MBOX_DATA (n : Nat) : Nat := 0x18003C + 0x1000 * n
def Fld.ENG_MBOX_DATA_DATA : Field := ⟨31, 0, .rw⟩
/-- ENG_WERR_ADDR_LO(n): R234, 07_reckoner_engines.md. -/
def Reg.ENG_WERR_ADDR_LO (n : Nat) : Nat := 0x180044 + 0x1000 * n
def Fld.ENG_WERR_ADDR_LO_ADDR : Field := ⟨31, 0, .ro⟩
/-- ENG_WERR_ADDR_HI(n): R234, 07_reckoner_engines.md. -/
def Reg.ENG_WERR_ADDR_HI (n : Nat) : Nat := 0x180048 + 0x1000 * n
def Fld.ENG_WERR_ADDR_HI_ADDR : Field := ⟨19, 0, .ro⟩

/-- Rows of the ENG span, part 0. -/
def rowsENG0 : List RegRow := [
  ⟨0x180000, [(64, 0x1000)], 0x2, [Fld.ENG_CTL_RESET, Fld.ENG_CTL_RUN]⟩,
  ⟨0x180004, [(64, 0x1000)], 0x100, [Fld.ENG_STATUS_PRIV, Fld.ENG_STATUS_TASK, Fld.ENG_STATUS_STATE]⟩,
  ⟨0x180008, [(64, 0x1000)], 0x0, [Fld.ENG_BOOT_ADDR_ADDR]⟩,
  ⟨0x180010, [(64, 0x1000)], 0x0, [Fld.ENG_MSIP_PEND]⟩,
  ⟨0x180038, [(64, 0x1000)], 0x0, [Fld.ENG_MBOX_DB_LOST, Fld.ENG_MBOX_DB_OUT, Fld.ENG_MBOX_DB_IN]⟩,
  ⟨0x180040, [(64, 0x1000)], 0x0, [Fld.ENG_WERR_LOG_VALID, Fld.ENG_WERR_LOG_MORE, Fld.ENG_WERR_LOG_STREAM, Fld.ENG_WERR_LOG_CODE]⟩,
  ⟨0x180050, [(64, 0x1000)], 0x0, [Fld.ENG_LRAM_ERR_UNCORR, Fld.ENG_LRAM_ERR_CORR]⟩,
  ⟨0x180018, [(64, 0x1000)], 0xFFFFFFFF, [Fld.ENG_TIMECMP_LO_CMP]⟩,
  ⟨0x18001C, [(64, 0x1000)], 0xFFFF, [Fld.ENG_TIMECMP_HI_CMP]⟩,
  ⟨0x180020, [(64, 0x1000)], 0x0, [Fld.ENG_EXT_STATUS_LINES]⟩,
  ⟨0x180024, [(64, 0x1000)], 0x0, [Fld.ENG_EXT_EN_LINES]⟩,
  ⟨0x180030, [(64, 0x1000)], 0x0, [Fld.ENG_MBOX_IN_DATA]⟩]
/-- Rows of the ENG span, part 1. -/
def rowsENG1 : List RegRow := [
  ⟨0x180034, [(64, 0x1000)], 0x0, [Fld.ENG_MBOX_OUT_DATA]⟩,
  ⟨0x18003C, [(64, 0x1000)], 0x0, [Fld.ENG_MBOX_DATA_DATA]⟩,
  ⟨0x180044, [(64, 0x1000)], 0x0, [Fld.ENG_WERR_ADDR_LO_ADDR]⟩,
  ⟨0x180048, [(64, 0x1000)], 0x0, [Fld.ENG_WERR_ADDR_HI_ADDR]⟩]
def rowsENG : List RegRow := rowsENG0 ++ rowsENG1

/-! ### SCR span, 0x200000 – 0x27FFFF (R31) -/

/-- SCR_OWNLOG: R250, 08_scratch_banks.md. -/
def Reg.SCR_OWNLOG : Nat := 0x200000
def Fld.SCR_OWNLOG_VALID : Field := ⟨31, 31, .w1c⟩
def Fld.SCR_OWNLOG_MORE : Field := ⟨30, 30, .w1c⟩
def Fld.SCR_OWNLOG_IDENT : Field := ⟨15, 8, .ro⟩
def Fld.SCR_OWNLOG_BANK : Field := ⟨6, 0, .ro⟩
/-- SCR_OWNCNT: R250, 08_scratch_banks.md. -/
def Reg.SCR_OWNCNT : Nat := 0x200004
def Fld.SCR_OWNCNT_COUNT : Field := ⟨31, 0, .rw⟩
/-- SCR_OWN(b): R250, 08_scratch_banks.md. -/
def Reg.SCR_OWN (b : Nat) : Nat := 0x201000 + 0x20 * b
def Fld.SCR_OWN_PENDING : Field := ⟨23, 16, .ro⟩
def Fld.SCR_OWN_LAST : Field := ⟨15, 12, .ro⟩
def Fld.SCR_OWN_STATE : Field := ⟨9, 8, .ro⟩
def Fld.SCR_OWN_OWNER : Field := ⟨7, 0, .ro⟩
/-- SCR_HANDOVER(b): R250, 08_scratch_banks.md. -/
def Reg.SCR_HANDOVER (b : Nat) : Nat := 0x201004 + 0x20 * b
def Fld.SCR_HANDOVER_CLEAR : Field := ⟨8, 8, .wo⟩
def Fld.SCR_HANDOVER_NEW : Field := ⟨7, 0, .wo⟩
/-- SCR_CFG(b): R250, 08_scratch_banks.md. -/
def Reg.SCR_CFG (b : Nat) : Nat := 0x201008 + 0x20 * b
def Fld.SCR_CFG_GRANT_EN : Field := ⟨8, 8, .rwo⟩
def Fld.SCR_CFG_GRANT : Field := ⟨7, 4, .rwo⟩
def Fld.SCR_CFG_ROTATE : Field := ⟨0, 0, .rwo⟩
/-- SCR_ERR(b): R250, 08_scratch_banks.md. -/
def Reg.SCR_ERR (b : Nat) : Nat := 0x20100C + 0x20 * b
def Fld.SCR_ERR_UNCORR : Field := ⟨31, 16, .rw⟩
def Fld.SCR_ERR_CORR : Field := ⟨15, 0, .rw⟩
/-- SCR_UELOG(b): R250, 08_scratch_banks.md. -/
def Reg.SCR_UELOG (b : Nat) : Nat := 0x201010 + 0x20 * b
def Fld.SCR_UELOG_VALID : Field := ⟨31, 31, .w1c⟩
def Fld.SCR_UELOG_MORE : Field := ⟨30, 30, .w1c⟩
def Fld.SCR_UELOG_WORD : Field := ⟨14, 0, .ro⟩

/-- Rows of the SCR span, part 0. -/
def rowsSCR0 : List RegRow := [
  ⟨0x200000, [], 0x0, [Fld.SCR_OWNLOG_VALID, Fld.SCR_OWNLOG_MORE, Fld.SCR_OWNLOG_IDENT, Fld.SCR_OWNLOG_BANK]⟩,
  ⟨0x200004, [], 0x0, [Fld.SCR_OWNCNT_COUNT]⟩,
  ⟨0x201000, [(96, 0x20)], 0x0, [Fld.SCR_OWN_PENDING, Fld.SCR_OWN_LAST, Fld.SCR_OWN_STATE, Fld.SCR_OWN_OWNER]⟩,
  ⟨0x201004, [(96, 0x20)], 0x0, [Fld.SCR_HANDOVER_CLEAR, Fld.SCR_HANDOVER_NEW]⟩,
  ⟨0x201008, [(96, 0x20)], 0x0, [Fld.SCR_CFG_GRANT_EN, Fld.SCR_CFG_GRANT, Fld.SCR_CFG_ROTATE]⟩,
  ⟨0x20100C, [(96, 0x20)], 0x0, [Fld.SCR_ERR_UNCORR, Fld.SCR_ERR_CORR]⟩,
  ⟨0x201010, [(96, 0x20)], 0x0, [Fld.SCR_UELOG_VALID, Fld.SCR_UELOG_MORE, Fld.SCR_UELOG_WORD]⟩]
def rowsSCR : List RegRow := rowsSCR0

/-! ### NOC span, 0x280000 – 0x37FFFF (R31) -/

/-- NOC_CTL: R281, 09_network_on_chip.md. -/
def Reg.NOC_CTL : Nat := 0x280000
def Fld.NOC_CTL_AUTO_REROUTE : Field := ⟨2, 2, .rw⟩
def Fld.NOC_CTL_RECOMPUTE : Field := ⟨1, 1, .wo⟩
def Fld.NOC_CTL_FLIP : Field := ⟨0, 0, .wo⟩
/-- NOC_STATUS: R281, 09_network_on_chip.md. -/
def Reg.NOC_STATUS : Nat := 0x280004
def Fld.NOC_STATUS_RECOMP_BUSY : Field := ⟨31, 31, .ro⟩
def Fld.NOC_STATUS_RECOMP_QUEUED : Field := ⟨30, 30, .ro⟩
def Fld.NOC_STATUS_FLIP_STATE : Field := ⟨29, 29, .ro⟩
def Fld.NOC_STATUS_EPOCH : Field := ⟨28, 28, .ro⟩
def Fld.NOC_STATUS_FLIP_REFUSED : Field := ⟨27, 27, .w1c⟩
def Fld.NOC_STATUS_RT_REFUSED : Field := ⟨26, 26, .w1c⟩
def Fld.NOC_STATUS_LIMIT_REFUSED : Field := ⟨25, 25, .w1c⟩
/-- NOC_LINK_POLICY: R281, 09_network_on_chip.md. -/
def Reg.NOC_LINK_POLICY : Nat := 0x280010
def Fld.NOC_LINK_POLICY_THRESH : Field := ⟨31, 24, .rw⟩
def Fld.NOC_LINK_POLICY_LEAK : Field := ⟨23, 0, .rw⟩
/-- NOC_DISCARD_LOG: R281, 09_network_on_chip.md. -/
def Reg.NOC_DISCARD_LOG : Nat := 0x28001C
def Fld.NOC_DISCARD_LOG_VALID : Field := ⟨31, 31, .w1c⟩
def Fld.NOC_DISCARD_LOG_MORE : Field := ⟨30, 30, .w1c⟩
def Fld.NOC_DISCARD_LOG_REASON : Field := ⟨29, 28, .ro⟩
def Fld.NOC_DISCARD_LOG_ROUTER : Field := ⟨27, 22, .ro⟩
def Fld.NOC_DISCARD_LOG_KIND : Field := ⟨21, 19, .ro⟩
def Fld.NOC_DISCARD_LOG_CLASS : Field := ⟨18, 18, .ro⟩
def Fld.NOC_DISCARD_LOG_STREAM : Field := ⟨17, 15, .ro⟩
def Fld.NOC_DISCARD_LOG_SRC : Field := ⟨7, 0, .ro⟩
/-- NOC_DISCARD_CNT: R281, 09_network_on_chip.md. -/
def Reg.NOC_DISCARD_CNT : Nat := 0x280020
def Fld.NOC_DISCARD_CNT_COUNT : Field := ⟨31, 0, .rw⟩
/-- NOC_CNT_TIMEOUT: R281, 09_network_on_chip.md. -/
def Reg.NOC_CNT_TIMEOUT : Nat := 0x280024
def Fld.NOC_CNT_TIMEOUT_COUNT : Field := ⟨31, 0, .rw⟩
/-- NOC_CNT_LATE: R281, 09_network_on_chip.md. -/
def Reg.NOC_CNT_LATE : Nat := 0x280028
def Fld.NOC_CNT_LATE_COUNT : Field := ⟨31, 0, .rw⟩
/-- NOC_TGT_LIMIT: R281, 09_network_on_chip.md. -/
def Reg.NOC_TGT_LIMIT : Nat := 0x280008
def Fld.NOC_TGT_LIMIT_LIMIT : Field := ⟨19, 0, .rw⟩
/-- NOC_INIT_LIMIT: R281, 09_network_on_chip.md. -/
def Reg.NOC_INIT_LIMIT : Nat := 0x28000C
def Fld.NOC_INIT_LIMIT_LIMIT : Field := ⟨19, 0, .rw⟩
/-- NOC_INT_STATUS: R281, 09_network_on_chip.md. -/
def Reg.NOC_INT_STATUS : Nat := 0x280014
def Fld.NOC_INT_STATUS_UNREACH : Field := ⟨5, 5, .w1c⟩
def Fld.NOC_INT_STATUS_FLIP_DONE : Field := ⟨4, 4, .w1c⟩
def Fld.NOC_INT_STATUS_CRC : Field := ⟨3, 3, .w1c⟩
def Fld.NOC_INT_STATUS_DISCARD : Field := ⟨2, 2, .w1c⟩
def Fld.NOC_INT_STATUS_DEAD : Field := ⟨1, 1, .w1c⟩
def Fld.NOC_INT_STATUS_RETIRED : Field := ⟨0, 0, .w1c⟩
/-- NOC_INT_EN: R281, 09_network_on_chip.md. -/
def Reg.NOC_INT_EN : Nat := 0x280018
def Fld.NOC_INT_EN_UNREACH : Field := ⟨5, 5, .rw⟩
def Fld.NOC_INT_EN_FLIP_DONE : Field := ⟨4, 4, .rw⟩
def Fld.NOC_INT_EN_CRC : Field := ⟨3, 3, .rw⟩
def Fld.NOC_INT_EN_DISCARD : Field := ⟨2, 2, .rw⟩
def Fld.NOC_INT_EN_DEAD : Field := ⟨1, 1, .rw⟩
def Fld.NOC_INT_EN_RETIRED : Field := ⟨0, 0, .rw⟩
/-- NOC_LINK(n, p): R281, 09_network_on_chip.md. -/
def Reg.NOC_LINK (n : Nat) (p : Nat) : Nat := 0x290000 + 0x2000 * n + 0x4 * p
def Fld.NOC_LINK_STATE : Field := ⟨31, 30, .ro⟩
def Fld.NOC_LINK_BUCKET : Field := ⟨23, 16, .ro⟩
def Fld.NOC_LINK_RETIRE : Field := ⟨0, 0, .wo⟩
/-- NOC_LINK_CNT(n, p): R281, 09_network_on_chip.md. -/
def Reg.NOC_LINK_CNT (n : Nat) (p : Nat) : Nat := 0x290010 + 0x2000 * n + 0x4 * p
def Fld.NOC_LINK_CNT_RETRY : Field := ⟨31, 16, .rw⟩
def Fld.NOC_LINK_CNT_CORR : Field := ⟨15, 0, .rw⟩
/-- NOC_RT_LO(n, b, d): R281, 09_network_on_chip.md. -/
def Reg.NOC_RT_LO (n : Nat) (b : Nat) (d : Nat) : Nat := 0x290400 + 0x2000 * n + 0x200 * b + 0x8 * d
def Fld.NOC_RT_LO_ROUTE : Field := ⟨31, 0, .rw⟩
/-- NOC_RT_HI(n, b, d): R281, 09_network_on_chip.md. -/
def Reg.NOC_RT_HI (n : Nat) (b : Nat) (d : Nat) : Nat := 0x290404 + 0x2000 * n + 0x200 * b + 0x8 * d
def Fld.NOC_RT_HI_VALID : Field := ⟨31, 31, .rw⟩
def Fld.NOC_RT_HI_UNREACH : Field := ⟨30, 30, .rw⟩
def Fld.NOC_RT_HI_RETIRED : Field := ⟨21, 16, .rw⟩
def Fld.NOC_RT_HI_ROUTE : Field := ⟨15, 0, .rw⟩

/-- Rows of the NOC span, part 0. -/
def rowsNOC0 : List RegRow := [
  ⟨0x280000, [], 0x4, [Fld.NOC_CTL_AUTO_REROUTE, Fld.NOC_CTL_RECOMPUTE, Fld.NOC_CTL_FLIP]⟩,
  ⟨0x280004, [], 0x0, [Fld.NOC_STATUS_RECOMP_BUSY, Fld.NOC_STATUS_RECOMP_QUEUED, Fld.NOC_STATUS_FLIP_STATE, Fld.NOC_STATUS_EPOCH, Fld.NOC_STATUS_FLIP_REFUSED, Fld.NOC_STATUS_RT_REFUSED, Fld.NOC_STATUS_LIMIT_REFUSED]⟩,
  ⟨0x280010, [], 0x10061A80, [Fld.NOC_LINK_POLICY_THRESH, Fld.NOC_LINK_POLICY_LEAK]⟩,
  ⟨0x28001C, [], 0x0, [Fld.NOC_DISCARD_LOG_VALID, Fld.NOC_DISCARD_LOG_MORE, Fld.NOC_DISCARD_LOG_REASON, Fld.NOC_DISCARD_LOG_ROUTER, Fld.NOC_DISCARD_LOG_KIND, Fld.NOC_DISCARD_LOG_CLASS, Fld.NOC_DISCARD_LOG_STREAM, Fld.NOC_DISCARD_LOG_SRC]⟩,
  ⟨0x280020, [], 0x0, [Fld.NOC_DISCARD_CNT_COUNT]⟩,
  ⟨0x280024, [], 0x0, [Fld.NOC_CNT_TIMEOUT_COUNT]⟩,
  ⟨0x280028, [], 0x0, [Fld.NOC_CNT_LATE_COUNT]⟩,
  ⟨0x280008, [], 0x1000, [Fld.NOC_TGT_LIMIT_LIMIT]⟩,
  ⟨0x28000C, [], 0x4000, [Fld.NOC_INIT_LIMIT_LIMIT]⟩,
  ⟨0x280014, [], 0x0, [Fld.NOC_INT_STATUS_UNREACH, Fld.NOC_INT_STATUS_FLIP_DONE, Fld.NOC_INT_STATUS_CRC, Fld.NOC_INT_STATUS_DISCARD, Fld.NOC_INT_STATUS_DEAD, Fld.NOC_INT_STATUS_RETIRED]⟩,
  ⟨0x280018, [], 0x0, [Fld.NOC_INT_EN_UNREACH, Fld.NOC_INT_EN_FLIP_DONE, Fld.NOC_INT_EN_CRC, Fld.NOC_INT_EN_DISCARD, Fld.NOC_INT_EN_DEAD, Fld.NOC_INT_EN_RETIRED]⟩,
  ⟨0x290000, [(64, 0x2000), (4, 0x4)], 0x0, [Fld.NOC_LINK_STATE, Fld.NOC_LINK_BUCKET, Fld.NOC_LINK_RETIRE]⟩]
/-- Rows of the NOC span, part 1. -/
def rowsNOC1 : List RegRow := [
  ⟨0x290010, [(64, 0x2000), (4, 0x4)], 0x0, [Fld.NOC_LINK_CNT_RETRY, Fld.NOC_LINK_CNT_CORR]⟩,
  ⟨0x290400, [(64, 0x2000), (2, 0x200), (64, 0x8)], 0x0, [Fld.NOC_RT_LO_ROUTE]⟩,
  ⟨0x290404, [(64, 0x2000), (2, 0x200), (64, 0x8)], 0x0, [Fld.NOC_RT_HI_VALID, Fld.NOC_RT_HI_UNREACH, Fld.NOC_RT_HI_RETIRED, Fld.NOC_RT_HI_ROUTE]⟩]
def rowsNOC : List RegRow := rowsNOC0 ++ rowsNOC1

/-! ### STAT span, 0x380000 – 0x3FFFFF (R31) -/

/-- STAT_CTL: R282, 09_network_on_chip.md. -/
def Reg.STAT_CTL : Nat := 0x380000
def Fld.STAT_CTL_VIEW : Field := ⟨1, 1, .rw⟩
def Fld.STAT_CTL_SNAP : Field := ⟨0, 0, .w1s⟩
/-- STAT_INT_STATUS: R282, 09_network_on_chip.md. -/
def Reg.STAT_INT_STATUS : Nat := 0x380004
def Fld.STAT_INT_STATUS_TAINT : Field := ⟨0, 0, .w1c⟩
/-- STAT_INT_EN: R282, 09_network_on_chip.md. -/
def Reg.STAT_INT_EN : Nat := 0x380008
def Fld.STAT_INT_EN_TAINT : Field := ⟨0, 0, .rw⟩
/-- STAT_LEAF_RD_LO(i): R282, 09_network_on_chip.md. -/
def Reg.STAT_LEAF_RD_LO (i : Nat) : Nat := 0x390000 + 0x40 * i
def Fld.STAT_LEAF_RD_LO_BYTES : Field := ⟨31, 0, .rw⟩
/-- STAT_LEAF_RD_HI(i): R282, 09_network_on_chip.md. -/
def Reg.STAT_LEAF_RD_HI (i : Nat) : Nat := 0x390004 + 0x40 * i
def Fld.STAT_LEAF_RD_HI_BYTES : Field := ⟨15, 0, .rw⟩
/-- STAT_LEAF_WR_LO(i): R282, 09_network_on_chip.md. -/
def Reg.STAT_LEAF_WR_LO (i : Nat) : Nat := 0x390008 + 0x40 * i
def Fld.STAT_LEAF_WR_LO_BYTES : Field := ⟨31, 0, .rw⟩
/-- STAT_LEAF_WR_HI(i): R282, 09_network_on_chip.md. -/
def Reg.STAT_LEAF_WR_HI (i : Nat) : Nat := 0x39000C + 0x40 * i
def Fld.STAT_LEAF_WR_HI_BYTES : Field := ⟨15, 0, .rw⟩
/-- STAT_LEAF_BIN(i, k): R282, 09_network_on_chip.md. -/
def Reg.STAT_LEAF_BIN (i : Nat) (k : Nat) : Nat := 0x390010 + 0x40 * i + 0x4 * k
def Fld.STAT_LEAF_BIN_COUNT : Field := ⟨31, 0, .rw⟩
/-- STAT_LEAF_STATUS(i): R282, 09_network_on_chip.md. -/
def Reg.STAT_LEAF_STATUS (i : Nat) : Nat := 0x390030 + 0x40 * i
def Fld.STAT_LEAF_STATUS_TAINT : Field := ⟨31, 31, .w1c⟩
/-- STAT_ROW_RD_LO(y): R282, 09_network_on_chip.md. -/
def Reg.STAT_ROW_RD_LO (y : Nat) : Nat := 0x3A0000 + 0x40 * y
def Fld.STAT_ROW_RD_LO_BYTES : Field := ⟨31, 0, .rw⟩
/-- STAT_ROW_RD_HI(y): R282, 09_network_on_chip.md. -/
def Reg.STAT_ROW_RD_HI (y : Nat) : Nat := 0x3A0004 + 0x40 * y
def Fld.STAT_ROW_RD_HI_BYTES : Field := ⟨15, 0, .rw⟩
/-- STAT_ROW_WR_LO(y): R282, 09_network_on_chip.md. -/
def Reg.STAT_ROW_WR_LO (y : Nat) : Nat := 0x3A0008 + 0x40 * y
def Fld.STAT_ROW_WR_LO_BYTES : Field := ⟨31, 0, .rw⟩
/-- STAT_ROW_WR_HI(y): R282, 09_network_on_chip.md. -/
def Reg.STAT_ROW_WR_HI (y : Nat) : Nat := 0x3A000C + 0x40 * y
def Fld.STAT_ROW_WR_HI_BYTES : Field := ⟨15, 0, .rw⟩
/-- STAT_ROW_BIN(y, k): R282, 09_network_on_chip.md. -/
def Reg.STAT_ROW_BIN (y : Nat) (k : Nat) : Nat := 0x3A0010 + 0x40 * y + 0x4 * k
def Fld.STAT_ROW_BIN_COUNT : Field := ⟨31, 0, .rw⟩
/-- STAT_ROW_STATUS(y): R282, 09_network_on_chip.md. -/
def Reg.STAT_ROW_STATUS (y : Nat) : Nat := 0x3A0030 + 0x40 * y
def Fld.STAT_ROW_STATUS_TAINT : Field := ⟨31, 31, .w1c⟩
/-- STAT_DEV_RD_LO: R282, 09_network_on_chip.md. -/
def Reg.STAT_DEV_RD_LO : Nat := 0x3A0200
def Fld.STAT_DEV_RD_LO_BYTES : Field := ⟨31, 0, .rw⟩
/-- STAT_DEV_RD_HI: R282, 09_network_on_chip.md. -/
def Reg.STAT_DEV_RD_HI : Nat := 0x3A0204
def Fld.STAT_DEV_RD_HI_BYTES : Field := ⟨15, 0, .rw⟩
/-- STAT_DEV_WR_LO: R282, 09_network_on_chip.md. -/
def Reg.STAT_DEV_WR_LO : Nat := 0x3A0208
def Fld.STAT_DEV_WR_LO_BYTES : Field := ⟨31, 0, .rw⟩
/-- STAT_DEV_WR_HI: R282, 09_network_on_chip.md. -/
def Reg.STAT_DEV_WR_HI : Nat := 0x3A020C
def Fld.STAT_DEV_WR_HI_BYTES : Field := ⟨15, 0, .rw⟩
/-- STAT_DEV_BIN(k): R282, 09_network_on_chip.md. -/
def Reg.STAT_DEV_BIN (k : Nat) : Nat := 0x3A0210 + 0x4 * k
def Fld.STAT_DEV_BIN_COUNT : Field := ⟨31, 0, .rw⟩
/-- STAT_DEV_STATUS: R282, 09_network_on_chip.md. -/
def Reg.STAT_DEV_STATUS : Nat := 0x3A0230
def Fld.STAT_DEV_STATUS_TAINT : Field := ⟨31, 31, .w1c⟩

/-- Rows of the STAT span, part 0. -/
def rowsSTAT0 : List RegRow := [
  ⟨0x380000, [], 0x0, [Fld.STAT_CTL_VIEW, Fld.STAT_CTL_SNAP]⟩,
  ⟨0x380004, [], 0x0, [Fld.STAT_INT_STATUS_TAINT]⟩,
  ⟨0x380008, [], 0x0, [Fld.STAT_INT_EN_TAINT]⟩,
  ⟨0x390000, [(256, 0x40)], 0x0, [Fld.STAT_LEAF_RD_LO_BYTES]⟩,
  ⟨0x390004, [(256, 0x40)], 0x0, [Fld.STAT_LEAF_RD_HI_BYTES]⟩,
  ⟨0x390008, [(256, 0x40)], 0x0, [Fld.STAT_LEAF_WR_LO_BYTES]⟩,
  ⟨0x39000C, [(256, 0x40)], 0x0, [Fld.STAT_LEAF_WR_HI_BYTES]⟩,
  ⟨0x390010, [(256, 0x40), (8, 0x4)], 0x0, [Fld.STAT_LEAF_BIN_COUNT]⟩,
  ⟨0x390030, [(256, 0x40)], 0x0, [Fld.STAT_LEAF_STATUS_TAINT]⟩,
  ⟨0x3A0000, [(8, 0x40)], 0x0, [Fld.STAT_ROW_RD_LO_BYTES]⟩,
  ⟨0x3A0004, [(8, 0x40)], 0x0, [Fld.STAT_ROW_RD_HI_BYTES]⟩,
  ⟨0x3A0008, [(8, 0x40)], 0x0, [Fld.STAT_ROW_WR_LO_BYTES]⟩]
/-- Rows of the STAT span, part 1. -/
def rowsSTAT1 : List RegRow := [
  ⟨0x3A000C, [(8, 0x40)], 0x0, [Fld.STAT_ROW_WR_HI_BYTES]⟩,
  ⟨0x3A0010, [(8, 0x40), (8, 0x4)], 0x0, [Fld.STAT_ROW_BIN_COUNT]⟩,
  ⟨0x3A0030, [(8, 0x40)], 0x0, [Fld.STAT_ROW_STATUS_TAINT]⟩,
  ⟨0x3A0200, [], 0x0, [Fld.STAT_DEV_RD_LO_BYTES]⟩,
  ⟨0x3A0204, [], 0x0, [Fld.STAT_DEV_RD_HI_BYTES]⟩,
  ⟨0x3A0208, [], 0x0, [Fld.STAT_DEV_WR_LO_BYTES]⟩,
  ⟨0x3A020C, [], 0x0, [Fld.STAT_DEV_WR_HI_BYTES]⟩,
  ⟨0x3A0210, [(8, 0x4)], 0x0, [Fld.STAT_DEV_BIN_COUNT]⟩,
  ⟨0x3A0230, [], 0x0, [Fld.STAT_DEV_STATUS_TAINT]⟩]
def rowsSTAT : List RegRow := rowsSTAT0 ++ rowsSTAT1

/-! ### CACHE span, 0x400000 – 0x47FFFF (R31) -/

/-- CACHE_STATUS: R333, 11_stacked_cache_and_scrubbing.md. -/
def Reg.CACHE_STATUS : Nat := 0x400000
def Fld.CACHE_STATUS_FILLED : Field := ⟨31, 31, .ro⟩
def Fld.CACHE_STATUS_CAP_WAYS : Field := ⟨9, 0, .ro⟩
/-- CACHE_INT_STATUS: R333, 11_stacked_cache_and_scrubbing.md. -/
def Reg.CACHE_INT_STATUS : Nat := 0x400004
def Fld.CACHE_INT_STATUS_TAGLOSS : Field := ⟨3, 3, .w1c⟩
def Fld.CACHE_INT_STATUS_REMAP_DONE : Field := ⟨2, 2, .w1c⟩
def Fld.CACHE_INT_STATUS_RETIRED : Field := ⟨1, 1, .w1c⟩
def Fld.CACHE_INT_STATUS_UNCORR : Field := ⟨0, 0, .w1c⟩
/-- CACHE_INT_EN: R333, 11_stacked_cache_and_scrubbing.md. -/
def Reg.CACHE_INT_EN : Nat := 0x400008
def Fld.CACHE_INT_EN_TAGLOSS : Field := ⟨3, 3, .rw⟩
def Fld.CACHE_INT_EN_REMAP_DONE : Field := ⟨2, 2, .rw⟩
def Fld.CACHE_INT_EN_RETIRED : Field := ⟨1, 1, .rw⟩
def Fld.CACHE_INT_EN_UNCORR : Field := ⟨0, 0, .rw⟩
/-- CACHE_WAY_CFG(w): R333, 11_stacked_cache_and_scrubbing.md. -/
def Reg.CACHE_WAY_CFG (w : Nat) : Nat := 0x400040 + 0x4 * w
def Fld.CACHE_WAY_CFG_USE : Field := ⟨1, 0, .ro⟩
/-- CACHE_CMD: R333, 11_stacked_cache_and_scrubbing.md. -/
def Reg.CACHE_CMD : Nat := 0x400080
def Fld.CACHE_CMD_GO : Field := ⟨31, 31, .wo⟩
def Fld.CACHE_CMD_WAY : Field := ⟨15, 12, .rw⟩
def Fld.CACHE_CMD_USE : Field := ⟨9, 8, .rw⟩
def Fld.CACHE_CMD_OP : Field := ⟨1, 0, .rw⟩
/-- CACHE_CMD_STATUS: R333, 11_stacked_cache_and_scrubbing.md. -/
def Reg.CACHE_CMD_STATUS : Nat := 0x400084
def Fld.CACHE_CMD_STATUS_BUSY : Field := ⟨31, 31, .ro⟩
def Fld.CACHE_CMD_STATUS_DONE : Field := ⟨30, 30, .w1c⟩
def Fld.CACHE_CMD_STATUS_OUTCOME : Field := ⟨19, 16, .ro⟩
def Fld.CACHE_CMD_STATUS_PROGRESS : Field := ⟨14, 0, .ro⟩
/-- CACHE_SLICE(n): R333, 11_stacked_cache_and_scrubbing.md. -/
def Reg.CACHE_SLICE (n : Nat) : Nat := 0x401000 + 0x10 * n
def Fld.CACHE_SLICE_REMAP : Field := ⟨31, 31, .ro⟩
def Fld.CACHE_SLICE_CMD_FALLBACK : Field := ⟨30, 30, .ro⟩
def Fld.CACHE_SLICE_VICTIM : Field := ⟨23, 20, .ro⟩
def Fld.CACHE_SLICE_RETIRED : Field := ⟨15, 0, .ro⟩
/-- CACHE_ERR(n): R333, 11_stacked_cache_and_scrubbing.md. -/
def Reg.CACHE_ERR (n : Nat) : Nat := 0x401004 + 0x10 * n
def Fld.CACHE_ERR_UNCORR : Field := ⟨31, 16, .rw⟩
def Fld.CACHE_ERR_CORR : Field := ⟨15, 0, .rw⟩
/-- CACHE_UELOG(n): R333, 11_stacked_cache_and_scrubbing.md. -/
def Reg.CACHE_UELOG (n : Nat) : Nat := 0x401008 + 0x10 * n
def Fld.CACHE_UELOG_VALID : Field := ⟨31, 31, .w1c⟩
def Fld.CACHE_UELOG_MORE : Field := ⟨30, 30, .w1c⟩
def Fld.CACHE_UELOG_WAY : Field := ⟨23, 20, .ro⟩
def Fld.CACHE_UELOG_SET : Field := ⟨19, 6, .ro⟩
def Fld.CACHE_UELOG_WORD : Field := ⟨4, 0, .ro⟩
/-- CACHE_TAGLOG(n): R333, 11_stacked_cache_and_scrubbing.md. -/
def Reg.CACHE_TAGLOG (n : Nat) : Nat := 0x40100C + 0x10 * n
def Fld.CACHE_TAGLOG_VALID : Field := ⟨31, 31, .w1c⟩
def Fld.CACHE_TAGLOG_MORE : Field := ⟨30, 30, .w1c⟩
def Fld.CACHE_TAGLOG_WAY : Field := ⟨23, 20, .ro⟩
def Fld.CACHE_TAGLOG_SET : Field := ⟨19, 6, .ro⟩
def Fld.CACHE_TAGLOG_WORD : Field := ⟨4, 0, .ro⟩

/-- Rows of the CACHE span, part 0. -/
def rowsCACHE0 : List RegRow := [
  ⟨0x400000, [], 0x3C0, [Fld.CACHE_STATUS_FILLED, Fld.CACHE_STATUS_CAP_WAYS]⟩,
  ⟨0x400004, [], 0x0, [Fld.CACHE_INT_STATUS_TAGLOSS, Fld.CACHE_INT_STATUS_REMAP_DONE, Fld.CACHE_INT_STATUS_RETIRED, Fld.CACHE_INT_STATUS_UNCORR]⟩,
  ⟨0x400008, [], 0x0, [Fld.CACHE_INT_EN_TAGLOSS, Fld.CACHE_INT_EN_REMAP_DONE, Fld.CACHE_INT_EN_RETIRED, Fld.CACHE_INT_EN_UNCORR]⟩,
  ⟨0x400040, [(16, 0x4)], 0x0, [Fld.CACHE_WAY_CFG_USE]⟩,
  ⟨0x400080, [], 0x0, [Fld.CACHE_CMD_GO, Fld.CACHE_CMD_WAY, Fld.CACHE_CMD_USE, Fld.CACHE_CMD_OP]⟩,
  ⟨0x400084, [], 0x0, [Fld.CACHE_CMD_STATUS_BUSY, Fld.CACHE_CMD_STATUS_DONE, Fld.CACHE_CMD_STATUS_OUTCOME, Fld.CACHE_CMD_STATUS_PROGRESS]⟩,
  ⟨0x401000, [(64, 0x10)], 0x0, [Fld.CACHE_SLICE_REMAP, Fld.CACHE_SLICE_CMD_FALLBACK, Fld.CACHE_SLICE_VICTIM, Fld.CACHE_SLICE_RETIRED]⟩,
  ⟨0x401004, [(64, 0x10)], 0x0, [Fld.CACHE_ERR_UNCORR, Fld.CACHE_ERR_CORR]⟩,
  ⟨0x401008, [(64, 0x10)], 0x0, [Fld.CACHE_UELOG_VALID, Fld.CACHE_UELOG_MORE, Fld.CACHE_UELOG_WAY, Fld.CACHE_UELOG_SET, Fld.CACHE_UELOG_WORD]⟩,
  ⟨0x40100C, [(64, 0x10)], 0x0, [Fld.CACHE_TAGLOG_VALID, Fld.CACHE_TAGLOG_MORE, Fld.CACHE_TAGLOG_WAY, Fld.CACHE_TAGLOG_SET, Fld.CACHE_TAGLOG_WORD]⟩]
def rowsCACHE : List RegRow := rowsCACHE0

/-! ### EMC span, 0x480000 – 0x4FFFFF (R31) -/

/-- EMC_CTL: R357, 12_external_memory_encryption.md. -/
def Reg.EMC_CTL : Nat := 0x480000
def Fld.EMC_CTL_MAP : Field := ⟨31, 31, .wo⟩
def Fld.EMC_CTL_CACHE_EN : Field := ⟨2, 2, .rw⟩
def Fld.EMC_CTL_TAGS : Field := ⟨1, 1, .rwl⟩
/-- EMC_STATUS: R357, 12_external_memory_encryption.md. -/
def Reg.EMC_STATUS : Nat := 0x480004
def Fld.EMC_STATUS_MAPPED : Field := ⟨31, 31, .ro⟩
def Fld.EMC_STATUS_MAP_REFUSED : Field := ⟨30, 30, .w1c⟩
def Fld.EMC_STATUS_CAPACITY : Field := ⟨19, 0, .ro⟩
/-- EMC_INT_STATUS: R357, 12_external_memory_encryption.md. -/
def Reg.EMC_INT_STATUS : Nat := 0x480008
def Fld.EMC_INT_STATUS_TRAIN_FAIL : Field := ⟨2, 2, .w1c⟩
def Fld.EMC_INT_STATUS_UNCORR : Field := ⟨1, 1, .w1c⟩
def Fld.EMC_INT_STATUS_FILL_DONE : Field := ⟨0, 0, .w1c⟩
/-- EMC_INT_EN: R357, 12_external_memory_encryption.md. -/
def Reg.EMC_INT_EN : Nat := 0x48000C
def Fld.EMC_INT_EN_TRAIN_FAIL : Field := ⟨2, 2, .rw⟩
def Fld.EMC_INT_EN_UNCORR : Field := ⟨1, 1, .rw⟩
def Fld.EMC_INT_EN_FILL_DONE : Field := ⟨0, 0, .rw⟩
/-- EMC_FILL_CTL: R357, 12_external_memory_encryption.md. -/
def Reg.EMC_FILL_CTL : Nat := 0x480010
def Fld.EMC_FILL_CTL_GO : Field := ⟨31, 31, .wo⟩
def Fld.EMC_FILL_CTL_CANCEL : Field := ⟨30, 30, .wo⟩
/-- EMC_FILL_START: R357, 12_external_memory_encryption.md. -/
def Reg.EMC_FILL_START : Nat := 0x480014
def Fld.EMC_FILL_START_GRANULE : Field := ⟨19, 0, .rw⟩
/-- EMC_FILL_COUNT: R357, 12_external_memory_encryption.md. -/
def Reg.EMC_FILL_COUNT : Nat := 0x480018
def Fld.EMC_FILL_COUNT_GRANULE : Field := ⟨19, 0, .rw⟩
/-- EMC_FILL_STATUS: R357, 12_external_memory_encryption.md. -/
def Reg.EMC_FILL_STATUS : Nat := 0x48001C
def Fld.EMC_FILL_STATUS_BUSY : Field := ⟨31, 31, .ro⟩
def Fld.EMC_FILL_STATUS_DONE : Field := ⟨30, 30, .w1c⟩
def Fld.EMC_FILL_STATUS_OUTCOME : Field := ⟨23, 20, .ro⟩
def Fld.EMC_FILL_STATUS_PROGRESS : Field := ⟨19, 0, .ro⟩
/-- EMC_CNT_UNINIT: R357, 12_external_memory_encryption.md. -/
def Reg.EMC_CNT_UNINIT : Nat := 0x480020
def Fld.EMC_CNT_UNINIT_COUNT : Field := ⟨31, 0, .rw⟩
/-- EMC_CH_CFG(c): R357, 12_external_memory_encryption.md. -/
def Reg.EMC_CH_CFG (c : Nat) : Nat := 0x480100 + 0x10 * c
def Fld.EMC_CH_CFG_EN : Field := ⟨31, 31, .rw⟩
def Fld.EMC_CH_CFG_TRAIN : Field := ⟨30, 30, .wo⟩
def Fld.EMC_CH_CFG_GEN : Field := ⟨27, 26, .rw⟩
def Fld.EMC_CH_CFG_SPEED : Field := ⟨25, 24, .rw⟩
def Fld.EMC_CH_CFG_RANKS : Field := ⟨19, 18, .rw⟩
def Fld.EMC_CH_CFG_CAP : Field := ⟨15, 8, .rw⟩
/-- EMC_CH_STATUS(c): R357, 12_external_memory_encryption.md. -/
def Reg.EMC_CH_STATUS (c : Nat) : Nat := 0x480104 + 0x10 * c
def Fld.EMC_CH_STATUS_STATE : Field := ⟨2, 0, .ro⟩
/-- EMC_CH_ERR(c): R357, 12_external_memory_encryption.md. -/
def Reg.EMC_CH_ERR (c : Nat) : Nat := 0x480108 + 0x10 * c
def Fld.EMC_CH_ERR_UNCORR : Field := ⟨31, 16, .rw⟩
def Fld.EMC_CH_ERR_CORR : Field := ⟨15, 0, .rw⟩
/-- EMC_FILLED(k): R357, 12_external_memory_encryption.md. -/
def Reg.EMC_FILLED (k : Nat) : Nat := 0x490000 + 0x4 * k
def Fld.EMC_FILLED_FILLED : Field := ⟨31, 0, .ro⟩

/-- Rows of the EMC span, part 0. -/
def rowsEMC0 : List RegRow := [
  ⟨0x480000, [], 0x0, [Fld.EMC_CTL_MAP, Fld.EMC_CTL_CACHE_EN, Fld.EMC_CTL_TAGS]⟩,
  ⟨0x480004, [], 0x0, [Fld.EMC_STATUS_MAPPED, Fld.EMC_STATUS_MAP_REFUSED, Fld.EMC_STATUS_CAPACITY]⟩,
  ⟨0x480008, [], 0x0, [Fld.EMC_INT_STATUS_TRAIN_FAIL, Fld.EMC_INT_STATUS_UNCORR, Fld.EMC_INT_STATUS_FILL_DONE]⟩,
  ⟨0x48000C, [], 0x0, [Fld.EMC_INT_EN_TRAIN_FAIL, Fld.EMC_INT_EN_UNCORR, Fld.EMC_INT_EN_FILL_DONE]⟩,
  ⟨0x480010, [], 0x0, [Fld.EMC_FILL_CTL_GO, Fld.EMC_FILL_CTL_CANCEL]⟩,
  ⟨0x480014, [], 0x0, [Fld.EMC_FILL_START_GRANULE]⟩,
  ⟨0x480018, [], 0x0, [Fld.EMC_FILL_COUNT_GRANULE]⟩,
  ⟨0x48001C, [], 0x0, [Fld.EMC_FILL_STATUS_BUSY, Fld.EMC_FILL_STATUS_DONE, Fld.EMC_FILL_STATUS_OUTCOME, Fld.EMC_FILL_STATUS_PROGRESS]⟩,
  ⟨0x480020, [], 0x0, [Fld.EMC_CNT_UNINIT_COUNT]⟩,
  ⟨0x480100, [(4, 0x10)], 0x0, [Fld.EMC_CH_CFG_EN, Fld.EMC_CH_CFG_TRAIN, Fld.EMC_CH_CFG_GEN, Fld.EMC_CH_CFG_SPEED, Fld.EMC_CH_CFG_RANKS, Fld.EMC_CH_CFG_CAP]⟩,
  ⟨0x480104, [(4, 0x10)], 0x0, [Fld.EMC_CH_STATUS_STATE]⟩,
  ⟨0x480108, [(4, 0x10)], 0x0, [Fld.EMC_CH_ERR_UNCORR, Fld.EMC_CH_ERR_CORR]⟩]
/-- Rows of the EMC span, part 1. -/
def rowsEMC1 : List RegRow := [
  ⟨0x490000, [(16384, 0x4)], 0x0, [Fld.EMC_FILLED_FILLED]⟩]
def rowsEMC : List RegRow := rowsEMC0 ++ rowsEMC1

/-! ### XTS span, 0x500000 – 0x57FFFF (R31) -/

/-- XTS_STATUS: R358, 12_external_memory_encryption.md. -/
def Reg.XTS_STATUS : Nat := 0x500000
def Fld.XTS_STATUS_REFUSED : Field := ⟨31, 31, .w1c⟩
def Fld.XTS_STATUS_ZEROISED : Field := ⟨30, 30, .ro⟩
def Fld.XTS_STATUS_RESULT : Field := ⟨3, 0, .ro⟩
/-- XTS_INT_STATUS: R359, 12_external_memory_encryption.md. -/
def Reg.XTS_INT_STATUS : Nat := 0x500008
def Fld.XTS_INT_STATUS_REFUSED : Field := ⟨2, 2, .w1c⟩
def Fld.XTS_INT_STATUS_ROT_DONE : Field := ⟨1, 1, .w1c⟩
def Fld.XTS_INT_STATUS_ALARM : Field := ⟨0, 0, .w1c⟩
/-- XTS_INT_EN: R359, 12_external_memory_encryption.md. -/
def Reg.XTS_INT_EN : Nat := 0x50000C
def Fld.XTS_INT_EN_REFUSED : Field := ⟨2, 2, .rw⟩
def Fld.XTS_INT_EN_ROT_DONE : Field := ⟨1, 1, .rw⟩
def Fld.XTS_INT_EN_ALARM : Field := ⟨0, 0, .rw⟩
/-- XTS_ALARM: R359, 12_external_memory_encryption.md. -/
def Reg.XTS_ALARM : Nat := 0x500010
def Fld.XTS_ALARM_RAISED : Field := ⟨31, 31, .w1c⟩
def Fld.XTS_ALARM_LOCK : Field := ⟨3, 3, .w1s⟩
def Fld.XTS_ALARM_POLICY : Field := ⟨2, 2, .rwl⟩
def Fld.XTS_ALARM_LINK_TAG : Field := ⟨1, 1, .w1c⟩
def Fld.XTS_ALARM_MEM_TAG : Field := ⟨0, 0, .w1c⟩
/-- XTS_ALARM_LOG: R359, 12_external_memory_encryption.md. -/
def Reg.XTS_ALARM_LOG : Nat := 0x500014
def Fld.XTS_ALARM_LOG_VALID : Field := ⟨31, 31, .w1c⟩
def Fld.XTS_ALARM_LOG_MORE : Field := ⟨30, 30, .w1c⟩
def Fld.XTS_ALARM_LOG_KEYSRC : Field := ⟨20, 16, .ro⟩
def Fld.XTS_ALARM_LOG_CHANNEL : Field := ⟨15, 14, .ro⟩
def Fld.XTS_ALARM_LOG_WHERE : Field := ⟨13, 12, .ro⟩
def Fld.XTS_ALARM_LOG_SRC : Field := ⟨7, 0, .ro⟩
/-- XTS_ALARM_ADDR_LO: R358, 12_external_memory_encryption.md. -/
def Reg.XTS_ALARM_ADDR_LO : Nat := 0x500018
def Fld.XTS_ALARM_ADDR_LO_ADDR : Field := ⟨31, 0, .ro⟩
/-- XTS_ALARM_ADDR_HI: R358, 12_external_memory_encryption.md. -/
def Reg.XTS_ALARM_ADDR_HI : Nat := 0x50001C
def Fld.XTS_ALARM_ADDR_HI_ADDR : Field := ⟨19, 0, .ro⟩
/-- XTS_CNT_AUTH: R359, 12_external_memory_encryption.md. -/
def Reg.XTS_CNT_AUTH : Nat := 0x500020
def Fld.XTS_CNT_AUTH_COUNT : Field := ⟨31, 0, .rwo⟩
/-- XTS_CNT_UNVERIFIED: R359, 12_external_memory_encryption.md. -/
def Reg.XTS_CNT_UNVERIFIED : Nat := 0x500024
def Fld.XTS_CNT_UNVERIFIED_COUNT : Field := ⟨31, 0, .rwo⟩
/-- XTS_KEY_STAGE(i): R359, 12_external_memory_encryption.md. -/
def Reg.XTS_KEY_STAGE (i : Nat) : Nat := 0x500040 + 0x4 * i
def Fld.XTS_KEY_STAGE_KEY : Field := ⟨31, 0, .wo⟩
/-- XTS_KEY_CMD: R359, 12_external_memory_encryption.md. -/
def Reg.XTS_KEY_CMD : Nat := 0x500060
def Fld.XTS_KEY_CMD_GO : Field := ⟨31, 31, .wo⟩
def Fld.XTS_KEY_CMD_KIND : Field := ⟨9, 8, .wo⟩
def Fld.XTS_KEY_CMD_KEY : Field := ⟨5, 4, .wo⟩
def Fld.XTS_KEY_CMD_INDEX : Field := ⟨3, 0, .wo⟩
/-- XTS_RANGE_CTL(j): R359, 12_external_memory_encryption.md. -/
def Reg.XTS_RANGE_CTL (j : Nat) : Nat := 0x500100 + 0x20 * j
def Fld.XTS_RANGE_CTL_EN : Field := ⟨31, 31, .rwo⟩
def Fld.XTS_RANGE_CTL_MODE : Field := ⟨30, 30, .rwl⟩
def Fld.XTS_RANGE_CTL_DEFAULT_SLOT : Field := ⟨11, 8, .rwl⟩
def Fld.XTS_RANGE_CTL_NEW_LOADED : Field := ⟨5, 3, .ro⟩
def Fld.XTS_RANGE_CTL_CUR_LOADED : Field := ⟨2, 0, .ro⟩
/-- XTS_RANGE_BASE(j): R359, 12_external_memory_encryption.md. -/
def Reg.XTS_RANGE_BASE (j : Nat) : Nat := 0x500104 + 0x20 * j
def Fld.XTS_RANGE_BASE_GRANULE : Field := ⟨19, 0, .rwl⟩
/-- XTS_RANGE_LIMIT(j): R359, 12_external_memory_encryption.md. -/
def Reg.XTS_RANGE_LIMIT (j : Nat) : Nat := 0x500108 + 0x20 * j
def Fld.XTS_RANGE_LIMIT_GRANULE : Field := ⟨19, 0, .rwl⟩
/-- XTS_ROT(j): R359, 12_external_memory_encryption.md. -/
def Reg.XTS_ROT (j : Nat) : Nat := 0x50010C + 0x20 * j
def Fld.XTS_ROT_GO : Field := ⟨31, 31, .wo⟩
def Fld.XTS_ROT_BUSY : Field := ⟨30, 30, .ro⟩
def Fld.XTS_ROT_DONE : Field := ⟨29, 29, .w1c⟩
/-- XTS_ROT_PTR(j): R359, 12_external_memory_encryption.md. -/
def Reg.XTS_ROT_PTR (j : Nat) : Nat := 0x500110 + 0x20 * j
def Fld.XTS_ROT_PTR_LINE : Field := ⟨31, 0, .ro⟩
/-- XTS_SLOT(k): R359, 12_external_memory_encryption.md. -/
def Reg.XTS_SLOT (k : Nat) : Nat := 0x500200 + 0x4 * k
def Fld.XTS_SLOT_LOADED : Field := ⟨2, 0, .ro⟩
/-- XTS_LINK(p): R359, 12_external_memory_encryption.md. -/
def Reg.XTS_LINK (p : Nat) : Nat := 0x500300 + 0x4 * p
def Fld.XTS_LINK_EN : Field := ⟨31, 31, .rwo⟩
def Fld.XTS_LINK_LOADED : Field := ⟨2, 0, .ro⟩

/-- Rows of the XTS span, part 0. -/
def rowsXTS0 : List RegRow := [
  ⟨0x500000, [], 0x0, [Fld.XTS_STATUS_REFUSED, Fld.XTS_STATUS_ZEROISED, Fld.XTS_STATUS_RESULT]⟩,
  ⟨0x500008, [], 0x0, [Fld.XTS_INT_STATUS_REFUSED, Fld.XTS_INT_STATUS_ROT_DONE, Fld.XTS_INT_STATUS_ALARM]⟩,
  ⟨0x50000C, [], 0x0, [Fld.XTS_INT_EN_REFUSED, Fld.XTS_INT_EN_ROT_DONE, Fld.XTS_INT_EN_ALARM]⟩,
  ⟨0x500010, [], 0x0, [Fld.XTS_ALARM_RAISED, Fld.XTS_ALARM_LOCK, Fld.XTS_ALARM_POLICY, Fld.XTS_ALARM_LINK_TAG, Fld.XTS_ALARM_MEM_TAG]⟩,
  ⟨0x500014, [], 0x0, [Fld.XTS_ALARM_LOG_VALID, Fld.XTS_ALARM_LOG_MORE, Fld.XTS_ALARM_LOG_KEYSRC, Fld.XTS_ALARM_LOG_CHANNEL, Fld.XTS_ALARM_LOG_WHERE, Fld.XTS_ALARM_LOG_SRC]⟩,
  ⟨0x500018, [], 0x0, [Fld.XTS_ALARM_ADDR_LO_ADDR]⟩,
  ⟨0x50001C, [], 0x0, [Fld.XTS_ALARM_ADDR_HI_ADDR]⟩,
  ⟨0x500020, [], 0x0, [Fld.XTS_CNT_AUTH_COUNT]⟩,
  ⟨0x500024, [], 0x0, [Fld.XTS_CNT_UNVERIFIED_COUNT]⟩,
  ⟨0x500040, [(8, 0x4)], 0x0, [Fld.XTS_KEY_STAGE_KEY]⟩,
  ⟨0x500060, [], 0x0, [Fld.XTS_KEY_CMD_GO, Fld.XTS_KEY_CMD_KIND, Fld.XTS_KEY_CMD_KEY, Fld.XTS_KEY_CMD_INDEX]⟩,
  ⟨0x500100, [(8, 0x20)], 0x0, [Fld.XTS_RANGE_CTL_EN, Fld.XTS_RANGE_CTL_MODE, Fld.XTS_RANGE_CTL_DEFAULT_SLOT, Fld.XTS_RANGE_CTL_NEW_LOADED, Fld.XTS_RANGE_CTL_CUR_LOADED]⟩]
/-- Rows of the XTS span, part 1. -/
def rowsXTS1 : List RegRow := [
  ⟨0x500104, [(8, 0x20)], 0x0, [Fld.XTS_RANGE_BASE_GRANULE]⟩,
  ⟨0x500108, [(8, 0x20)], 0x0, [Fld.XTS_RANGE_LIMIT_GRANULE]⟩,
  ⟨0x50010C, [(8, 0x20)], 0x0, [Fld.XTS_ROT_GO, Fld.XTS_ROT_BUSY, Fld.XTS_ROT_DONE]⟩,
  ⟨0x500110, [(8, 0x20)], 0x0, [Fld.XTS_ROT_PTR_LINE]⟩,
  ⟨0x500200, [(16, 0x4)], 0x0, [Fld.XTS_SLOT_LOADED]⟩,
  ⟨0x500300, [(4, 0x4)], 0x0, [Fld.XTS_LINK_EN, Fld.XTS_LINK_LOADED]⟩]
def rowsXTS : List RegRow := rowsXTS0 ++ rowsXTS1

/-! ### LANE span, 0x580000 – 0x5FFFFF (R31) -/

/-- LANE_INT_STATUS: R380, 13_duplex_lanes_bridge.md. -/
def Reg.LANE_INT_STATUS : Nat := 0x580000
def Fld.LANE_INT_STATUS_QUAD : Field := ⟨11, 0, .ro⟩
/-- LANE_INT_EN: R380, 13_duplex_lanes_bridge.md. -/
def Reg.LANE_INT_EN : Nat := 0x580004
def Fld.LANE_INT_EN_QUAD : Field := ⟨11, 0, .rw⟩
/-- LANE_CFG(l): R380, 13_duplex_lanes_bridge.md. -/
def Reg.LANE_CFG (l : Nat) : Nat := 0x581000 + 0x100 * l
def Fld.LANE_CFG_EN : Field := ⟨31, 31, .rw⟩
def Fld.LANE_CFG_UPPER : Field := ⟨30, 30, .rwl⟩
def Fld.LANE_CFG_BRIDGE : Field := ⟨29, 29, .rwl⟩
def Fld.LANE_CFG_UEIDLE : Field := ⟨28, 28, .rwl⟩
def Fld.LANE_CFG_PEER : Field := ⟨25, 24, .rwl⟩
def Fld.LANE_CFG_FWD_DELAY : Field := ⟨23, 16, .rwl⟩
def Fld.LANE_CFG_PROFILE : Field := ⟨1, 0, .rwl⟩
/-- LANE_CTL(l): R380, 13_duplex_lanes_bridge.md. -/
def Reg.LANE_CTL (l : Nat) : Nat := 0x581004 + 0x100 * l
def Fld.LANE_CTL_REALIGN : Field := ⟨31, 31, .wo⟩
def Fld.LANE_CTL_SLIP : Field := ⟨30, 30, .wo⟩
def Fld.LANE_CTL_PROF_GO : Field := ⟨29, 29, .wo⟩
def Fld.LANE_CTL_PROFILE : Field := ⟨1, 0, .rw⟩
/-- LANE_STATUS(l): R380, 13_duplex_lanes_bridge.md. -/
def Reg.LANE_STATUS (l : Nat) : Nat := 0x581008 + 0x100 * l
def Fld.LANE_STATUS_LOCK_LOST : Field := ⟨31, 31, .w1c⟩
def Fld.LANE_STATUS_FEC_UNC : Field := ⟨30, 30, .w1c⟩
def Fld.LANE_STATUS_CAP_STOP : Field := ⟨29, 29, .w1c⟩
def Fld.LANE_STATUS_PROF_REFUSED : Field := ⟨28, 28, .w1c⟩
def Fld.LANE_STATUS_SUB_REFUSED : Field := ⟨27, 27, .w1c⟩
def Fld.LANE_STATUS_PROF_STAT : Field := ⟨19, 16, .ro⟩
def Fld.LANE_STATUS_FWD_ACTIVE : Field := ⟨9, 9, .ro⟩
def Fld.LANE_STATUS_PROF_BUSY : Field := ⟨8, 8, .ro⟩
def Fld.LANE_STATUS_PROFILE : Field := ⟨5, 4, .ro⟩
def Fld.LANE_STATUS_RX : Field := ⟨3, 2, .ro⟩
def Fld.LANE_STATUS_STATE : Field := ⟨1, 0, .ro⟩
/-- LANE_CAP_CTL(l): R380, 13_duplex_lanes_bridge.md. -/
def Reg.LANE_CAP_CTL (l : Nat) : Nat := 0x5810C0 + 0x100 * l
def Fld.LANE_CAP_CTL_EN : Field := ⟨31, 31, .rw⟩
def Fld.LANE_CAP_CTL_STREAM : Field := ⟨30, 30, .rw⟩
def Fld.LANE_CAP_CTL_WRAP : Field := ⟨29, 29, .rw⟩
def Fld.LANE_CAP_CTL_STOP_EN : Field := ⟨28, 28, .rw⟩
def Fld.LANE_CAP_CTL_STOP_EVT : Field := ⟨27, 24, .rw⟩
def Fld.LANE_CAP_CTL_SIZE : Field := ⟨23, 20, .rw⟩
def Fld.LANE_CAP_CTL_POST : Field := ⟨19, 0, .rw⟩
/-- LANE_CAP_WPTR(l): R380, 13_duplex_lanes_bridge.md. -/
def Reg.LANE_CAP_WPTR (l : Nat) : Nat := 0x5810CC + 0x100 * l
def Fld.LANE_CAP_WPTR_WRAPPED : Field := ⟨31, 31, .ro⟩
def Fld.LANE_CAP_WPTR_STOPPED : Field := ⟨30, 30, .ro⟩
def Fld.LANE_CAP_WPTR_OFFSET : Field := ⟨26, 0, .ro⟩
/-- LANE_ERR(l): R380, 13_duplex_lanes_bridge.md. -/
def Reg.LANE_ERR (l : Nat) : Nat := 0x58100C + 0x100 * l
def Fld.LANE_ERR_DECODE : Field := ⟨31, 16, .rw⟩
def Fld.LANE_ERR_FEC_UNC : Field := ⟨15, 0, .rw⟩
/-- LANE_FEC_CORR(l): R380, 13_duplex_lanes_bridge.md. -/
def Reg.LANE_FEC_CORR (l : Nat) : Nat := 0x581010 + 0x100 * l
def Fld.LANE_FEC_CORR_SYMBOLS : Field := ⟨31, 0, .rw⟩
/-- LANE_CNT(l): R380, 13_duplex_lanes_bridge.md. -/
def Reg.LANE_CNT (l : Nat) : Nat := 0x581014 + 0x100 * l
def Fld.LANE_CNT_SUB_REFUSED : Field := ⟨31, 16, .rw⟩
def Fld.LANE_CNT_CAP_DROP : Field := ⟨15, 0, .rw⟩
/-- LANE_PROF(l, p): R380, 13_duplex_lanes_bridge.md. -/
def Reg.LANE_PROF (l : Nat) (p : Nat) : Nat := 0x581020 + 0x100 * l + 0x4 * p
def Fld.LANE_PROF_TXPRESET : Field := ⟨27, 24, .rw⟩
def Fld.LANE_PROF_SCR : Field := ⟨23, 23, .rw⟩
def Fld.LANE_PROF_FEC : Field := ⟨22, 21, .rw⟩
def Fld.LANE_PROF_ENC : Field := ⟨20, 19, .rw⟩
def Fld.LANE_PROF_PAM4 : Field := ⟨18, 18, .rw⟩
def Fld.LANE_PROF_SYMRATE : Field := ⟨16, 0, .rw⟩
/-- LANE_MATCH_VAL_LO(l, m): R380, 13_duplex_lanes_bridge.md. -/
def Reg.LANE_MATCH_VAL_LO (l : Nat) (m : Nat) : Nat := 0x581040 + 0x100 * l + 0x10 * m
def Fld.LANE_MATCH_VAL_LO_BITS : Field := ⟨31, 0, .rw⟩
/-- LANE_MATCH_VAL_HI(l, m): R380, 13_duplex_lanes_bridge.md. -/
def Reg.LANE_MATCH_VAL_HI (l : Nat) (m : Nat) : Nat := 0x581044 + 0x100 * l + 0x10 * m
def Fld.LANE_MATCH_VAL_HI_BITS : Field := ⟨31, 0, .rw⟩
/-- LANE_MATCH_MASK_LO(l, m): R380, 13_duplex_lanes_bridge.md. -/
def Reg.LANE_MATCH_MASK_LO (l : Nat) (m : Nat) : Nat := 0x581048 + 0x100 * l + 0x10 * m
def Fld.LANE_MATCH_MASK_LO_BITS : Field := ⟨31, 0, .rw⟩
/-- LANE_MATCH_MASK_HI(l, m): R380, 13_duplex_lanes_bridge.md. -/
def Reg.LANE_MATCH_MASK_HI (l : Nat) (m : Nat) : Nat := 0x58104C + 0x100 * l + 0x10 * m
def Fld.LANE_MATCH_MASK_HI_BITS : Field := ⟨31, 0, .rw⟩
/-- LANE_MATCH_SIDE(l, m): R380, 13_duplex_lanes_bridge.md. -/
def Reg.LANE_MATCH_SIDE (l : Nat) (m : Nat) : Nat := 0x581060 + 0x100 * l + 0x4 * m
def Fld.LANE_MATCH_SIDE_SMASK : Field := ⟨31, 16, .rw⟩
def Fld.LANE_MATCH_SIDE_SVAL : Field := ⟨15, 0, .rw⟩
/-- LANE_EVTOK(l, e): R380, 13_duplex_lanes_bridge.md. -/
def Reg.LANE_EVTOK (l : Nat) (e : Nat) : Nat := 0x581080 + 0x100 * l + 0x4 * e
def Fld.LANE_EVTOK_EN : Field := ⟨31, 31, .rw⟩
def Fld.LANE_EVTOK_SLOT : Field := ⟨29, 28, .rw⟩
def Fld.LANE_EVTOK_HANDLE : Field := ⟨27, 0, .rw⟩
/-- LANE_CAP_BASE_LO(l): R144, 04_images_and_loading.md. -/
def Reg.LANE_CAP_BASE_LO (l : Nat) : Nat := 0x5810C4 + 0x100 * l
def Fld.LANE_CAP_BASE_LO_ADDR : Field := ⟨31, 7, .rw⟩
/-- LANE_CAP_BASE_HI(l): R144, 04_images_and_loading.md. -/
def Reg.LANE_CAP_BASE_HI (l : Nat) : Nat := 0x5810C8 + 0x100 * l
def Fld.LANE_CAP_BASE_HI_ADDR : Field := ⟨15, 0, .rw⟩

/-- Rows of the LANE span, part 0. -/
def rowsLANE0 : List RegRow := [
  ⟨0x580000, [], 0x0, [Fld.LANE_INT_STATUS_QUAD]⟩,
  ⟨0x580004, [], 0x0, [Fld.LANE_INT_EN_QUAD]⟩,
  ⟨0x581000, [(48, 0x100)], 0x0, [Fld.LANE_CFG_EN, Fld.LANE_CFG_UPPER, Fld.LANE_CFG_BRIDGE, Fld.LANE_CFG_UEIDLE, Fld.LANE_CFG_PEER, Fld.LANE_CFG_FWD_DELAY, Fld.LANE_CFG_PROFILE]⟩,
  ⟨0x581004, [(48, 0x100)], 0x0, [Fld.LANE_CTL_REALIGN, Fld.LANE_CTL_SLIP, Fld.LANE_CTL_PROF_GO, Fld.LANE_CTL_PROFILE]⟩,
  ⟨0x581008, [(48, 0x100)], 0x0, [Fld.LANE_STATUS_LOCK_LOST, Fld.LANE_STATUS_FEC_UNC, Fld.LANE_STATUS_CAP_STOP, Fld.LANE_STATUS_PROF_REFUSED, Fld.LANE_STATUS_SUB_REFUSED, Fld.LANE_STATUS_PROF_STAT, Fld.LANE_STATUS_FWD_ACTIVE, Fld.LANE_STATUS_PROF_BUSY, Fld.LANE_STATUS_PROFILE, Fld.LANE_STATUS_RX, Fld.LANE_STATUS_STATE]⟩,
  ⟨0x5810C0, [(48, 0x100)], 0x0, [Fld.LANE_CAP_CTL_EN, Fld.LANE_CAP_CTL_STREAM, Fld.LANE_CAP_CTL_WRAP, Fld.LANE_CAP_CTL_STOP_EN, Fld.LANE_CAP_CTL_STOP_EVT, Fld.LANE_CAP_CTL_SIZE, Fld.LANE_CAP_CTL_POST]⟩,
  ⟨0x5810CC, [(48, 0x100)], 0x0, [Fld.LANE_CAP_WPTR_WRAPPED, Fld.LANE_CAP_WPTR_STOPPED, Fld.LANE_CAP_WPTR_OFFSET]⟩,
  ⟨0x58100C, [(48, 0x100)], 0x0, [Fld.LANE_ERR_DECODE, Fld.LANE_ERR_FEC_UNC]⟩,
  ⟨0x581010, [(48, 0x100)], 0x0, [Fld.LANE_FEC_CORR_SYMBOLS]⟩,
  ⟨0x581014, [(48, 0x100)], 0x0, [Fld.LANE_CNT_SUB_REFUSED, Fld.LANE_CNT_CAP_DROP]⟩,
  ⟨0x581020, [(48, 0x100), (4, 0x4)], 0x0, [Fld.LANE_PROF_TXPRESET, Fld.LANE_PROF_SCR, Fld.LANE_PROF_FEC, Fld.LANE_PROF_ENC, Fld.LANE_PROF_PAM4, Fld.LANE_PROF_SYMRATE]⟩,
  ⟨0x581040, [(48, 0x100), (2, 0x10)], 0x0, [Fld.LANE_MATCH_VAL_LO_BITS]⟩]
/-- Rows of the LANE span, part 1. -/
def rowsLANE1 : List RegRow := [
  ⟨0x581044, [(48, 0x100), (2, 0x10)], 0x0, [Fld.LANE_MATCH_VAL_HI_BITS]⟩,
  ⟨0x581048, [(48, 0x100), (2, 0x10)], 0x0, [Fld.LANE_MATCH_MASK_LO_BITS]⟩,
  ⟨0x58104C, [(48, 0x100), (2, 0x10)], 0x0, [Fld.LANE_MATCH_MASK_HI_BITS]⟩,
  ⟨0x581060, [(48, 0x100), (2, 0x4)], 0x0, [Fld.LANE_MATCH_SIDE_SMASK, Fld.LANE_MATCH_SIDE_SVAL]⟩,
  ⟨0x581080, [(48, 0x100), (16, 0x4)], 0x0, [Fld.LANE_EVTOK_EN, Fld.LANE_EVTOK_SLOT, Fld.LANE_EVTOK_HANDLE]⟩,
  ⟨0x5810C4, [(48, 0x100)], 0x0, [Fld.LANE_CAP_BASE_LO_ADDR]⟩,
  ⟨0x5810C8, [(48, 0x100)], 0x0, [Fld.LANE_CAP_BASE_HI_ADDR]⟩]
def rowsLANE : List RegRow := rowsLANE0 ++ rowsLANE1

/-! ### HOST span, 0x600000 – 0x67FFFF (R31) -/

/-- HOST_CTL: R407, 14_host_interface.md. -/
def Reg.HOST_CTL : Nat := 0x600000
def Fld.HOST_CTL_RETRAIN : Field := ⟨31, 31, .wo⟩
def Fld.HOST_CTL_MAX_GEN : Field := ⟨10, 8, .rw⟩
def Fld.HOST_CTL_MAX_WIDTH : Field := ⟨5, 4, .rw⟩
def Fld.HOST_CTL_PCIE_ORDER : Field := ⟨0, 0, .rw⟩
/-- HOST_LINK_STATUS: R407, 14_host_interface.md. -/
def Reg.HOST_LINK_STATUS : Nat := 0x600004
def Fld.HOST_LINK_STATUS_L0 : Field := ⟨31, 31, .ro⟩
def Fld.HOST_LINK_STATUS_DOWN_SEEN : Field := ⟨30, 30, .w1c⟩
def Fld.HOST_LINK_STATUS_GEN : Field := ⟨10, 8, .ro⟩
def Fld.HOST_LINK_STATUS_WIDTH : Field := ⟨5, 4, .ro⟩
/-- HOST_INT_STATUS: R407, 14_host_interface.md. -/
def Reg.HOST_INT_STATUS : Nat := 0x600008
def Fld.HOST_INT_STATUS_WIN_REFUSED : Field := ⟨3, 3, .w1c⟩
def Fld.HOST_INT_STATUS_CPL_ERR : Field := ⟨2, 2, .w1c⟩
def Fld.HOST_INT_STATUS_QERR : Field := ⟨1, 1, .w1c⟩
def Fld.HOST_INT_STATUS_LINK : Field := ⟨0, 0, .w1c⟩
/-- HOST_INT_EN: R407, 14_host_interface.md. -/
def Reg.HOST_INT_EN : Nat := 0x60000C
def Fld.HOST_INT_EN_WIN_REFUSED : Field := ⟨3, 3, .rw⟩
def Fld.HOST_INT_EN_CPL_ERR : Field := ⟨2, 2, .rw⟩
def Fld.HOST_INT_EN_QERR : Field := ⟨1, 1, .rw⟩
def Fld.HOST_INT_EN_LINK : Field := ⟨0, 0, .rw⟩
/-- HOST_ERR_LOG: R407, 14_host_interface.md. -/
def Reg.HOST_ERR_LOG : Nat := 0x600010
def Fld.HOST_ERR_LOG_VALID : Field := ⟨31, 31, .w1c⟩
def Fld.HOST_ERR_LOG_MORE : Field := ⟨30, 30, .w1c⟩
def Fld.HOST_ERR_LOG_KIND : Field := ⟨11, 8, .ro⟩
def Fld.HOST_ERR_LOG_CODE : Field := ⟨3, 0, .ro⟩
/-- HOST_IRQ_MAP(i): R407, 14_host_interface.md. -/
def Reg.HOST_IRQ_MAP (i : Nat) : Nat := 0x600040 + 0x4 * i
def Fld.HOST_IRQ_MAP_EN : Field := ⟨31, 31, .rw⟩
def Fld.HOST_IRQ_MAP_VECTOR : Field := ⟨7, 0, .rw⟩
/-- HOST_WIN_CTL(k): R407, 14_host_interface.md. -/
def Reg.HOST_WIN_CTL (k : Nat) : Nat := 0x600100 + 0x8 * k
def Fld.HOST_WIN_CTL_EN : Field := ⟨31, 31, .rw⟩
def Fld.HOST_WIN_CTL_KEYED : Field := ⟨30, 30, .rw⟩
def Fld.HOST_WIN_CTL_KEYIDX : Field := ⟨27, 24, .rw⟩
def Fld.HOST_WIN_CTL_STREAM : Field := ⟨2, 0, .rw⟩
/-- HOST_WIN_BASE(k): R407, 14_host_interface.md. -/
def Reg.HOST_WIN_BASE (k : Nat) : Nat := 0x600104 + 0x8 * k
def Fld.HOST_WIN_BASE_BASE : Field := ⟨19, 0, .rw⟩
/-- HOST_SEQ_OP(k): R407, 14_host_interface.md. -/
def Reg.HOST_SEQ_OP (k : Nat) : Nat := 0x600200 + 0x4 * k
def Fld.HOST_SEQ_OP_BUSY : Field := ⟨31, 31, .ro⟩
def Fld.HOST_SEQ_OP_FROM_Q : Field := ⟨22, 22, .ro⟩
def Fld.HOST_SEQ_OP_QUEUE : Field := ⟨21, 16, .ro⟩
def Fld.HOST_SEQ_OP_STEPS : Field := ⟨15, 0, .ro⟩
/-- HOST_Q_BASE_LO(q): R407, 14_host_interface.md. -/
def Reg.HOST_Q_BASE_LO (q : Nat) : Nat := 0x601000 + 0x20 * q
def Fld.HOST_Q_BASE_LO_ADDR : Field := ⟨31, 12, .rwl⟩
/-- HOST_Q_BASE_HI(q): R407, 14_host_interface.md. -/
def Reg.HOST_Q_BASE_HI (q : Nat) : Nat := 0x601004 + 0x20 * q
def Fld.HOST_Q_BASE_HI_ADDR : Field := ⟨31, 0, .rwl⟩
/-- HOST_CQ_BASE_LO(q): R407, 14_host_interface.md. -/
def Reg.HOST_CQ_BASE_LO (q : Nat) : Nat := 0x601010 + 0x20 * q
def Fld.HOST_CQ_BASE_LO_ADDR : Field := ⟨31, 12, .rwl⟩
/-- HOST_CQ_BASE_HI(q): R407, 14_host_interface.md. -/
def Reg.HOST_CQ_BASE_HI (q : Nat) : Nat := 0x601014 + 0x20 * q
def Fld.HOST_CQ_BASE_HI_ADDR : Field := ⟨31, 0, .rwl⟩
/-- HOST_Q_CFG(q): R407, 14_host_interface.md. -/
def Reg.HOST_Q_CFG (q : Nat) : Nat := 0x601008 + 0x20 * q
def Fld.HOST_Q_CFG_EN : Field := ⟨31, 31, .rw⟩
def Fld.HOST_Q_CFG_LEGACY : Field := ⟨30, 30, .rwl⟩
def Fld.HOST_Q_CFG_CHAN : Field := ⟨27, 24, .rwl⟩
def Fld.HOST_Q_CFG_SIZE : Field := ⟨15, 12, .rwl⟩
/-- HOST_Q_STATUS(q): R407, 14_host_interface.md. -/
def Reg.HOST_Q_STATUS (q : Nat) : Nat := 0x60100C + 0x20 * q
def Fld.HOST_Q_STATUS_STATE : Field := ⟨31, 30, .ro⟩
def Fld.HOST_Q_STATUS_DB_REFUSED : Field := ⟨29, 29, .w1c⟩
def Fld.HOST_Q_STATUS_HEAD : Field := ⟨23, 12, .ro⟩
def Fld.HOST_Q_STATUS_TAIL : Field := ⟨11, 0, .ro⟩
/-- HOST_CQ_CFG(q): R407, 14_host_interface.md. -/
def Reg.HOST_CQ_CFG (q : Nat) : Nat := 0x601018 + 0x20 * q
def Fld.HOST_CQ_CFG_SIZE : Field := ⟨15, 12, .rwl⟩
def Fld.HOST_CQ_CFG_IRQ_ALL : Field := ⟨8, 8, .rw⟩
def Fld.HOST_CQ_CFG_VECTOR : Field := ⟨7, 0, .rw⟩
/-- HOST_CQ_STATUS(q): R407, 14_host_interface.md. -/
def Reg.HOST_CQ_STATUS (q : Nat) : Nat := 0x60101C + 0x20 * q
def Fld.HOST_CQ_STATUS_FULL : Field := ⟨31, 31, .ro⟩
def Fld.HOST_CQ_STATUS_PHASE : Field := ⟨30, 30, .ro⟩
def Fld.HOST_CQ_STATUS_HEAD : Field := ⟨23, 12, .ro⟩
def Fld.HOST_CQ_STATUS_TAIL : Field := ⟨11, 0, .ro⟩

/-- Rows of the HOST span, part 0. -/
def rowsHOST0 : List RegRow := [
  ⟨0x600000, [], 0x531, [Fld.HOST_CTL_RETRAIN, Fld.HOST_CTL_MAX_GEN, Fld.HOST_CTL_MAX_WIDTH, Fld.HOST_CTL_PCIE_ORDER]⟩,
  ⟨0x600004, [], 0x0, [Fld.HOST_LINK_STATUS_L0, Fld.HOST_LINK_STATUS_DOWN_SEEN, Fld.HOST_LINK_STATUS_GEN, Fld.HOST_LINK_STATUS_WIDTH]⟩,
  ⟨0x600008, [], 0x0, [Fld.HOST_INT_STATUS_WIN_REFUSED, Fld.HOST_INT_STATUS_CPL_ERR, Fld.HOST_INT_STATUS_QERR, Fld.HOST_INT_STATUS_LINK]⟩,
  ⟨0x60000C, [], 0x0, [Fld.HOST_INT_EN_WIN_REFUSED, Fld.HOST_INT_EN_CPL_ERR, Fld.HOST_INT_EN_QERR, Fld.HOST_INT_EN_LINK]⟩,
  ⟨0x600010, [], 0x0, [Fld.HOST_ERR_LOG_VALID, Fld.HOST_ERR_LOG_MORE, Fld.HOST_ERR_LOG_KIND, Fld.HOST_ERR_LOG_CODE]⟩,
  ⟨0x600040, [(16, 0x4)], 0x0, [Fld.HOST_IRQ_MAP_EN, Fld.HOST_IRQ_MAP_VECTOR]⟩,
  ⟨0x600100, [(16, 0x8)], 0x0, [Fld.HOST_WIN_CTL_EN, Fld.HOST_WIN_CTL_KEYED, Fld.HOST_WIN_CTL_KEYIDX, Fld.HOST_WIN_CTL_STREAM]⟩,
  ⟨0x600104, [(16, 0x8)], 0x0, [Fld.HOST_WIN_BASE_BASE]⟩,
  ⟨0x600200, [(11, 0x4)], 0x0, [Fld.HOST_SEQ_OP_BUSY, Fld.HOST_SEQ_OP_FROM_Q, Fld.HOST_SEQ_OP_QUEUE, Fld.HOST_SEQ_OP_STEPS]⟩,
  ⟨0x601000, [(64, 0x20)], 0x0, [Fld.HOST_Q_BASE_LO_ADDR]⟩,
  ⟨0x601004, [(64, 0x20)], 0x0, [Fld.HOST_Q_BASE_HI_ADDR]⟩,
  ⟨0x601010, [(64, 0x20)], 0x0, [Fld.HOST_CQ_BASE_LO_ADDR]⟩]
/-- Rows of the HOST span, part 1. -/
def rowsHOST1 : List RegRow := [
  ⟨0x601014, [(64, 0x20)], 0x0, [Fld.HOST_CQ_BASE_HI_ADDR]⟩,
  ⟨0x601008, [(64, 0x20)], 0x4000, [Fld.HOST_Q_CFG_EN, Fld.HOST_Q_CFG_LEGACY, Fld.HOST_Q_CFG_CHAN, Fld.HOST_Q_CFG_SIZE]⟩,
  ⟨0x60100C, [(64, 0x20)], 0x0, [Fld.HOST_Q_STATUS_STATE, Fld.HOST_Q_STATUS_DB_REFUSED, Fld.HOST_Q_STATUS_HEAD, Fld.HOST_Q_STATUS_TAIL]⟩,
  ⟨0x601018, [(64, 0x20)], 0x4000, [Fld.HOST_CQ_CFG_SIZE, Fld.HOST_CQ_CFG_IRQ_ALL, Fld.HOST_CQ_CFG_VECTOR]⟩,
  ⟨0x60101C, [(64, 0x20)], 0x40000000, [Fld.HOST_CQ_STATUS_FULL, Fld.HOST_CQ_STATUS_PHASE, Fld.HOST_CQ_STATUS_HEAD, Fld.HOST_CQ_STATUS_TAIL]⟩]
def rowsHOST : List RegRow := rowsHOST0 ++ rowsHOST1

/-! ### PIN span, 0x680000 – 0x6FFFFF (R31) -/

/-- PIN_INT_STATUS: R431, 15_flex_pins_and_triggers.md. -/
def Reg.PIN_INT_STATUS : Nat := 0x680000
def Fld.PIN_INT_STATUS_I2C : Field := ⟨31, 24, .w1c⟩
def Fld.PIN_INT_STATUS_SPI : Field := ⟨23, 16, .w1c⟩
def Fld.PIN_INT_STATUS_UART : Field := ⟨15, 8, .w1c⟩
def Fld.PIN_INT_STATUS_REFUSED : Field := ⟨0, 0, .w1c⟩
/-- PIN_INT_EN: R431, 15_flex_pins_and_triggers.md. -/
def Reg.PIN_INT_EN : Nat := 0x680004
def Fld.PIN_INT_EN_I2C : Field := ⟨31, 24, .rw⟩
def Fld.PIN_INT_EN_SPI : Field := ⟨23, 16, .rw⟩
def Fld.PIN_INT_EN_UART : Field := ⟨15, 8, .rw⟩
def Fld.PIN_INT_EN_REFUSED : Field := ⟨0, 0, .rw⟩
/-- PIN_REFLOG: R431, 15_flex_pins_and_triggers.md. -/
def Reg.PIN_REFLOG : Nat := 0x680008
def Fld.PIN_REFLOG_VALID : Field := ⟨31, 31, .w1c⟩
def Fld.PIN_REFLOG_MORE : Field := ⟨30, 30, .w1c⟩
def Fld.PIN_REFLOG_REASON : Field := ⟨25, 24, .ro⟩
def Fld.PIN_REFLOG_IDENT : Field := ⟨23, 16, .ro⟩
def Fld.PIN_REFLOG_INDEX : Field := ⟨11, 0, .ro⟩
/-- PIN_REFCNT: R431, 15_flex_pins_and_triggers.md. -/
def Reg.PIN_REFCNT : Nat := 0x68000C
def Fld.PIN_REFCNT_COUNT : Field := ⟨31, 0, .rw⟩
/-- PIN_BANK(k): R431, 15_flex_pins_and_triggers.md. -/
def Reg.PIN_BANK (k : Nat) : Nat := 0x680100 + 0x4 * k
def Fld.PIN_BANK_VIO : Field := ⟨1, 0, .ro⟩
/-- PIN_LEVEL(w): R431, 15_flex_pins_and_triggers.md. -/
def Reg.PIN_LEVEL (w : Nat) : Nat := 0x680200 + 0x4 * w
def Fld.PIN_LEVEL_BITS : Field := ⟨31, 0, .ro⟩
/-- PIN_OUT(w): R431, 15_flex_pins_and_triggers.md. -/
def Reg.PIN_OUT (w : Nat) : Nat := 0x680240 + 0x4 * w
def Fld.PIN_OUT_BITS : Field := ⟨31, 0, .rwo⟩
/-- PIN_OE(w): R431, 15_flex_pins_and_triggers.md. -/
def Reg.PIN_OE (w : Nat) : Nat := 0x680280 + 0x4 * w
def Fld.PIN_OE_BITS : Field := ⟨31, 0, .rwo⟩
/-- PIN_FUNC(p): R431, 15_flex_pins_and_triggers.md. -/
def Reg.PIN_FUNC (p : Nat) : Nat := 0x681000 + 0x10 * p
def Fld.PIN_FUNC_OMODE : Field := ⟨31, 30, .rwo⟩
def Fld.PIN_FUNC_OUT_SEL2 : Field := ⟨26, 16, .rwo⟩
def Fld.PIN_FUNC_OUT_SEL : Field := ⟨10, 0, .rwo⟩
/-- PIN_ELEC(p): R431, 15_flex_pins_and_triggers.md. -/
def Reg.PIN_ELEC (p : Nat) : Nat := 0x681004 + 0x10 * p
def Fld.PIN_ELEC_STD : Field := ⟨31, 30, .rwo⟩
def Fld.PIN_ELEC_TERM : Field := ⟨29, 29, .rwo⟩
def Fld.PIN_ELEC_DRIVE : Field := ⟨25, 24, .rwo⟩
def Fld.PIN_ELEC_SLEW : Field := ⟨23, 23, .rwo⟩
def Fld.PIN_ELEC_PULL : Field := ⟨21, 20, .rwo⟩
/-- PIN_OWN(p): R431, 15_flex_pins_and_triggers.md. -/
def Reg.PIN_OWN (p : Nat) : Nat := 0x681008 + 0x10 * p
def Fld.PIN_OWN_OWNER : Field := ⟨7, 0, .rw⟩
/-- PIN_ISEL(i): R431, 15_flex_pins_and_triggers.md. -/
def Reg.PIN_ISEL (i : Nat) : Nat := 0x690000 + 0x4 * i
def Fld.PIN_ISEL_EN : Field := ⟨31, 31, .rwo⟩
def Fld.PIN_ISEL_INV : Field := ⟨30, 30, .rwo⟩
def Fld.PIN_ISEL_PHASE : Field := ⟨29, 28, .rwo⟩
def Fld.PIN_ISEL_PIN : Field := ⟨8, 0, .rwo⟩
/-- UART_CTL(u): R431, 15_flex_pins_and_triggers.md. -/
def Reg.UART_CTL (u : Nat) : Nat := 0x6A0000 + 0x100 * u
def Fld.UART_CTL_EN : Field := ⟨31, 31, .rw⟩
def Fld.UART_CTL_PARITY : Field := ⟨30, 29, .rw⟩
def Fld.UART_CTL_STOP2 : Field := ⟨28, 28, .rw⟩
def Fld.UART_CTL_FLOW : Field := ⟨27, 27, .rw⟩
def Fld.UART_CTL_DIV : Field := ⟨15, 0, .rw⟩
/-- UART_STATUS(u): R431, 15_flex_pins_and_triggers.md. -/
def Reg.UART_STATUS (u : Nat) : Nat := 0x6A0004 + 0x100 * u
def Fld.UART_STATUS_FERR : Field := ⟨31, 31, .w1c⟩
def Fld.UART_STATUS_PERR : Field := ⟨30, 30, .w1c⟩
def Fld.UART_STATUS_OVR : Field := ⟨29, 29, .w1c⟩
def Fld.UART_STATUS_TX_FREE : Field := ⟨12, 8, .ro⟩
def Fld.UART_STATUS_RX_COUNT : Field := ⟨4, 0, .ro⟩
/-- UART_DATA(u): R431, 15_flex_pins_and_triggers.md. -/
def Reg.UART_DATA (u : Nat) : Nat := 0x6A0008 + 0x100 * u
def Fld.UART_DATA_VALID : Field := ⟨31, 31, .ro⟩
def Fld.UART_DATA_BYTE : Field := ⟨7, 0, .rw⟩
/-- SPI_CTL(u): R431, 15_flex_pins_and_triggers.md. -/
def Reg.SPI_CTL (u : Nat) : Nat := 0x6A1000 + 0x100 * u
def Fld.SPI_CTL_EN : Field := ⟨31, 31, .rw⟩
def Fld.SPI_CTL_CPOL : Field := ⟨30, 30, .rw⟩
def Fld.SPI_CTL_CPHA : Field := ⟨29, 29, .rw⟩
def Fld.SPI_CTL_CS : Field := ⟨28, 27, .rw⟩
def Fld.SPI_CTL_CS_HOLD : Field := ⟨26, 26, .rw⟩
def Fld.SPI_CTL_LEN : Field := ⟨25, 24, .rw⟩
def Fld.SPI_CTL_DIV : Field := ⟨15, 0, .rw⟩
/-- SPI_STATUS(u): R431, 15_flex_pins_and_triggers.md. -/
def Reg.SPI_STATUS (u : Nat) : Nat := 0x6A1004 + 0x100 * u
def Fld.SPI_STATUS_BUSY : Field := ⟨31, 31, .ro⟩
/-- SPI_DATA(u): R431, 15_flex_pins_and_triggers.md. -/
def Reg.SPI_DATA (u : Nat) : Nat := 0x6A1008 + 0x100 * u
def Fld.SPI_DATA_DATA : Field := ⟨31, 0, .rw⟩
/-- I2C_CTL(u): R431, 15_flex_pins_and_triggers.md. -/
def Reg.I2C_CTL (u : Nat) : Nat := 0x6A2000 + 0x100 * u
def Fld.I2C_CTL_EN : Field := ⟨31, 31, .rw⟩
def Fld.I2C_CTL_DIV : Field := ⟨15, 0, .rw⟩
/-- I2C_STATUS(u): R431, 15_flex_pins_and_triggers.md. -/
def Reg.I2C_STATUS (u : Nat) : Nat := 0x6A2004 + 0x100 * u
def Fld.I2C_STATUS_BUSY : Field := ⟨31, 31, .ro⟩
def Fld.I2C_STATUS_ACKED : Field := ⟨30, 30, .ro⟩
def Fld.I2C_STATUS_ARB_LOST : Field := ⟨29, 29, .w1c⟩
def Fld.I2C_STATUS_RDATA : Field := ⟨7, 0, .ro⟩
/-- I2C_CMD(u): R431, 15_flex_pins_and_triggers.md. -/
def Reg.I2C_CMD (u : Nat) : Nat := 0x6A2008 + 0x100 * u
def Fld.I2C_CMD_NACK : Field := ⟨12, 12, .wo⟩
def Fld.I2C_CMD_START : Field := ⟨11, 11, .wo⟩
def Fld.I2C_CMD_STOP : Field := ⟨10, 10, .wo⟩
def Fld.I2C_CMD_READ : Field := ⟨9, 9, .wo⟩
def Fld.I2C_CMD_WRITE : Field := ⟨8, 8, .wo⟩
def Fld.I2C_CMD_WDATA : Field := ⟨7, 0, .wo⟩

/-- Rows of the PIN span, part 0. -/
def rowsPIN0 : List RegRow := [
  ⟨0x680000, [], 0x0, [Fld.PIN_INT_STATUS_I2C, Fld.PIN_INT_STATUS_SPI, Fld.PIN_INT_STATUS_UART, Fld.PIN_INT_STATUS_REFUSED]⟩,
  ⟨0x680004, [], 0x0, [Fld.PIN_INT_EN_I2C, Fld.PIN_INT_EN_SPI, Fld.PIN_INT_EN_UART, Fld.PIN_INT_EN_REFUSED]⟩,
  ⟨0x680008, [], 0x0, [Fld.PIN_REFLOG_VALID, Fld.PIN_REFLOG_MORE, Fld.PIN_REFLOG_REASON, Fld.PIN_REFLOG_IDENT, Fld.PIN_REFLOG_INDEX]⟩,
  ⟨0x68000C, [], 0x0, [Fld.PIN_REFCNT_COUNT]⟩,
  ⟨0x680100, [(8, 0x4)], 0x0, [Fld.PIN_BANK_VIO]⟩,
  ⟨0x680200, [(10, 0x4)], 0x0, [Fld.PIN_LEVEL_BITS]⟩,
  ⟨0x680240, [(10, 0x4)], 0x0, [Fld.PIN_OUT_BITS]⟩,
  ⟨0x680280, [(10, 0x4)], 0x0, [Fld.PIN_OE_BITS]⟩,
  ⟨0x681000, [(320, 0x10)], 0x7FF07FF, [Fld.PIN_FUNC_OMODE, Fld.PIN_FUNC_OUT_SEL2, Fld.PIN_FUNC_OUT_SEL]⟩,
  ⟨0x681004, [(320, 0x10)], 0x1300000, [Fld.PIN_ELEC_STD, Fld.PIN_ELEC_TERM, Fld.PIN_ELEC_DRIVE, Fld.PIN_ELEC_SLEW, Fld.PIN_ELEC_PULL]⟩,
  ⟨0x681008, [(320, 0x10)], 0xFF, [Fld.PIN_OWN_OWNER]⟩,
  ⟨0x690000, [(2112, 0x4)], 0x0, [Fld.PIN_ISEL_EN, Fld.PIN_ISEL_INV, Fld.PIN_ISEL_PHASE, Fld.PIN_ISEL_PIN]⟩]
/-- Rows of the PIN span, part 1. -/
def rowsPIN1 : List RegRow := [
  ⟨0x6A0000, [(8, 0x100)], 0xAD, [Fld.UART_CTL_EN, Fld.UART_CTL_PARITY, Fld.UART_CTL_STOP2, Fld.UART_CTL_FLOW, Fld.UART_CTL_DIV]⟩,
  ⟨0x6A0004, [(8, 0x100)], 0x1000, [Fld.UART_STATUS_FERR, Fld.UART_STATUS_PERR, Fld.UART_STATUS_OVR, Fld.UART_STATUS_TX_FREE, Fld.UART_STATUS_RX_COUNT]⟩,
  ⟨0x6A0008, [(8, 0x100)], 0x0, [Fld.UART_DATA_VALID, Fld.UART_DATA_BYTE]⟩,
  ⟨0x6A1000, [(8, 0x100)], 0x13, [Fld.SPI_CTL_EN, Fld.SPI_CTL_CPOL, Fld.SPI_CTL_CPHA, Fld.SPI_CTL_CS, Fld.SPI_CTL_CS_HOLD, Fld.SPI_CTL_LEN, Fld.SPI_CTL_DIV]⟩,
  ⟨0x6A1004, [(8, 0x100)], 0x0, [Fld.SPI_STATUS_BUSY]⟩,
  ⟨0x6A1008, [(8, 0x100)], 0x0, [Fld.SPI_DATA_DATA]⟩,
  ⟨0x6A2000, [(8, 0x100)], 0xF9, [Fld.I2C_CTL_EN, Fld.I2C_CTL_DIV]⟩,
  ⟨0x6A2004, [(8, 0x100)], 0x0, [Fld.I2C_STATUS_BUSY, Fld.I2C_STATUS_ACKED, Fld.I2C_STATUS_ARB_LOST, Fld.I2C_STATUS_RDATA]⟩,
  ⟨0x6A2008, [(8, 0x100)], 0x0, [Fld.I2C_CMD_NACK, Fld.I2C_CMD_START, Fld.I2C_CMD_STOP, Fld.I2C_CMD_READ, Fld.I2C_CMD_WRITE, Fld.I2C_CMD_WDATA]⟩]
def rowsPIN : List RegRow := rowsPIN0 ++ rowsPIN1

/-! ### TRIG span, 0x700000 – 0x77FFFF (R31) -/

/-- TRIG_INT_STATUS: R432, 15_flex_pins_and_triggers.md. -/
def Reg.TRIG_INT_STATUS : Nat := 0x700000
def Fld.TRIG_INT_STATUS_OVF : Field := ⟨31, 16, .w1c⟩
def Fld.TRIG_INT_STATUS_EVENT : Field := ⟨15, 0, .w1c⟩
/-- TRIG_INT_EN: R432, 15_flex_pins_and_triggers.md. -/
def Reg.TRIG_INT_EN : Nat := 0x700004
def Fld.TRIG_INT_EN_OVF : Field := ⟨31, 16, .rw⟩
def Fld.TRIG_INT_EN_EVENT : Field := ⟨15, 0, .rw⟩
/-- TRIG_LEVEL: R432, 15_flex_pins_and_triggers.md. -/
def Reg.TRIG_LEVEL : Nat := 0x700008
def Fld.TRIG_LEVEL_LEVEL : Field := ⟨9, 0, .ro⟩
/-- TRIG_STAR_CFG: R432, 15_flex_pins_and_triggers.md. -/
def Reg.TRIG_STAR_CFG : Nat := 0x70000C
def Fld.TRIG_STAR_CFG_DRV_EN : Field := ⟨31, 31, .rw⟩
def Fld.TRIG_STAR_CFG_CH : Field := ⟨3, 0, .rw⟩
/-- TRIG_LINE_CFG(l): R432, 15_flex_pins_and_triggers.md. -/
def Reg.TRIG_LINE_CFG (l : Nat) : Nat := 0x700010 + 0x4 * l
def Fld.TRIG_LINE_CFG_DRV_EN : Field := ⟨31, 31, .rw⟩
def Fld.TRIG_LINE_CFG_CH : Field := ⟨3, 0, .rw⟩
/-- TRIG_CH_CTL(c): R432, 15_flex_pins_and_triggers.md. -/
def Reg.TRIG_CH_CTL (c : Nat) : Nat := 0x700100 + 0x20 * c
def Fld.TRIG_CH_CTL_EN : Field := ⟨31, 31, .rw⟩
def Fld.TRIG_CH_CTL_FIRE : Field := ⟨30, 30, .wo⟩
def Fld.TRIG_CH_CTL_EDGE : Field := ⟨29, 28, .rw⟩
def Fld.TRIG_CH_CTL_SRC : Field := ⟨27, 25, .rw⟩
def Fld.TRIG_CH_CTL_SRC_NUM : Field := ⟨24, 22, .rw⟩
def Fld.TRIG_CH_CTL_OUT_EVT : Field := ⟨21, 21, .rw⟩
def Fld.TRIG_CH_CTL_WIDTH : Field := ⟨7, 0, .rw⟩
/-- TRIG_CH_STATUS(c): R432, 15_flex_pins_and_triggers.md. -/
def Reg.TRIG_CH_STATUS (c : Nat) : Nat := 0x700104 + 0x20 * c
def Fld.TRIG_CH_STATUS_ARMED : Field := ⟨31, 31, .ro⟩
def Fld.TRIG_CH_STATUS_LATE : Field := ⟨30, 30, .w1c⟩
def Fld.TRIG_CH_STATUS_OVF : Field := ⟨29, 29, .w1c⟩
def Fld.TRIG_CH_STATUS_MISSED : Field := ⟨28, 28, .w1c⟩
def Fld.TRIG_CH_STATUS_COUNT : Field := ⟨4, 0, .ro⟩
/-- TRIG_TS_LO(c): R432, 15_flex_pins_and_triggers.md. -/
def Reg.TRIG_TS_LO (c : Nat) : Nat := 0x700108 + 0x20 * c
def Fld.TRIG_TS_LO_TIME : Field := ⟨31, 0, .ro⟩
/-- TRIG_TS_HI(c): R432, 15_flex_pins_and_triggers.md. -/
def Reg.TRIG_TS_HI (c : Nat) : Nat := 0x70010C + 0x20 * c
def Fld.TRIG_TS_HI_VALID : Field := ⟨31, 31, .ro⟩
def Fld.TRIG_TS_HI_EDGE : Field := ⟨30, 30, .ro⟩
def Fld.TRIG_TS_HI_LOST : Field := ⟨29, 29, .ro⟩
def Fld.TRIG_TS_HI_TIME : Field := ⟨19, 0, .ro⟩
/-- TRIG_ARM_LO(c): R432, 15_flex_pins_and_triggers.md. -/
def Reg.TRIG_ARM_LO (c : Nat) : Nat := 0x700110 + 0x20 * c
def Fld.TRIG_ARM_LO_TIME : Field := ⟨31, 0, .rw⟩
/-- TRIG_ARM_HI(c): R432, 15_flex_pins_and_triggers.md. -/
def Reg.TRIG_ARM_HI (c : Nat) : Nat := 0x700114 + 0x20 * c
def Fld.TRIG_ARM_HI_ARM : Field := ⟨31, 31, .wo⟩
def Fld.TRIG_ARM_HI_TIME : Field := ⟨19, 0, .rw⟩
/-- TRIG_CH_TOK(c): R380, 13_duplex_lanes_bridge.md. -/
def Reg.TRIG_CH_TOK (c : Nat) : Nat := 0x700118 + 0x20 * c
def Fld.TRIG_CH_TOK_EN : Field := ⟨31, 31, .rw⟩
def Fld.TRIG_CH_TOK_SLOT : Field := ⟨29, 28, .rw⟩
def Fld.TRIG_CH_TOK_HANDLE : Field := ⟨27, 0, .rw⟩

/-- Rows of the TRIG span, part 0. -/
def rowsTRIG0 : List RegRow := [
  ⟨0x700000, [], 0x0, [Fld.TRIG_INT_STATUS_OVF, Fld.TRIG_INT_STATUS_EVENT]⟩,
  ⟨0x700004, [], 0x0, [Fld.TRIG_INT_EN_OVF, Fld.TRIG_INT_EN_EVENT]⟩,
  ⟨0x700008, [], 0x0, [Fld.TRIG_LEVEL_LEVEL]⟩,
  ⟨0x70000C, [], 0x0, [Fld.TRIG_STAR_CFG_DRV_EN, Fld.TRIG_STAR_CFG_CH]⟩,
  ⟨0x700010, [(8, 0x4)], 0x0, [Fld.TRIG_LINE_CFG_DRV_EN, Fld.TRIG_LINE_CFG_CH]⟩,
  ⟨0x700100, [(16, 0x20)], 0x10000001, [Fld.TRIG_CH_CTL_EN, Fld.TRIG_CH_CTL_FIRE, Fld.TRIG_CH_CTL_EDGE, Fld.TRIG_CH_CTL_SRC, Fld.TRIG_CH_CTL_SRC_NUM, Fld.TRIG_CH_CTL_OUT_EVT, Fld.TRIG_CH_CTL_WIDTH]⟩,
  ⟨0x700104, [(16, 0x20)], 0x0, [Fld.TRIG_CH_STATUS_ARMED, Fld.TRIG_CH_STATUS_LATE, Fld.TRIG_CH_STATUS_OVF, Fld.TRIG_CH_STATUS_MISSED, Fld.TRIG_CH_STATUS_COUNT]⟩,
  ⟨0x700108, [(16, 0x20)], 0x0, [Fld.TRIG_TS_LO_TIME]⟩,
  ⟨0x70010C, [(16, 0x20)], 0x0, [Fld.TRIG_TS_HI_VALID, Fld.TRIG_TS_HI_EDGE, Fld.TRIG_TS_HI_LOST, Fld.TRIG_TS_HI_TIME]⟩,
  ⟨0x700110, [(16, 0x20)], 0x0, [Fld.TRIG_ARM_LO_TIME]⟩,
  ⟨0x700114, [(16, 0x20)], 0x0, [Fld.TRIG_ARM_HI_ARM, Fld.TRIG_ARM_HI_TIME]⟩,
  ⟨0x700118, [(16, 0x20)], 0x0, [Fld.TRIG_CH_TOK_EN, Fld.TRIG_CH_TOK_SLOT, Fld.TRIG_CH_TOK_HANDLE]⟩]
def rowsTRIG : List RegRow := rowsTRIG0

/-! ### STACK span, 0x780000 – 0x7FFFFF (R31) -/

/-- STACK_CTL: R489, 18_stack_health.md. -/
def Reg.STACK_CTL : Nat := 0x780000
def Fld.STACK_CTL_CHECK_NOW : Field := ⟨31, 31, .wo⟩
def Fld.STACK_CTL_SAVE : Field := ⟨30, 30, .wo⟩
def Fld.STACK_CTL_RC_DEFER : Field := ⟨1, 1, .rw⟩
def Fld.STACK_CTL_CHECK_EN : Field := ⟨0, 0, .rw⟩
/-- STACK_STATUS: R489, 18_stack_health.md. -/
def Reg.STACK_STATUS : Nat := 0x780004
def Fld.STACK_STATUS_SWEEP : Field := ⟨31, 31, .ro⟩
def Fld.STACK_STATUS_PAUSE : Field := ⟨30, 30, .ro⟩
def Fld.STACK_STATUS_DEFERRED : Field := ⟨29, 29, .ro⟩
def Fld.STACK_STATUS_WEAR_WARN : Field := ⟨28, 28, .ro⟩
def Fld.STACK_STATUS_WEAR_EXHAUSTED : Field := ⟨27, 27, .ro⟩
def Fld.STACK_STATUS_LEDGER_OK : Field := ⟨26, 26, .ro⟩
def Fld.STACK_STATUS_RETIRED : Field := ⟨15, 0, .ro⟩
/-- STACK_CNT: R489, 18_stack_health.md. -/
def Reg.STACK_CNT : Nat := 0x780010
def Fld.STACK_CNT_REPAIRS : Field := ⟨31, 16, .rw⟩
def Fld.STACK_CNT_TRANSIENT : Field := ⟨15, 0, .rw⟩
/-- STACK_INT_STATUS: R489, 18_stack_health.md. -/
def Reg.STACK_INT_STATUS : Nat := 0x780008
def Fld.STACK_INT_STATUS_LEDGER : Field := ⟨5, 5, .w1c⟩
def Fld.STACK_INT_STATUS_EXHAUSTED : Field := ⟨4, 4, .w1c⟩
def Fld.STACK_INT_STATUS_WARN : Field := ⟨3, 3, .w1c⟩
def Fld.STACK_INT_STATUS_RETIRE : Field := ⟨2, 2, .w1c⟩
def Fld.STACK_INT_STATUS_REPAIR : Field := ⟨1, 1, .w1c⟩
def Fld.STACK_INT_STATUS_TRANSIENT : Field := ⟨0, 0, .w1c⟩
/-- STACK_INT_EN: R489, 18_stack_health.md. -/
def Reg.STACK_INT_EN : Nat := 0x78000C
def Fld.STACK_INT_EN_LEDGER : Field := ⟨5, 5, .rw⟩
def Fld.STACK_INT_EN_EXHAUSTED : Field := ⟨4, 4, .rw⟩
def Fld.STACK_INT_EN_WARN : Field := ⟨3, 3, .rw⟩
def Fld.STACK_INT_EN_RETIRE : Field := ⟨2, 2, .rw⟩
def Fld.STACK_INT_EN_REPAIR : Field := ⟨1, 1, .rw⟩
def Fld.STACK_INT_EN_TRANSIENT : Field := ⟨0, 0, .rw⟩
/-- STACK_LOG: R489, 18_stack_health.md. -/
def Reg.STACK_LOG : Nat := 0x780014
def Fld.STACK_LOG_VALID : Field := ⟨31, 31, .w1c⟩
def Fld.STACK_LOG_MORE : Field := ⟨30, 30, .w1c⟩
def Fld.STACK_LOG_KIND : Field := ⟨29, 28, .ro⟩
def Fld.STACK_LOG_GROUP : Field := ⟨21, 0, .ro⟩
/-- STACK_LOG_VIA: R489, 18_stack_health.md. -/
def Reg.STACK_LOG_VIA : Nat := 0x780018
def Fld.STACK_LOG_VIA_VIA : Field := ⟨6, 0, .ro⟩
/-- STACK_ROD_RET_LO: R489, 18_stack_health.md. -/
def Reg.STACK_ROD_RET_LO : Nat := 0x780020
def Fld.STACK_ROD_RET_LO_ROD : Field := ⟨31, 0, .ro⟩
/-- STACK_ROD_RET_HI: R489, 18_stack_health.md. -/
def Reg.STACK_ROD_RET_HI : Nat := 0x780024
def Fld.STACK_ROD_RET_HI_ROD : Field := ⟨31, 0, .ro⟩
/-- STACK_GRP_SEL: R489, 18_stack_health.md. -/
def Reg.STACK_GRP_SEL : Nat := 0x780040
def Fld.STACK_GRP_SEL_GROUP : Field := ⟨21, 0, .rw⟩
/-- STACK_GRP_INFO: R489, 18_stack_health.md. -/
def Reg.STACK_GRP_INFO : Nat := 0x780044
def Fld.STACK_GRP_INFO_STATE : Field := ⟨31, 30, .ro⟩
def Fld.STACK_GRP_INFO_BAD : Field := ⟨29, 27, .ro⟩
/-- STACK_GRP_BAD: R489, 18_stack_health.md. -/
def Reg.STACK_GRP_BAD : Nat := 0x780048
def Fld.STACK_GRP_BAD_POS : Field := ⟨27, 0, .ro⟩
/-- STACK_TEMP(s): R489, 18_stack_health.md. -/
def Reg.STACK_TEMP (s : Nat) : Nat := 0x780100 + 0x4 * s
def Fld.STACK_TEMP_VALID : Field := ⟨31, 31, .ro⟩
def Fld.STACK_TEMP_TEMP : Field := ⟨11, 0, .ro⟩
/-- STACK_WEAR_DMG(k): R489, 18_stack_health.md. -/
def Reg.STACK_WEAR_DMG (k : Nat) : Nat := 0x780200 + 0x4 * k
def Fld.STACK_WEAR_DMG_UNITS : Field := ⟨31, 0, .ro⟩
/-- STACK_WEAR_DEV: R489, 18_stack_health.md. -/
def Reg.STACK_WEAR_DEV : Nat := 0x780220
def Fld.STACK_WEAR_DEV_UNITS : Field := ⟨31, 0, .ro⟩
/-- STACK_WEAR_SEQ: R489, 18_stack_health.md. -/
def Reg.STACK_WEAR_SEQ : Nat := 0x780224
def Fld.STACK_WEAR_SEQ_SEQ : Field := ⟨31, 0, .ro⟩
/-- STACK_WEAR_CNT(s, b): R489, 18_stack_health.md. -/
def Reg.STACK_WEAR_CNT (s : Nat) (b : Nat) : Nat := 0x781000 + 0x10 * s + 0x4 * b
def Fld.STACK_WEAR_CNT_COUNT : Field := ⟨31, 0, .ro⟩

/-- Rows of the STACK span, part 0. -/
def rowsSTACK0 : List RegRow := [
  ⟨0x780000, [], 0x1, [Fld.STACK_CTL_CHECK_NOW, Fld.STACK_CTL_SAVE, Fld.STACK_CTL_RC_DEFER, Fld.STACK_CTL_CHECK_EN]⟩,
  ⟨0x780004, [], 0x0, [Fld.STACK_STATUS_SWEEP, Fld.STACK_STATUS_PAUSE, Fld.STACK_STATUS_DEFERRED, Fld.STACK_STATUS_WEAR_WARN, Fld.STACK_STATUS_WEAR_EXHAUSTED, Fld.STACK_STATUS_LEDGER_OK, Fld.STACK_STATUS_RETIRED]⟩,
  ⟨0x780010, [], 0x0, [Fld.STACK_CNT_REPAIRS, Fld.STACK_CNT_TRANSIENT]⟩,
  ⟨0x780008, [], 0x0, [Fld.STACK_INT_STATUS_LEDGER, Fld.STACK_INT_STATUS_EXHAUSTED, Fld.STACK_INT_STATUS_WARN, Fld.STACK_INT_STATUS_RETIRE, Fld.STACK_INT_STATUS_REPAIR, Fld.STACK_INT_STATUS_TRANSIENT]⟩,
  ⟨0x78000C, [], 0x0, [Fld.STACK_INT_EN_LEDGER, Fld.STACK_INT_EN_EXHAUSTED, Fld.STACK_INT_EN_WARN, Fld.STACK_INT_EN_RETIRE, Fld.STACK_INT_EN_REPAIR, Fld.STACK_INT_EN_TRANSIENT]⟩,
  ⟨0x780014, [], 0x0, [Fld.STACK_LOG_VALID, Fld.STACK_LOG_MORE, Fld.STACK_LOG_KIND, Fld.STACK_LOG_GROUP]⟩,
  ⟨0x780018, [], 0x0, [Fld.STACK_LOG_VIA_VIA]⟩,
  ⟨0x780020, [], 0x0, [Fld.STACK_ROD_RET_LO_ROD]⟩,
  ⟨0x780024, [], 0x0, [Fld.STACK_ROD_RET_HI_ROD]⟩,
  ⟨0x780040, [], 0x0, [Fld.STACK_GRP_SEL_GROUP]⟩,
  ⟨0x780044, [], 0x0, [Fld.STACK_GRP_INFO_STATE, Fld.STACK_GRP_INFO_BAD]⟩,
  ⟨0x780048, [], 0xFFFFFFF, [Fld.STACK_GRP_BAD_POS]⟩]
/-- Rows of the STACK span, part 1. -/
def rowsSTACK1 : List RegRow := [
  ⟨0x780100, [(64, 0x4)], 0x0, [Fld.STACK_TEMP_VALID, Fld.STACK_TEMP_TEMP]⟩,
  ⟨0x780200, [(8, 0x4)], 0x0, [Fld.STACK_WEAR_DMG_UNITS]⟩,
  ⟨0x780220, [], 0x0, [Fld.STACK_WEAR_DEV_UNITS]⟩,
  ⟨0x780224, [], 0x0, [Fld.STACK_WEAR_SEQ_SEQ]⟩,
  ⟨0x781000, [(64, 0x10), (4, 0x4)], 0x0, [Fld.STACK_WEAR_CNT_COUNT]⟩]
def rowsSTACK : List RegRow := rowsSTACK0 ++ rowsSTACK1

/-! ### ALINK span, 0x800000 – 0x8FFFFF (R31) -/

/-- ALINK_BOARD_STATUS: R513, 19_counting_board.md. -/
def Reg.ALINK_BOARD_STATUS : Nat := 0x800000
def Fld.ALINK_BOARD_STATUS_SETTLED : Field := ⟨31, 31, .ro⟩
def Fld.ALINK_BOARD_STATUS_PARTIAL : Field := ⟨30, 30, .ro⟩
def Fld.ALINK_BOARD_STATUS_ROOT : Field := ⟨29, 29, .ro⟩
def Fld.ALINK_BOARD_STATUS_STRAP_ROOT : Field := ⟨28, 28, .ro⟩
def Fld.ALINK_BOARD_STATUS_DIM_Y : Field := ⟨27, 26, .ro⟩
def Fld.ALINK_BOARD_STATUS_DIM_X : Field := ⟨25, 24, .ro⟩
def Fld.ALINK_BOARD_STATUS_Y : Field := ⟨5, 4, .ro⟩
def Fld.ALINK_BOARD_STATUS_X : Field := ⟨1, 0, .ro⟩
/-- ALINK_PAIR_CTL: R513, 19_counting_board.md. -/
def Reg.ALINK_PAIR_CTL : Nat := 0x800010
def Fld.ALINK_PAIR_CTL_ARM : Field := ⟨31, 31, .wo⟩
def Fld.ALINK_PAIR_CTL_LEAVE : Field := ⟨30, 30, .wo⟩
def Fld.ALINK_PAIR_CTL_PORT : Field := ⟨1, 0, .rw⟩
/-- ALINK_PAIR_STATUS: R513, 19_counting_board.md. -/
def Reg.ALINK_PAIR_STATUS : Nat := 0x800014
def Fld.ALINK_PAIR_STATUS_STATE : Field := ⟨31, 29, .ro⟩
def Fld.ALINK_PAIR_STATUS_RESULT : Field := ⟨27, 24, .ro⟩
def Fld.ALINK_PAIR_STATUS_CAUSE : Field := ⟨23, 20, .ro⟩
def Fld.ALINK_PAIR_STATUS_WINDOW : Field := ⟨19, 0, .ro⟩
/-- ALINK_INT_STATUS: R513, 19_counting_board.md. -/
def Reg.ALINK_INT_STATUS : Nat := 0x800004
def Fld.ALINK_INT_STATUS_PAIR : Field := ⟨4, 4, .w1c⟩
def Fld.ALINK_INT_STATUS_TAG : Field := ⟨3, 3, .w1c⟩
def Fld.ALINK_INT_STATUS_CONFLICT : Field := ⟨2, 2, .w1c⟩
def Fld.ALINK_INT_STATUS_PORT : Field := ⟨1, 1, .w1c⟩
def Fld.ALINK_INT_STATUS_SETTLED : Field := ⟨0, 0, .w1c⟩
/-- ALINK_INT_EN: R513, 19_counting_board.md. -/
def Reg.ALINK_INT_EN : Nat := 0x800008
def Fld.ALINK_INT_EN_PAIR : Field := ⟨4, 4, .rw⟩
def Fld.ALINK_INT_EN_TAG : Field := ⟨3, 3, .rw⟩
def Fld.ALINK_INT_EN_CONFLICT : Field := ⟨2, 2, .rw⟩
def Fld.ALINK_INT_EN_PORT : Field := ⟨1, 1, .rw⟩
def Fld.ALINK_INT_EN_SETTLED : Field := ⟨0, 0, .rw⟩
/-- ALINK_PORT_CFG(p): R513, 19_counting_board.md. -/
def Reg.ALINK_PORT_CFG (p : Nat) : Nat := 0x800100 + 0x10 * p
def Fld.ALINK_PORT_CFG_EN : Field := ⟨31, 31, .rw⟩
def Fld.ALINK_PORT_CFG_VMAX : Field := ⟨30, 30, .rw⟩
def Fld.ALINK_PORT_CFG_FDEV : Field := ⟨23, 20, .rw⟩
/-- ALINK_PORT_STATUS(p): R513, 19_counting_board.md. -/
def Reg.ALINK_PORT_STATUS (p : Nat) : Nat := 0x800104 + 0x10 * p
def Fld.ALINK_PORT_STATUS_STATE : Field := ⟨31, 29, .ro⟩
def Fld.ALINK_PORT_STATUS_VER : Field := ⟨28, 28, .ro⟩
def Fld.ALINK_PORT_STATUS_LOST : Field := ⟨27, 27, .w1c⟩
def Fld.ALINK_PORT_STATUS_NB_DEV : Field := ⟨23, 20, .ro⟩
def Fld.ALINK_PORT_STATUS_NB_PORT : Field := ⟨19, 18, .ro⟩
/-- ALINK_PORT_CNT(p): R513, 19_counting_board.md. -/
def Reg.ALINK_PORT_CNT (p : Nat) : Nat := 0x800108 + 0x10 * p
def Fld.ALINK_PORT_CNT_RETRY : Field := ⟨31, 16, .rw⟩
def Fld.ALINK_PORT_CNT_TAGFAIL : Field := ⟨15, 0, .rw⟩
/-- ALINK_RT(b, d): R513, 19_counting_board.md. -/
def Reg.ALINK_RT (b : Nat) (d : Nat) : Nat := 0x800200 + 0x40 * b + 0x4 * d
def Fld.ALINK_RT_VALID : Field := ⟨31, 31, .rw⟩
def Fld.ALINK_RT_PORT : Field := ⟨1, 0, .rw⟩

/-- Rows of the ALINK span, part 0. -/
def rowsALINK0 : List RegRow := [
  ⟨0x800000, [], 0x0, [Fld.ALINK_BOARD_STATUS_SETTLED, Fld.ALINK_BOARD_STATUS_PARTIAL, Fld.ALINK_BOARD_STATUS_ROOT, Fld.ALINK_BOARD_STATUS_STRAP_ROOT, Fld.ALINK_BOARD_STATUS_DIM_Y, Fld.ALINK_BOARD_STATUS_DIM_X, Fld.ALINK_BOARD_STATUS_Y, Fld.ALINK_BOARD_STATUS_X]⟩,
  ⟨0x800010, [], 0x0, [Fld.ALINK_PAIR_CTL_ARM, Fld.ALINK_PAIR_CTL_LEAVE, Fld.ALINK_PAIR_CTL_PORT]⟩,
  ⟨0x800014, [], 0x0, [Fld.ALINK_PAIR_STATUS_STATE, Fld.ALINK_PAIR_STATUS_RESULT, Fld.ALINK_PAIR_STATUS_CAUSE, Fld.ALINK_PAIR_STATUS_WINDOW]⟩,
  ⟨0x800004, [], 0x0, [Fld.ALINK_INT_STATUS_PAIR, Fld.ALINK_INT_STATUS_TAG, Fld.ALINK_INT_STATUS_CONFLICT, Fld.ALINK_INT_STATUS_PORT, Fld.ALINK_INT_STATUS_SETTLED]⟩,
  ⟨0x800008, [], 0x0, [Fld.ALINK_INT_EN_PAIR, Fld.ALINK_INT_EN_TAG, Fld.ALINK_INT_EN_CONFLICT, Fld.ALINK_INT_EN_PORT, Fld.ALINK_INT_EN_SETTLED]⟩,
  ⟨0x800100, [(4, 0x10)], 0xC0F00000, [Fld.ALINK_PORT_CFG_EN, Fld.ALINK_PORT_CFG_VMAX, Fld.ALINK_PORT_CFG_FDEV]⟩,
  ⟨0x800104, [(4, 0x10)], 0x40000000, [Fld.ALINK_PORT_STATUS_STATE, Fld.ALINK_PORT_STATUS_VER, Fld.ALINK_PORT_STATUS_LOST, Fld.ALINK_PORT_STATUS_NB_DEV, Fld.ALINK_PORT_STATUS_NB_PORT]⟩,
  ⟨0x800108, [(4, 0x10)], 0x0, [Fld.ALINK_PORT_CNT_RETRY, Fld.ALINK_PORT_CNT_TAGFAIL]⟩,
  ⟨0x800200, [(2, 0x40), (16, 0x4)], 0x0, [Fld.ALINK_RT_VALID, Fld.ALINK_RT_PORT]⟩]
def rowsALINK : List RegRow := rowsALINK0

/-! ### SCRUB span, 0x900000 – 0x97FFFF (R31) -/

/-- SCRUB_CTL: R334, 11_stacked_cache_and_scrubbing.md. -/
def Reg.SCRUB_CTL : Nat := 0x900000
def Fld.SCRUB_CTL_GO : Field := ⟨31, 31, .wo⟩
def Fld.SCRUB_CTL_CANCEL : Field := ⟨30, 30, .wo⟩
def Fld.SCRUB_CTL_KIND : Field := ⟨1, 0, .rw⟩
/-- SCRUB_STATUS: R334, 11_stacked_cache_and_scrubbing.md. -/
def Reg.SCRUB_STATUS : Nat := 0x900004
def Fld.SCRUB_STATUS_BUSY : Field := ⟨31, 31, .ro⟩
def Fld.SCRUB_STATUS_DONE : Field := ⟨30, 30, .w1c⟩
def Fld.SCRUB_STATUS_OUTCOME : Field := ⟨19, 16, .ro⟩
/-- SCRUB_BASE_LO: R334, 11_stacked_cache_and_scrubbing.md. -/
def Reg.SCRUB_BASE_LO : Nat := 0x900008
def Fld.SCRUB_BASE_LO_ADDR : Field := ⟨31, 8, .rw⟩
/-- SCRUB_BASE_HI: R334, 11_stacked_cache_and_scrubbing.md. -/
def Reg.SCRUB_BASE_HI : Nat := 0x90000C
def Fld.SCRUB_BASE_HI_ADDR : Field := ⟨15, 0, .rw⟩
/-- SCRUB_LEN: R334, 11_stacked_cache_and_scrubbing.md. -/
def Reg.SCRUB_LEN : Nat := 0x900010
def Fld.SCRUB_LEN_LINES : Field := ⟨31, 0, .rw⟩
/-- SCRUB_PROGRESS: R334, 11_stacked_cache_and_scrubbing.md. -/
def Reg.SCRUB_PROGRESS : Nat := 0x900014
def Fld.SCRUB_PROGRESS_LINES : Field := ⟨31, 0, .ro⟩
/-- SCRUB_INT_STATUS: R334, 11_stacked_cache_and_scrubbing.md. -/
def Reg.SCRUB_INT_STATUS : Nat := 0x900018
def Fld.SCRUB_INT_STATUS_UNCORR : Field := ⟨1, 1, .w1c⟩
def Fld.SCRUB_INT_STATUS_DONE : Field := ⟨0, 0, .w1c⟩
/-- SCRUB_INT_EN: R334, 11_stacked_cache_and_scrubbing.md. -/
def Reg.SCRUB_INT_EN : Nat := 0x90001C
def Fld.SCRUB_INT_EN_UNCORR : Field := ⟨1, 1, .rw⟩
def Fld.SCRUB_INT_EN_DONE : Field := ⟨0, 0, .rw⟩
/-- SCRUB_SUM_CORR: R334, 11_stacked_cache_and_scrubbing.md. -/
def Reg.SCRUB_SUM_CORR : Nat := 0x900020
def Fld.SCRUB_SUM_CORR_COUNT : Field := ⟨31, 0, .ro⟩
/-- SCRUB_SUM_UNCORR: R334, 11_stacked_cache_and_scrubbing.md. -/
def Reg.SCRUB_SUM_UNCORR : Nat := 0x900024
def Fld.SCRUB_SUM_UNCORR_COUNT : Field := ⟨31, 0, .ro⟩
/-- SCRUB_SUM_STAMPED: R334, 11_stacked_cache_and_scrubbing.md. -/
def Reg.SCRUB_SUM_STAMPED : Nat := 0x900028
def Fld.SCRUB_SUM_STAMPED_COUNT : Field := ⟨31, 0, .ro⟩
/-- SCRUB_SUM_SKIPPED: R334, 11_stacked_cache_and_scrubbing.md. -/
def Reg.SCRUB_SUM_SKIPPED : Nat := 0x90002C
def Fld.SCRUB_SUM_SKIPPED_COUNT : Field := ⟨31, 0, .ro⟩
/-- SCRUB_SUM_LOGGED: R334, 11_stacked_cache_and_scrubbing.md. -/
def Reg.SCRUB_SUM_LOGGED : Nat := 0x900030
def Fld.SCRUB_SUM_LOGGED_COUNT : Field := ⟨4, 0, .ro⟩
/-- SCRUB_FIRST_LO: R334, 11_stacked_cache_and_scrubbing.md. -/
def Reg.SCRUB_FIRST_LO : Nat := 0x900038
def Fld.SCRUB_FIRST_LO_ADDR : Field := ⟨31, 0, .ro⟩
/-- SCRUB_FIRST_HI: R334, 11_stacked_cache_and_scrubbing.md. -/
def Reg.SCRUB_FIRST_HI : Nat := 0x90003C
def Fld.SCRUB_FIRST_HI_ADDR : Field := ⟨15, 0, .ro⟩
/-- SCRUB_LAST_LO: R334, 11_stacked_cache_and_scrubbing.md. -/
def Reg.SCRUB_LAST_LO : Nat := 0x900040
def Fld.SCRUB_LAST_LO_ADDR : Field := ⟨31, 0, .ro⟩
/-- SCRUB_LAST_HI: R334, 11_stacked_cache_and_scrubbing.md. -/
def Reg.SCRUB_LAST_HI : Nat := 0x900044
def Fld.SCRUB_LAST_HI_ADDR : Field := ⟨15, 0, .ro⟩
/-- SCRUB_LOG_LO(k): R334, 11_stacked_cache_and_scrubbing.md. -/
def Reg.SCRUB_LOG_LO (k : Nat) : Nat := 0x900080 + 0x8 * k
def Fld.SCRUB_LOG_LO_ADDR : Field := ⟨31, 0, .ro⟩
/-- SCRUB_LOG_HI(k): R334, 11_stacked_cache_and_scrubbing.md. -/
def Reg.SCRUB_LOG_HI (k : Nat) : Nat := 0x900084 + 0x8 * k
def Fld.SCRUB_LOG_HI_ADDR : Field := ⟨15, 0, .ro⟩

/-- Rows of the SCRUB span, part 0. -/
def rowsSCRUB0 : List RegRow := [
  ⟨0x900000, [], 0x0, [Fld.SCRUB_CTL_GO, Fld.SCRUB_CTL_CANCEL, Fld.SCRUB_CTL_KIND]⟩,
  ⟨0x900004, [], 0x0, [Fld.SCRUB_STATUS_BUSY, Fld.SCRUB_STATUS_DONE, Fld.SCRUB_STATUS_OUTCOME]⟩,
  ⟨0x900008, [], 0x0, [Fld.SCRUB_BASE_LO_ADDR]⟩,
  ⟨0x90000C, [], 0x0, [Fld.SCRUB_BASE_HI_ADDR]⟩,
  ⟨0x900010, [], 0x0, [Fld.SCRUB_LEN_LINES]⟩,
  ⟨0x900014, [], 0x0, [Fld.SCRUB_PROGRESS_LINES]⟩,
  ⟨0x900018, [], 0x0, [Fld.SCRUB_INT_STATUS_UNCORR, Fld.SCRUB_INT_STATUS_DONE]⟩,
  ⟨0x90001C, [], 0x0, [Fld.SCRUB_INT_EN_UNCORR, Fld.SCRUB_INT_EN_DONE]⟩,
  ⟨0x900020, [], 0x0, [Fld.SCRUB_SUM_CORR_COUNT]⟩,
  ⟨0x900024, [], 0x0, [Fld.SCRUB_SUM_UNCORR_COUNT]⟩,
  ⟨0x900028, [], 0x0, [Fld.SCRUB_SUM_STAMPED_COUNT]⟩,
  ⟨0x90002C, [], 0x0, [Fld.SCRUB_SUM_SKIPPED_COUNT]⟩]
/-- Rows of the SCRUB span, part 1. -/
def rowsSCRUB1 : List RegRow := [
  ⟨0x900030, [], 0x0, [Fld.SCRUB_SUM_LOGGED_COUNT]⟩,
  ⟨0x900038, [], 0x0, [Fld.SCRUB_FIRST_LO_ADDR]⟩,
  ⟨0x90003C, [], 0x0, [Fld.SCRUB_FIRST_HI_ADDR]⟩,
  ⟨0x900040, [], 0x0, [Fld.SCRUB_LAST_LO_ADDR]⟩,
  ⟨0x900044, [], 0x0, [Fld.SCRUB_LAST_HI_ADDR]⟩,
  ⟨0x900080, [(16, 0x8)], 0x0, [Fld.SCRUB_LOG_LO_ADDR]⟩,
  ⟨0x900084, [(16, 0x8)], 0x0, [Fld.SCRUB_LOG_HI_ADDR]⟩]
def rowsSCRUB : List RegRow := rowsSCRUB0 ++ rowsSCRUB1

/-- The spans of R31 with their registers: first offset, first offset above, rows. -/
def regSpans : List (Nat × Nat × List RegRow) := [
  (0x0, 0x10000, rowsDEV),
  (0x10000, 0x20000, rowsCLK),
  (0x20000, 0x30000, rowsPWR),
  (0x30000, 0x40000, rowsRST),
  (0x40000, 0x80000, rowsCFG),
  (0x80000, 0xA0000, rowsPLANE),
  (0x100000, 0x180000, rowsTALLY),
  (0x180000, 0x1C0000, rowsENG),
  (0x200000, 0x280000, rowsSCR),
  (0x280000, 0x380000, rowsNOC),
  (0x380000, 0x400000, rowsSTAT),
  (0x400000, 0x480000, rowsCACHE),
  (0x480000, 0x500000, rowsEMC),
  (0x500000, 0x580000, rowsXTS),
  (0x580000, 0x600000, rowsLANE),
  (0x600000, 0x680000, rowsHOST),
  (0x680000, 0x700000, rowsPIN),
  (0x700000, 0x780000, rowsTRIG),
  (0x780000, 0x800000, rowsSTACK),
  (0x800000, 0x900000, rowsALINK),
  (0x900000, 0x980000, rowsSCRUB)]

/-- Whether the byte distance `d` from a row's base is the distance of one of its registers. -/
def dimsCover : List (Nat × Nat) → Nat → Bool
  | [], d => d == 0
  | (n, st) :: ds, d => decide (d / st < n) && dimsCover ds (d % st)

/-- Whether offset `a` is a register of the row. -/
def RegRow.covers (r : RegRow) (a : Nat) : Bool :=
  decide (r.base ≤ a) && dimsCover r.dims (a - r.base)

/-- The registers of the span that holds offset `a`; none outside every span. -/
def spanRows (a : Nat) : List (Nat × Nat × List RegRow) → List RegRow
  | [] => []
  | (lo, hi, rows) :: t => if lo ≤ a ∧ a < hi then rows else spanRows a t

/-- Whether offset `a` lies in the statistics leaf of an SRC code that R256 reserves (R282). -/
def reservedLeaf (a : Nat) : Bool :=
  let c := (a - 0x390000) / 0x40
  decide (0x390000 ≤ a ∧ c < 0x100) && (c == 0xC7 || decide (0xCC ≤ c ∧ c ≤ 0xCF) || decide (0xE0 ≤ c))

/-- The row of the register at offset `a`; none where the offset is reserved or outside every span. -/
def regRowAt (a : Nat) : Option RegRow := if reservedLeaf a then none else (spanRows a regSpans).find? (fun r => r.covers a)

/-- Whether offset `a` lies inside a control span (R31). -/
def inControlSpan (a : Nat) : Bool := regSpans.any (fun p => decide (p.1 ≤ a ∧ a < p.2.1))

/-- The word that the register at offset `a` holds after reset: the row's, but for the registers whose reset
the spec gives by index (ENG_CTL and ENG_BOOT_ADDR of engine 0, R234; CACHE_WAY_CFG of way 15, R314).
A field whose reset the spec gives as X, fuse, strap, store or ledger starts at zero here: log entry 5. -/
def resetWord (a : Nat) : BitVec 32 :=
  if a = Reg.ENG_CTL 0 then 1
  else if a = Reg.ENG_BOOT_ADDR 0 then 0x10000
  else if a = Reg.CACHE_WAY_CFG 15 then 1
  else match regRowAt a with
    | some r => BitVec.ofNat 32 r.reset
    | none => 0

end Sys2Proof.Machine
end

