-- ==== Sys2Proof/Machine/State.lean ====
section
/-!
DEFINITION. The state of the QTA-7164, as plain data: every register, memory, queue, buffer, counter, mode and pin that the
spec gives the block, the queue of waiting commands, and the state right after power-on reset. Registers that software sees
have their home in `regs` (key: offset from 0x00F0_0000_0000); the other structures hold what the chapters give the block
beside them. Times are counts of rc edges (R1).
-/
namespace Sys2Proof.Machine

/-! ### Network on chip and ordering (chapters 09 and 10) -/

/-- The kinds of request that a network interface handles: the packet kinds of R259, and the scrub requests of R325 and the
forwards of R339. -/
inductive ReqKind where
  | read | write | fence | marker | token | scrub | forward
  deriving DecidableEq, Repr, Inhabited

/-- The answer to one part of a request: its response code (R9), its data with one mark for each 64-bit payload word (R294),
and the BYPASS flag of R261. -/
structure Answer where
  code   : Nat
  bytes  : List Byte
  marks  : List Bool
  bypass : Bool
  deriving DecidableEq, Repr, Inhabited

/-- One part of a request: what goes to one target (R254, R542). A request that is not split has one part. -/
structure Part where
  router    : Nat
  port      : Nat
  addr      : Nat
  len       : Nat
  stream    : Nat
  /-- First byte of the part inside the request. -/
  off       : Nat
  /-- When the target accepted it (R274). -/
  arrivedAt : Option Nat
  /-- The target has performed it, or has ended it with a code. -/
  performed : Bool
  answer    : Option Answer
  /-- The answer has reached the initiator's interface. -/
  returned  : Bool
  /-- The sending interface itself answers the part (R272). -/
  own       : Bool
  /-- The target has begun to serve it (R274). -/
  begun     : Bool
  /-- A FENCE packet that a time limit has ended (R275, R289). -/
  ended     : Bool
  deriving DecidableEq, Repr, Inhabited

/-- A request that an interface has accepted and not yet finished with. -/
structure Request where
  id         : Nat
  src        : Nat
  /-- The bank bound when a region's request was accepted (R100); 0 for every other initiator. -/
  bank       : Nat
  stream     : Nat
  kind       : ReqKind
  addr       : Nat
  len        : Nat
  data       : List Byte
  marks      : List Bool
  /-- The key index that a KEYED host window puts on the request (R349). -/
  key        : Option Nat
  /-- What the initiator asked it for; the initiator's own number. -/
  tag        : Nat
  acceptedAt : Nat
  epoch      : Nat
  /-- When its packets entered the network; none while a fence or a flip holds them (R268, R287). -/
  injAt      : Option Nat
  /-- The fences it waits behind (R287, R288). -/
  heldBy     : List Nat
  /-- The code of the answer that the interface gives itself (R25, R272). -/
  self       : Option Nat
  parts      : List Part
  /-- The initiator has its answer; parts still in the network answer late (R275). -/
  done       : Bool
  /-- A fence: reported to the initiator (R287), or internal (R288). -/
  report     : Bool
  /-- A fence: the streams whose later requests it holds, those it covers, and the first failing answer to arrive (R289). The tag of the
  internal fence for which a write waits is one more than the write's identifier (R288); 0 for the host's own. -/
  holds      : List Nat
  covers     : List Nat
  fail       : Option Nat
  deriving DecidableEq, Repr, Inhabited

/-- A response as its initiator receives it. -/
structure Delivered where
  id     : Nat
  src    : Nat
  bank   : Nat
  stream : Nat
  kind   : ReqKind
  tag    : Nat
  addr   : Nat
  len    : Nat
  code   : Nat
  bytes  : List Byte
  marks  : List Bool
  deriving DecidableEq, Repr, Inhabited

/-- The transmitting end of a link direction (R264): the next SEQ; the replay buffer oldest first, each flit with its SEQ and how
often it has been resent (R271); and the flits that wait for room. -/
structure LinkTx where
  next   : Nat
  replay : List (Nat × Flit × Nat)
  wait   : List Flit
  deriving DecidableEq, Repr, Inhabited

/-- The receiving end of a link direction (R264): the SEQ it expects, the flits accepted since its last acknowledgement and when
the last came, whether a NAK awaits its resend, and by virtual channel the output and first flit of a packet whose CONT has not
arrived. -/
structure LinkRx where
  expect   : Nat
  sinceAck : Nat
  lastAt   : Nat
  nakSent  : Bool
  part     : Table (Nat × Flit)
  deriving DecidableEq, Repr, Inhabited

/-- A counter increment on its way up the tree of R278: when it is due, at which node register, by how much, and whether it
is tainted (R279). -/
structure StatInc where
  due   : Nat
  reg   : Nat
  amt   : Nat
  taint : Bool
  deriving DecidableEq, Repr, Inhabited

/-- The network beside its registers. -/
structure Noc where
  /-- Requests in acceptance order, oldest first. -/
  reqs     : List Request
  nextId   : Nat
  /-- Responses delivered to initiators that take them with a command of their own, oldest first. -/
  inbox    : List Delivered
  /-- Written-target lists (R288), by initiator, bank (or transfer lane) and stream. -/
  lists    : Table (List (Nat × Nat))
  /-- Link ends, by 16 × router + port: 0–3 N, E, S, W; 4 + c the attachment of local port code c (R298). -/
  tx       : Table LinkTx
  rx       : Table LinkRx
  /-- When each link direction last leaked (R269). -/
  leakAt   : Table Nat
  /-- The edge F of the flip in progress (R268). -/
  flipAt   : Nat
  /-- The edge G of the last flip, until its hold ends at G + 1 sc. -/
  flipEnd  : Option Nat
  /-- Counter increments on their way (R278). -/
  incs     : List StatInc
  /-- Counter shadows (R280), by register offset. -/
  shadow   : Table Word32
  /-- A snapshot in progress (R280): its edge S, and the copies made so far, of leaves, rows and device node. -/
  snapAt   : Option (Nat × Nat)
  /-- Counter words of the tree that hold an uncorrectable error, by register offset (R279): errors come from outside. -/
  statBad  : List Nat
  /-- By router: the sc in which its control node has performed a request last (R545). -/
  nodeAt   : Table Nat
  /-- The next source router of the running route computation (R267). -/
  recomp   : Option Nat
  /-- Ports marked RETIRED for good by other chapters: router × 8 + port (R272, R312, R485). -/
  retired  : List Nat
  deriving DecidableEq, Repr, Inhabited

/-! ### Fabric and planes (chapters 02 and 03) -/

/-- Who asks for a switch (R84–R88, PLANE_STATUS.LAST_SRC). -/
inductive SwSrc where
  | reg
  /-- The xq.psel of engine `n` whose outcome is written at the rc edge `due` (R221). -/
  | engine (n : Nat) (due : Nat)
  | sched
  | strobe (k : Nat)
  deriving DecidableEq, Repr, Inhabited

/-- What a request to the beam asks for (R543). -/
inductive SwAct where
  /-- A switch: target plane and bank, where named, and the INIT flag. -/
  | ptr (plane bank : Option Nat) (init : Bool)
  | release
  | isolate
  | setMode (sched : Bool)
  /-- A PLANE_CTL write that combines request bits (R97). -/
  | conflict
  /-- A PLANE_CTL write of STROBE_EN. -/
  | strobeEn (v : Bool)
  /-- A write of PLANE_STROBE(k). -/
  | strobeCfg (k : Nat) (v : Word32)
  /-- A write of PLANE_BSTATE.DISCARD. -/
  | discard (mask : Nat)
  /-- A write of PLANE_XFER_CTL.GO: the bank, and true for a restore. -/
  | xferGo (bank : Nat) (dir : Bool)
  /-- The scheduler's dispatch: plane, bank, INIT and what TP_START presents (R160). -/
  | dispatch (plane bank : Nat) (init resume : Bool) (handle : Nat)
  deriving DecidableEq, Repr, Inhabited

/-- A request to the beam: when it reaches the beam, the fc edge at which it would take effect, and the rest. -/
structure SwReq where
  beamAt : Nat
  edge   : Nat
  src    : SwSrc
  act    : SwAct
  deriving DecidableEq, Repr, Inhabited

/-- A user clock setting: EN, PHASE, DIV_M1 (R62). -/
structure UClk where
  en    : Bool
  phase : Nat
  div   : Nat
  deriving DecidableEq, Repr, Inhabited

/-- The design that a region runs, while nothing about it changes: the region, its active plane's frames by column, its user clocks U0–U3,
and the border-valid signals that it receives from N, E, S, W and the other region of its rod (R43, R61, R93). -/
structure Design where
  region : Nat
  frames : List (List Byte)
  clocks : List UClk
  bvin   : List Bool
  deriving DecidableEq, Repr, Inhabited

/-- A run of fabric edges that a region's bound bank has taken (R39, R79): the first and the last, the design, and what stood on the cascade
wires from below (R41): the lower region's own design while it ran, or the policies of its cascade border cells by column. -/
structure Span where
  first : Nat
  last  : Nat
  own   : Design
  low   : Option Design
  casc  : List Nat
  deriving DecidableEq, Repr, Inhabited

/-- What a state bank holds (R39, R50, R78): unpredictable contents, by number; 6,272 known bytes in the layout of R78; or what a run of edges
has made of `base`. `low` is what the lower region of the rod held when that run began, or the contents that its border cells hold. -/
inductive BankData where
  | unknown (id : Nat)
  | image (bytes : List Byte)
  | ran (base low : BankData) (span : Span)
  deriving DecidableEq, Repr, Inhabited

/-- What an E1 found, for an isolation at that E1 (R96): whether it initialised the bank, the bank with its state and contents, and the
border settings that the cells had latched. -/
structure SwBefore where
  did     : Bool
  bank    : Nat
  was     : Nat
  data    : BankData
  border  : List (BitVec 128)
  deriving DecidableEq, Repr, Inhabited

/-- The last switch cycle of a region (R79, R97): its E1, its INIT flag, the plane that it leaves (none for a release), whether it is a
dispatch, and, once E1 has come, what E1 found. -/
structure SwCycle where
  e1      : Nat
  init    : Bool
  left    : Option Nat
  start   : Bool
  before  : Option SwBefore
  deriving DecidableEq, Repr, Inhabited

/-- A response parked for an unbound bank (R100, R78). -/
structure Parked where
  bytes  : List Byte
  mask   : Nat
  code   : Nat
  stream : Nat
  len    : Nat
  deriving DecidableEq, Repr, Inhabited

/-- A bank transfer in progress (R76): the bank, the direction (true: restore), the state of the bank before it, whether its 86
flits have been issued, the first failing code, and the pieces restored so far, by flit number. -/
structure Xfer where
  bank    : Nat
  dir     : Bool
  started : Bool
  code    : Option Nat
  got     : Table (List Byte)
  deriving DecidableEq, Repr, Inhabited

/-- What a region holds beside its registers. -/
structure Region where
  reqs     : List SwReq
  cyc      : Option SwCycle
  /-- INIT flag kept for the release (R84, R96). -/
  keptInit : Bool
  xfer     : Option Xfer
  /-- The last response presented on NOC_RSP. -/
  rsp      : Option Delivered
  /-- What the border cells hold (R95, R98): the fabric edge at which they last latched their outputs as they stood before it, with the
  bank that ran then; none while they hold zero. -/
  hold     : Option (Nat × BankData)
  /-- The first fabric edge that the bound bank has yet to take (R79). -/
  runFrom  : Nat
  /-- By strobe slot: the fc edge at which its last write took effect (R543). -/
  armed    : Table Nat
  /-- The fc edge (and one) at which the region's NoC request port was last taken, by a request or by a capture unit (R57, R375). -/
  portAt   : Nat
  deriving DecidableEq, Repr, Inhabited

/-- A window access at a region (R54): the request part that it serves, when it was accepted, the window words still to be
served in ascending order, the words read so far (data, CORR, BAD), by block the word and row of a partial ECC write between its read and
its write, by block the fc (and one) in which it was served last, and whether a row has been written. -/
structure WinAcc where
  region : Nat
  id     : Nat
  part   : Nat
  at_    : Nat
  todo   : List Nat
  got    : Table (Word64 × Bool × Bool)
  merge  : Table (Nat × Word72)
  last   : Table Nat
  wrote  : Bool
  deriving DecidableEq, Repr, Inhabited

/-- The read output of a deck RAM port: the word, CORR and BAD (R51, R52). -/
structure PortOut where
  word : Word72
  corr : Bool
  bad  : Bool
  at_  : Nat
  deriving DecidableEq, Repr, Inhabited

/-- The fabric beside its registers. -/
structure Fab where
  /-- By region; an unlisted region is `{}`-like: nothing in progress. -/
  region  : Table Region
  /-- Plane frames (R43): by ((region × 8 + plane) × 64 + column). -/
  frames  : Table (List Byte)
  /-- Bank contents: by 4 × region + bank. -/
  bank    : Table BankData
  /-- Parked responses, oldest first: by 4 × region + bank (R101). -/
  parked  : Table (List Parked)
  /-- Deck RAM rows written since the domain came on (R55): by (48 × region + block) × 512 + row. -/
  ram     : Table Word72
  /-- Port read outputs: by (48 × region + block) × 2 + port. -/
  out     : Table PortOut
  /-- By port: the fc (and one) in which the design or the window has used it last. -/
  portUse : Table Nat
  /-- The last write to each block: the fc edge, the row, the port, and what the row held before (R53). -/
  ramLast : Table (Nat × Nat × Nat × Word72)
  win     : List WinAcc
  /-- User clock settings in force: by 4 × region + k (R61). -/
  uclk    : Table UClk
  /-- User clock writes not yet applied, oldest first: the setting and the sc edge A of R63. -/
  uclkNew : Table (List (UClk × Nat))
  /-- Border settings latched in the border cells: by 64 × region + column (R95, R99). -/
  border  : Table (BitVec 128)
  /-- Outcomes of engine selects on their way back, by engine: the destination register and the code (R85). -/
  psel    : Table (Nat × Nat)
  deriving DecidableEq, Repr, Inhabited


/-! ### Configuration loader and image store (chapter 04) -/

/-- The operation of the reference stream that is under way (R113): what it writes, how many positions are left, and the stored
offset of its word. -/
structure LoadOp where
  kind : Nat
  left : Nat
  off  : Nat
  deriving DecidableEq, Repr, Inhabited

/-- A load (R119–R132). -/
structure Load where
  verify : Bool
  /-- 0: started by GO; 1: the boot load of LOAD; 2: that of FALLBACK (R141). -/
  boot   : Nat
  /-- The image-store slot, or none for a memory source, with its base address and the length at which the source ends (R123). -/
  slot   : Option Nat
  base   : Nat
  limit  : Nat
  /-- The stored bytes read so far. -/
  raw    : List Byte
  /-- A read of the memory source is outstanding. -/
  asked  : Bool
  /-- The state of R121, the content offset of the next item, the next chunk to be checked, and the items done in this state. -/
  stage  : Nat
  pos    : Nat
  chunk  : Nat
  idx    : Nat
  op     : Option LoadOp
  /-- The last frame written (R113), and the frame positions written. -/
  lastF  : List Byte
  frames : Nat
  opened : Bool
  /-- APPLY: a settings record and its fence are outstanding (R129). -/
  wait   : Bool
  deriving DecidableEq, Repr, Inhabited

/-- A store command (R137): WRITE or READ, the slot, the slot offset and the device address of its next unit, the units left, the
bytes of the unit read so far (WRITE), whether the unit's requests have been issued, and a failing code. -/
structure StoreOp where
  write  : Bool
  slot   : Nat
  off    : Nat
  addr   : Nat
  left   : Nat
  got    : Table (List Byte)
  issued : Bool
  fail   : Bool
  deriving DecidableEq, Repr, Inhabited

/-- The loader and the image store beside their registers. -/
structure Cfg where
  load    : Option Load
  store   : Option StoreOp
  /-- Image-store words written, by slot × 4,194,304 + word (R135); an unlisted word is what the store held before. -/
  image   : Table Word64
  /-- System area (R135): CFG_BOOT_SEL and the write counters. -/
  bootSel : Word32
  wcount  : Table Nat
  /-- The needs masks DRIVE and READ of the planes, by 8 × region + plane, from the load that wrote them (R484). -/
  needs   : Table (Nat × Nat)
  deriving DecidableEq, Repr, Inhabited
/-! ### Tally scheduler and speculation (chapters 05 and 06) -/

/-- A tally record (R149, R182), field by field, and beside it the sc edge at which its last token fills its slot (R157). -/
structure TallyRec where
  state      : Nat
  template   : Nat
  gen        : Nat
  full       : Nat
  poison     : Nat
  deadline   : Nat
  /-- PLACE: region or engine, kind (true: engine), bank, valid. -/
  unit       : Nat
  engine     : Bool
  bank       : Nat
  placed     : Bool
  spillSlot  : Nat
  op0        : Word64
  op1        : Word64
  op2        : Word64
  op3        : Word64
  created    : Nat
  specSlot   : Nat
  specLate   : Bool
  nospec     : Bool
  lastReason : Nat
  squashed   : Bool
  squashes   : Nat
  specE1     : Nat
  fillAt     : Nat
  deriving DecidableEq, Repr, Inhabited

/-- A token (R155). -/
structure Token where
  handle : Nat
  slot   : Nat
  value  : Word64
  poison : Bool
  deriving DecidableEq, Repr, Inhabited

/-- What a commit buffer entry holds (R187): a token, or a request of the region; or the place of a drain marker (R241). -/
inductive BufEntry where
  | token (t : Token)
  | request (bank stream : Nat) (kind : ReqKind) (addr len : Nat) (data : List Byte) (marks : List Bool)
  /-- A request of a kind that the table of R259 does not list. -/
  | bad (bank stream addr len : Nat)
  /-- A drain marker of R241 for the handover of scratch bank `b` with edge `h`, which keeps its place behind the entries before it. -/
  | marker (bank stream b h : Nat)
  deriving DecidableEq, Repr, Inhabited

/-- A decision on its way to the beam (R166): the edge Q, the record, the plane and bank, INIT, whether it resumes, whether it
is speculative, and the record that it preempts or displaces. -/
structure Dispatch where
  q       : Nat
  idx     : Nat
  plane   : Nat
  bank    : Nat
  init    : Bool
  resume  : Bool
  spec    : Bool
  victim  : Option Nat
  atBeam  : Bool
  deriving DecidableEq, Repr, Inhabited

/-- A squash on its way to the region (R198): its E0 and its reason. -/
structure Squash where
  z      : Nat
  e0     : Nat
  reason : Nat
  deriving DecidableEq, Repr, Inhabited

/-- What the scheduler and the task port hold for one region. -/
structure SchRegion where
  disp     : Option Dispatch
  /-- No decision before this time: the E1 of the last switch or squash (R164, R198). -/
  busyUntil : Nat
  /-- The tally bound in the region (from E1), and the fc edge to which a preempted one stays bound (R161). -/
  bound    : Option Nat
  leaving  : Option (Nat × Nat)
  /-- Task port inputs (R160, R186). -/
  tpTemplate : Nat
  tpHandle : Nat
  tpOps    : List Word64
  tpPoison : Nat
  tpResume : Bool
  tpStart  : Option Nat
  tpSpec   : Bool
  tpResolved : Option Nat
  /-- The commit edge M that awaits the region (R191). -/
  commitAt : Option Nat
  squash   : Option Squash
  /-- The commit buffer, oldest first, and whether it drains (R187, R191). -/
  buf      : List BufEntry
  draining : Bool
  /-- Poison consumptions withheld while TP_SPEC is high, oldest first: the PATH of each (R196). -/
  withheld : List Nat
  /-- Streams with a held error response (R195). -/
  heldOn   : List Nat
  /-- Spill slots held, with the record that holds each (R171, R172). -/
  slots    : List (Nat × Nat)
  /-- The candidate held for the region while a spill makes it a bank (R170). -/
  waiting  : Option Nat
  /-- The edge I of an isolation that the scheduler has decided (R177). -/
  isoAt    : Option Nat
  deriving DecidableEq, Repr, Inhabited

/-- A spill or restore that an engine performs (R171): region, record, bank, slot, direction (true: restore). -/
structure SpillJob where
  region : Nat
  idx    : Nat
  bank   : Nat
  slot   : Nat
  dir    : Bool
  deriving DecidableEq, Repr, Inhabited

/-- Where a cancel comes from (R174). -/
inductive CancelBy where
  | reg
  | engine (n : Nat)
  | queue (q : Nat)
  deriving DecidableEq, Repr, Inhabited

/-- A cancel on its way to its edge K. -/
structure CancelReq where
  origin : CancelBy
  handle : Nat
  k      : Nat
  deriving DecidableEq, Repr, Inhabited

/-- The scheduler beside its registers. -/
structure Sch where
  /-- Records, by index; an unlisted record is all zeros, that is FREE. -/
  recs    : Table TallyRec
  /-- Freed indices, last freed first, and the next index never issued (R148). -/
  free    : List Nat
  next    : Nat
  /-- Ingress queues, oldest token first, by source number (R155). -/
  queue   : Table (List Token)
  /-- The queue served last (R157). -/
  served  : Nat
  /-- Sources whose head token waits for a record fetch, and since when (R159). -/
  fetch   : Table Nat
  /-- Pending tokens of event sources whose queue is full (R156): by source number × 64 + event source. -/
  pend    : Table Token
  region  : Table SchRegion
  /-- The spill requests posted, by engine (R171), and those that wait to be posted, oldest first (R172). -/
  jobs    : Table SpillJob
  jobWait : List SpillJob
  /-- Engine tasks offered and not yet taken up by the waiting engine, by engine (R162). -/
  offer   : Table Nat
  /-- Engines that wait with ACCEPT, and the sc edge W from which they are offered tasks (R217). -/
  waits   : Table Nat
  cancels : List CancelReq
  /-- Outcomes of cancels that engines and host queues have yet to take, with the edge K of each (R174, R220, R398). -/
  answers : List (CancelBy × Nat × Nat)
  /-- The sc edge of the last tokens taken, and the queues served at it (R157). -/
  taken   : Nat
  takenOf : List Nat
  /-- The queues whose head waits at that edge because sixteen fetches are outstanding (R159). -/
  passed  : List Nat
  /-- Tokens taken and not yet in their slots (R157): the record, the sc edge of the fill, the source, and the token. -/
  fills   : List (Nat × Nat × Nat × Token)
  /-- sc edge of the last decisions (R164). -/
  decided : Nat
  deriving DecidableEq, Repr, Inhabited


/-! ### Reckoner engines (chapter 07) -/

/-- What holds an engine's pipeline. -/
inductive EngBusy where
  | idle
  /-- A load through the network (R211): the destination, the form (funct3 of the load; 8 for xq.ld64, 9 for xq.ptest) and the
  engine address. -/
  | load (rd form addr : Nat)
  /-- xq.wait (R217): opt, the handle, the time limit, the destination, and the sc edge W. -/
  | wait (opt handle limit rd w : Nat)
  /-- A fence over every stream (R211). -/
  | fence
  /-- xq.wait that has ended: it retires at the rc edge `edge`, writes `v` to `rd`, and binds a task (R218). -/
  | ended (edge rd : Nat) (v : Word32) (task : Option Nat)
  /-- xq.cancel, which takes effect at the sc edge `k` (R220). -/
  | cancel (rd k : Nat)
  /-- xq.sacq or xq.srel, whose handover has the edge `h` (R222). -/
  | scratch (rd h : Nat)
  /-- The instruction retires at the rc edge `edge`: it writes `v` to `rd`, and clears the bound task. -/
  | due (edge rd : Nat) (v : Word32) (clear : Bool)
  deriving DecidableEq, Repr, Inhabited

/-- An engine beside its registers of R234. -/
structure Eng where
  pc       : Word32
  /-- The address of the instruction after the one that holds the pipeline. -/
  next     : Word32
  /-- x1–x31; an unlisted register is zero. -/
  x        : Table Word32
  /-- Bit i: x(i) carries a poison mark (R225). -/
  marks    : Word32
  /-- CSRs that hold what was written; an unlisted one holds its reset value. -/
  csr      : Table Word32
  /-- mcycle, as it stood at the rc edge beside it, and minstret. -/
  cycles   : Nat × Nat
  instret  : Nat
  /-- Local data RAM words written since the engine's domain came on (R208). -/
  ram      : Table Word72
  /-- The address of the LR reservation. -/
  resv     : Option Nat
  /-- Instruction cache lines, oldest first: engine address, bytes, and one mark for each word (R209). -/
  icache   : List (Nat × List Byte × Nat)
  /-- Lines that have been requested and have not arrived. -/
  fetching : List Nat
  busy     : EngBusy
  /-- The destination of the xq.psel that is outstanding, and the rc edge at which it is written (R221). -/
  psel     : Option (Nat × Nat)
  /-- A done report on its way: the sc edge at which it reaches the scheduler, and the record (R219, R162). -/
  done     : Option (Nat × Nat)
  /-- It has started since its last reset (R231). -/
  started  : Bool
  /-- The instruction at the pc stalled when RUN was cleared, and completes before the engine halts (R231). -/
  stall    : Bool
  deriving DecidableEq, Repr, Inhabited

/-! ### Scratch banks (chapter 08) -/

/-- A handover that has been asked for and not yet judged (R239): the bank, the requester's code, the engine that waits for it, the
new owner, CLEAR, and the edge H. -/
structure HoAsk where
  bank  : Nat
  by_   : Nat
  eng   : Option Nat
  new   : Nat
  clear : Bool
  h     : Nat
  deriving DecidableEq, Repr, Inhabited

/-- A handover in progress (R241): the old and new owner, CLEAR, H, the engine that waits, the lanes (state bank, stream) whose
marker has not arrived, the edge at which the drain ends, and the edge at which the clear began. -/
structure Handover where
  old     : Nat
  new     : Nat
  clear   : Bool
  h       : Nat
  eng     : Option Nat
  left    : List (Nat × Nat)
  drained : Option Nat
  clearAt : Option Nat
  deriving DecidableEq, Repr, Inhabited

/-- A request part that has reached a scratch bank and waits for a port, or is being served row by row (R246–R248): whether the owner (0), the
granted channel (1) or the scrubber (2) sent it; the rows done; the words met, as they were; and whether one of them had never been written (R236). -/
structure ScrWait where
  id   : Nat
  part : Nat
  cls  : Nat
  rows : Nat
  got  : List Word72
  raw  : Bool
  deriving DecidableEq, Repr, Inhabited

/-- The scratch banks beside their registers. -/
structure Scr where
  /-- Words, by bank × 32,768 + word; an unlisted word is zero in a bank listed in `zeroed`, and unwritten elsewhere. -/
  mem    : Table Word72
  zeroed : List Nat
  asks   : List HoAsk
  hov    : Table Handover
  /-- Request parts held for the new owner, by bank, in arrival order (R241). -/
  held   : Table (List (Nat × Nat))
  /-- Parts that wait for a port, by bank, in the order in which they reached it (R246, R247). -/
  wait   : Table (List ScrWait)
  /-- The access of several rows that a port is serving, by 2 × bank + port (R248). -/
  port   : Table ScrWait
  /-- Corrected words to be written back: bank × 32,768 + word (R249). -/
  back   : Table Word64
  deriving DecidableEq, Repr, Inhabited
/-! ### Duplex lanes (chapter 13) -/

/-- A word of a lane with its SIDE and ERR bits (R364). -/
structure LWord where
  data : BitVec 128
  side : BitVec 16
  err  : BitVec 16
  deriving DecidableEq, Repr, Inhabited

/-- A forwarded word whose slot has not begun (R370–R372): its LRX_SEQ, the word, the time of its first bit at the receiver's pad in
line units, and the substitution that has claimed it. -/
structure FwdWord where
  seq   : Nat
  word  : LWord
  u     : Nat
  claim : Option LWord
  deriving DecidableEq, Repr, Inhabited

/-- A substitution that waits for a word not yet received (R372): LTX_SUB_MODE, LTX_SEQ, the rc edge at which it was accepted, and
its word. -/
structure SubWait where
  mode : Bool
  seq  : Nat
  e    : Nat
  word : LWord
  deriving DecidableEq, Repr, Inhabited

/-- A lane beside its registers. -/
structure Lane where
  /-- The word presented last, its LRX_SEQ, and the LRX_SEQ of the next word (R366, R367). -/
  rx     : LWord
  rxSeq  : Nat
  next   : Nat
  /-- Bits by which LANE_CTL.SLIP has moved the RAW word boundary, modulo 128 (R366). -/
  slip   : Nat
  /-- Words accepted from the region, oldest first, with the rc edge of each (R368). -/
  txq    : List (LWord × Nat)
  /-- What the transmitter sent in its last slot; none is electrical idle. -/
  out    : Option LWord
  /-- The transmitter's own PLL does not yet time it after forwarding has stopped (R373). -/
  retime : Bool
  /-- Words that this lane has received for its peer, oldest first, and the substitutions that wait for later ones. -/
  fwd    : List FwdWord
  subs   : List SubWait
  /-- The profile being switched to, and the fc edge of the region's last request (R363). -/
  target : Nat
  reqAt  : Option Nat
  /-- The capture unit (R374–R376): records buffered, oldest first; records dropped since; the next record carries STOP; records
  left after it; records stored since EN; and whether the last record has been taken. -/
  buf    : List (List Byte)
  gap    : Bool
  mark   : Bool
  post   : Option Nat
  stored : Nat
  closed : Bool
  deriving DecidableEq, Repr, Inhabited
/-! ### Stacked cache and scrubbing (chapter 11) -/

/-- A cache command that runs (R320): OP, WAY, USE, and the sets finished. -/
structure CacheCmd where
  op  : Nat
  way : Nat
  use : Nat
  set : Nat
  deriving DecidableEq, Repr, Inhabited

/-- A line fill in progress (R318): the slice, the external line number, the fill's request, and the forwards that wait for it. -/
structure CacheFill where
  slice : Nat
  line  : Nat
  id    : Nat
  wait  : List Nat
  deriving DecidableEq, Repr, Inhabited

/-- An access in progress at a slice: its request part, and the rc edge at which it is performed (R313). -/
structure CacheAcc where
  id   : Nat
  part : Nat
  due  : Nat
  deriving DecidableEq, Repr, Inhabited

/-- A background pass (R330, R331): the slice, the way, the victim way (none for R330), the next set, and the sets already moved. -/
structure Remap where
  slice  : Nat
  way    : Nat
  victim : Option Nat
  next   : Nat
  moved  : List Nat
  deriving DecidableEq, Repr, Inhabited

/-- The stacked cache beside its registers. Places: line = (slice × 16 + way) × 16,384 + set, word = 32 × line + word. -/
structure Cache where
  /-- Words; an unlisted word is zero data with valid check bits, as FILL leaves it (R321). -/
  mem    : Table Word72
  /-- Tag entries, two copies, by line: TAG in bits 10:0, VALID in bit 11, DIRTY in bit 12; an unlisted entry is invalid. -/
  tags   : Table (Word72 × Word72)
  /-- Tree pseudo-LRU bits by slice × 16,384 + set: bit i is node i, from 1. -/
  plru   : Table Nat
  /-- Ways of which a SETUSE runs. -/
  setuse : List Nat
  cmd    : Option CacheCmd
  fills  : List CacheFill
  /-- The way that serves the lines of a retired DIRECT way, by slice × 16 + way; ways that have left CACHE use as victims, as
  slice × 16 + way; slices whose pinned records are lost for good (R332). -/
  served : Table Nat
  victims : List Nat
  dead   : List Nat
  remaps : List Remap
  /-- Corrected words to be written back (R322). -/
  back   : Table Word64
  /-- Lines that the loader has locked for the dictionary (R112). -/
  locked : List Nat
  /-- Accesses in progress, in the order in which they reached their slices (R313). -/
  acc    : List CacheAcc
  /-- Lines of way 15 that a retaining FILL keeps as they are not known clean (R462): a write was in service, or a write-back pending. -/
  unclean : List Nat
  /-- When the FILL in progress began (R321). -/
  fillAt : Option Nat
  deriving DecidableEq, Repr, Inhabited

/-- A scrub pass that runs (R324–R328): KIND, the next line (an address, or for KIND 3 a line place), lines not yet sent, whether a
cancel has been asked for, and when the last request was sent. -/
structure Scrub where
  kind   : Nat
  next   : Nat
  left   : Nat
  cancel : Bool
  lastAt : Option Nat
  deriving DecidableEq, Repr, Inhabited
/-! ### External memory and inline encryption (chapter 12) -/

/-- A request part that a controller has in hand (R339): the forward that it waits for, if any; whether
its line is being read from DRAM; whether the piece in hand has come back with BYPASS; the pieces not yet served, one for each line, the first in hand; and the answer so far. -/
structure EmcJob where
  id     : Nat
  part   : Nat
  fwd    : Option Nat
  dram   : Bool
  bypass : Bool
  left   : List (Nat × Nat)
  ans    : Answer
  deriving DecidableEq, Repr, Inhabited

/-- A fill that runs (R341): the granule in hand, the granules left, the next line of the granule, and whether it is to end after it. -/
structure EmcFill where
  granule : Nat
  left    : Nat
  line    : Nat
  cancel  : Bool
  deriving DecidableEq, Repr, Inhabited

/-- A key rotation that runs (R352): the range and the next line. -/
structure XtsRot where
  range : Nat
  line  : Nat
  deriving DecidableEq, Repr, Inhabited

/-- A line of a controller's tag buffer (R345): its channel, which tag line of the channel it holds, its 32 words as DRAM stores them, and
whether one has been written since it was read. -/
structure TagLine where
  chan  : Nat
  line  : Nat
  words : List (BitVec 80)
  dirty : Bool
  deriving DecidableEq, Repr, Inhabited

/-- External memory beside its registers. -/
structure Emc where
  /-- DRAM words as stored, by channel × 2^34 + channel-local word: data in bits 63:0, check bytes in bits 71:64 and 79:72 (R338). -/
  mem   : Table (BitVec 80)
  jobs  : List EmcJob
  fill  : Option EmcFill
  rot   : Option XtsRot
  /-- Keys by 4 × set + key (0 data, 1 tweak, 2 MAC); sets 0–7 CUR, 8–15 NEW, 16–31 slots, 32–35 links; an unlisted key is zero. -/
  keys  : Table (BitVec 256)
  /-- The tag buffers, at most 64 lines of each channel (R345). -/
  tags  : List TagLine
  deriving DecidableEq, Repr, Inhabited
/-! ### Host interface (chapter 14) -/

/-- What the controller sends to the host (R381, R385, R392, R400, R402): a write of host memory with its EP bit, a read of host memory
(what it is for: 0 a descriptor, 1 a DMA channel; queue or channel; ring index or zero), a completion of a host read (its tag, the byte
offset in the read, the status: 0 successful, 1 Unsupported Request, 2 Completer Abort; data and EP), a configuration answer, or an MSI-X
message. -/
inductive HostTlp where
  | write (addr : Nat) (bytes : List Byte) (ep : Bool)
  | read (use num idx addr len : Nat)
  | cpl (tag off status : Nat) (bytes : List Byte) (ep : Bool)
  | cfg (value : Word32)
  | msix (addr : Nat) (data : Word32)
  deriving DecidableEq, Repr, Inhabited

/-- A host read that has been split (R385): its tag, its first address, the NoC reads not yet answered, whether it came through
BAR2, and whether it has counted as a consumption. -/
structure HostRead where
  tag  : Nat
  addr : Nat
  left : Nat
  bar2 : Bool
  used : Bool
  deriving DecidableEq, Repr, Inhabited

/-- A completion entry that is owed (R400): TAG, SQ_HEAD, HSTAT, CODE, RESULT, and whether it is to be signalled. -/
structure CqEntry where
  tag    : Nat
  head   : Nat
  hstat  : Nat
  code   : Nat
  result : Nat
  irq    : Bool
  deriving DecidableEq, Repr, Inhabited

/-- What a started descriptor waits for (R395–R398). -/
inductive RunKind where
  /-- A copy on a DMA channel. -/
  | copy
  /-- REGSEQ: the register pairs not yet written, the poll (POLL_MS, POLL_OFF, POLL_MASK, POLL_VAL), the write in the network, the
  time of the last write, whether a poll read is outstanding, and the last value read. -/
  | regseq (pairs : List (Nat × Nat)) (poll : Option (Nat × Nat × Nat × Nat)) (sent : Option (Nat × Nat × Nat)) (last : Nat)
      (polling : Bool) (value : Nat)
  | cancel
  | create
  | fence
  deriving DecidableEq, Repr, Inhabited

/-- A descriptor that runs: its ring index, TAG, whether its completion is signalled, and what it waits for. -/
structure Run where
  idx  : Nat
  tag  : Nat
  irq  : Bool
  kind : RunKind
  deriving DecidableEq, Repr, Inhabited

/-- A command queue beside its registers (R390). -/
structure HostQ where
  /-- Descriptors fetched and not started, oldest first; ring index of the next fetch; fetches outstanding. -/
  fetched : List (Nat × List Byte)
  next    : Nat
  asked   : List Nat
  runs    : List Run
  owed    : List CqEntry
  deriving DecidableEq, Repr, Inhabited

/-- A copy (R396): its queue, ring index, SRC, DST, LEN, SRC_HOST and DST_HOST, the key index, the token (handle and slot), TAG; the
bytes read and written, whether a read is outstanding, how it has ended (HSTAT and CODE), whether it is to abort, whether its fence
is outstanding, and whether that has completed. -/
structure Copy where
  q       : Nat
  idx     : Nat
  src     : Nat
  dst     : Nat
  len     : Nat
  srcHost : Bool
  dstHost : Bool
  key     : Option Nat
  token   : Option (Nat × Nat)
  tag     : Nat
  pos     : Nat
  done    : Nat
  asked   : Bool
  ended   : Option (Nat × Nat)
  abort   : Bool
  fenced  : Bool
  closed  : Bool
  deriving DecidableEq, Repr, Inhabited

/-- A DMA channel: the copy that runs, those that wait, and the queue served last (R396). -/
structure Dma where
  run  : Option Copy
  wait : List Copy
  last : Nat
  deriving DecidableEq, Repr, Inhabited

/-- The host controller beside its registers. -/
structure HostIf where
  /-- The link is up: trained, and not gone down since. -/
  up     : Bool
  /-- Everything sent to the host, oldest first. -/
  sent   : List HostTlp
  reads  : List HostRead
  /-- Doorbells that wait for earlier host posted writes (R391): the next request number at their arrival, queue, whether it is
  CQ_HEAD, value. -/
  bells  : List (Nat × Nat × Bool × Nat)
  /-- Targets and stream of the previous host posted write (R387). -/
  lastW  : Option (List (Nat × Nat) × Nat)
  q      : Table HostQ
  dma    : Table Dma
  /-- The queue visited last in a service turn (R404). -/
  turn   : Nat
  /-- MSI-X: table words by 4 × vector + word, pending bits, and enable and function mask (R389, R402). -/
  msix   : Table Word32
  pba    : List Nat
  msixEn : Bool
  msixMask : Bool
  /-- Levels of the interrupt lines of R230 when they were last seen (R402). -/
  lines  : Nat
  /-- Configuration space words written by the host, and the uncorrectable error status of AER (R382, R384, R388). -/
  cfg    : Table Word32
  aer    : Word32
  /-- PE_CLKREQ_N is driven low (R532). -/
  clkreq : Bool
  deriving DecidableEq, Repr, Inhabited

/-! ### Flex pins, triggers and serial units (chapter 15) -/

/-- An entry of a timestamp queue (R427): tick, fine count, rising edge, LOST. -/
structure Stamp where
  tick   : Nat
  fine   : Nat
  rising : Bool
  lost   : Bool
  deriving DecidableEq, Repr, Inhabited

/-- A trigger channel beside its registers (R426–R428): its timestamp queue, oldest first, whether the next entry carries LOST, the sc of
its last event, the armed time (tick and fine count), the output pulses as rc intervals, and those that have just ended, which the crossbar
still shows (R428). -/
structure TrigCh where
  queue  : List Stamp
  lost   : Bool
  lastSc : Option Nat
  arm    : Option (Nat × Nat)
  pulses : List (Nat × Nat)
  past   : List (Nat × Nat)
  deriving DecidableEq, Repr, Inhabited

/-- A UART (R430): its FIFOs, oldest first, the byte being sent and when it began, and whether its CTS input permits sending. -/
structure Uart where
  tx    : List Byte
  rx    : List Byte
  shift : Option (Byte × Nat)
  cts   : Bool
  deriving DecidableEq, Repr, Inhabited

/-- Pins, triggers and serial units beside their registers. -/
structure Pins where
  /-- PIN_FUNC and PIN_ELEC in force, by pin; an unlisted pin has the reset settings (R419). -/
  drv  : Table (Word32 × Word32)
  /-- By pin: the fc edge E of a switch not yet made (R419), and the time from which the pad's present GPIO setting stands. -/
  sw   : Table Nat
  at_  : Table Nat
  /-- By input: the PIN_ISEL in force before the last write, and the fc edge at which that write takes effect (R420). -/
  isel : Table (Word32 × Nat)
  /-- Trigger channels by number; UARTs by number; SPI and I²C operations in progress by unit: when each began, and its word. -/
  trig : Table TrigCh
  uart : Table Uart
  spi  : Table (Nat × Nat)
  i2c  : Table (Nat × Nat)
  /-- By SPI unit: when its last transfer ended; CS_HOLD keeps its chip select asserted from then on (R430). -/
  spiAt : Table Nat
  deriving DecidableEq, Repr, Inhabited
/-! ### Clocks, power, resets and modes (chapters 16, 17 and 20) -/

/-- A switch of the root's reference in progress (R442): its target, what asked for it (0 software, 1 fallback, 2 return), and its
start edge W. -/
structure ClkSwitch where
  target : Nat
  by_    : Nat
  w      : Nat
  deriving DecidableEq, Repr, Inhabited

/-- Clock generation beside its registers. -/
structure Clk where
  switch  : Option ClkSwitch
  /-- A trip is owed its fallback (R439), and the sc edge of the last software request (R441). -/
  fb      : Bool
  reqAt   : Option Nat
  /-- Since when each ready source has been ready without a break, by source (R440). -/
  since   : Table Nat
  /-- When the lane PLLs leave holdover (R436). -/
  holdEnd : Option Nat
  /-- The source that tripped last, which a waiting fallback never takes (R439). -/
  tripped : Nat
  /-- By gate: the sc edge G of a handshake and its FORCE (R446). -/
  gateAt  : Table (Nat × Bool)
  /-- Gates that were forced (R446). -/
  forced  : List Nat
  deriving DecidableEq, Repr, Inhabited

/-- Power, resets and pins beside their registers. -/
structure Pwr where
  /-- WAKING domains that wait for a place on the ramp, oldest first, and the ramps in progress with their ends (R456). -/
  queue  : List Nat
  ramps  : List (Nat × Nat)
  /-- By domain: the sc edge P of its power-down, and the edge at which it entered DRAINING (R452). -/
  down   : Table (Nat × Option Nat)
  /-- By domain in FENCING or DRAINING: the sc edge at which the condition of R452 that ends the state was first seen to hold. -/
  ready  : Table Nat
  /-- By domain: the request parts held under WAKE, oldest first (R454). -/
  held   : Table (List (Nat × Nat))
  /-- The wake list of STANDBY, and whether the wake has begun (R470). -/
  wake   : List Nat
  waking : Bool
  /-- The sc edge at which each reset was asserted: die k at key k, rod part j of rod n at 16 + 3n + j (R461). -/
  rstAt  : Table Nat
  /-- The sc edge of the warm reset that is held (R463). -/
  warmAt : Option Nat
  /-- PERST asserted (R464), and the base-die reset that it holds. -/
  perst  : Bool
  devHeld : Bool
  /-- Power-good, and the edge at which it fell with the supplies still in range (R523). -/
  good   : Bool
  failAt : Option Nat
  /-- The device rests until power-good next rises: rails out of range, or a thermal trip (R518, R527). -/
  tripped : Bool
  /-- THERMTRIP_N is asserted (R527). -/
  therm  : Bool
  /-- When POWER-UP began (R468). -/
  upAt   : Nat
  /-- Self-test found the host controller, the root engine or the image store faulty (R468). -/
  faulty : Bool
  /-- Cache dies being refilled after a reset, with the end of the refill (R465). -/
  refill : Table Nat
  /-- A base-die reset retains part of way 15 (R462). -/
  retain : Bool
  deriving DecidableEq, Repr, Inhabited


/-! ### Stack health (chapter 18) -/

/-- A temperature sensor's half-cycle counting (R486), in 0.25 °C: last reversal, running extreme, and whether the trend rises. -/
structure Sensor where
  rev : Int
  ext : Int
  up  : Bool
  deriving DecidableEq, Repr, Inhabited

/-- A record of the wear ledger (R488): sequence number, the counts h(s, b) by 4s + b, the sensors, and whether its CRC is good. -/
structure WearRec where
  seq    : Nat
  counts : Table Nat
  sens   : Table Sensor
  good   : Bool
  deriving DecidableEq, Repr, Inhabited

/-- Stack health beside its registers. -/
structure Stk where
  /-- Bad via positions by group identifier, ascending: the fuse entry of R476 as the device applies it. -/
  bad     : Table (List Nat)
  /-- Entries not yet blown into the fuses: group and position (R477). -/
  pend    : List (Nat × Nat)
  /-- Retired groups (R476, R483). -/
  retired : List Nat
  /-- Rod-channel retirements: the driving region, g, and the edge X (R128, R484). -/
  rcLost  : List (Nat × Nat × Nat)
  /-- The sweep that runs: by rod, the group observed last, as 256 × interface + index (R479). -/
  sweep   : Option (Table Nat)
  /-- Lane-shift pauses: the group and Y (R481). -/
  pauses  : List (Nat × Nat)
  /-- Deferred repairs: the group and its faulty vias (R482). -/
  defer   : List (Nat × List Nat)
  /-- Sensors that have been read, and the time of the last reading of all (R486). -/
  sens    : Table Sensor
  readAt  : Option Nat
  /-- The ring of 16 ledger records, by place, and the place of the next (R488). -/
  ring    : Table WearRec
  place   : Nat
  deriving DecidableEq, Repr, Inhabited
/-! ### Counting boards (chapter 19) -/

/-- What a beacon says (R496): the sender's serial number and port, its dimensions, SETTLED, COORD_VALID, hops, coordinate, and its best
candidate as the pair of R497 (not strapped root, serial number). -/
structure Beacon where
  serial  : Nat
  port    : Nat
  dimX    : Nat
  dimY    : Nat
  settled : Bool
  valid   : Bool
  hops    : Nat
  x       : Nat
  y       : Nat
  best    : Nat × Nat
  deriving DecidableEq, Repr, Inhabited

/-- A frame without SEQ, ACK, TAG and CRC (R492): TYPE, HOPS, DEVS, NOC and the payload in the clear. -/
structure AFrame where
  type : Nat
  hops : Nat
  devs : Nat
  noc  : List Byte
  body : List Byte
  deriving DecidableEq, Repr, Inhabited

/-- An Aethene port beside its registers (R491–R493, R503, R504). -/
structure APort where
  upAt   : Nat
  /-- Transmitter: next SEQ, frames not yet acknowledged, oldest first, with their SEQ, frames that wait for room, the frame resent last
  and how often it has been resent, and every frame sent, as bytes, oldest first. -/
  next   : Nat
  replay : List (Nat × AFrame)
  wait   : List AFrame
  resent : Nat × Nat
  sent   : List (List Byte)
  /-- Receiver: the SEQ it expects, and whether a NAK awaits its resend. -/
  expect : Nat
  nakSent : Bool
  /-- The neighbour's last beacon, and the content and time of the last one sent. -/
  nb     : Option Beacon
  lastB  : Option (Beacon × Nat)
  /-- Whether the neighbour's READY frame has come while this device is not armed (R507). -/
  ready  : Bool
  deriving DecidableEq, Repr, Inhabited

/-- A packet of a request of this device that has left by a port (R504): the request, its part, the port, the destination device, whether
its DELIVERY has come, and an answer that has come and is not yet in turn. -/
structure Departed where
  req       : Request
  part      : Nat
  port      : Nat
  dev       : Nat
  delivered : Bool
  answer    : Option Answer
  deriving DecidableEq, Repr, Inhabited

/-- A device that an ordering domain has written since its last fence (R504): initiator, bank, stream, port, device. -/
structure Wrote where
  src    : Nat
  bank   : Nat
  stream : Nat
  port   : Nat
  dev    : Nat
  deriving DecidableEq, Repr, Inhabited

/-- A request of another device that a port has issued here (R504): its local request, the port, its origin, and its hops. -/
structure Inbound where
  id     : Nat
  port   : Nat
  origin : Nat
  hops   : Nat
  deriving DecidableEq, Repr, Inhabited

/-- What a window of paired run covers (R510): the flex-pin drivers from an fc edge on (data and output enables), a lane transmit word,
a DATA frame's payload, a host-bound TLP's payload. -/
inductive PairItem where
  | pins (edge : Nat) (data oe : BitVec 320)
  | lane (l : Nat) (w : LWord)
  | frame (p : Nat) (b : List Byte)
  | tlp (b : List Byte)
  deriving DecidableEq, Repr, Inhabited

/-- Paired run (R507–R512). -/
structure Pair where
  readySent : Bool
  readyGot  : Bool
  /-- The fc edge at which the chassis sync edge was sampled, and the entry edge. -/
  sync      : Option Nat
  entry     : Option Nat
  /-- The window in progress, what it covers so far, and the CRCs of windows, by number, of this device and of the partner. -/
  window    : Nat
  items     : List PairItem
  own       : Table Nat
  their     : Table Nat
  /-- How many SIG frames have come: the window number of the next. -/
  sigs      : Nat
  /-- When the last PAIR frame came. -/
  lastAt    : Nat
  /-- The window that a LEAVE frame names, and the last window before the return to the run mode (R512). -/
  leave     : Option (Nat × Nat)
  deriving DecidableEq, Repr, Inhabited

/-- The board (R494–R506). -/
structure Brd where
  straps : Straps
  /-- The best candidate (R497), whether a coordinate is held, its hop count, whether it came from a settled beacon, and when they last
  changed. -/
  best   : Nat × Nat
  valid  : Bool
  hops   : Nat
  adopted : Bool
  changed : Nat
  ports  : Table APort
  out    : List Departed
  wrote  : List Wrote
  inb    : List Inbound
  pair   : Pair
  deriving DecidableEq, Repr, Inhabited
/-! ### Logs, deferred effects, and the decode in force -/

/-- The events of one cycle of a log's clock (R544): the cycle; the rank, word, companion registers and interrupt bit (register and
field) of the event that ranks first; whether there were more; when the log takes the record; and whether it stands there. -/
structure LogPend where
  cyc  : Nat
  rank : Nat
  word : Word32
  comp : List (Nat × Word32)
  int  : Option (Nat × Field)
  more : Bool
  at_  : Nat
  here : Bool
  /-- MORE before the log took the record. -/
  was  : Bool
  deriving DecidableEq, Repr, Inhabited

/-- An effect that a rule puts at a later edge. -/
inductive Later where
  /-- A log takes its new value (R544). -/
  | logTake (a : Nat)
  /-- The interfaces send what a flip has held (R268). -/
  | inject
  /-- Writes of region `r`'s PLANE span take effect in the beam (R543). -/
  | beamWrites (r : Nat)
  /-- E1 of region `r`'s switch cycle (R79). -/
  | regionE1 (r : Nat)
  /-- The E1 of a dispatch without a switch cycle (R81, R160). -/
  | present (r : Nat)
  /-- A dispatch's operands are consumed at its E1 (R300). -/
  | operands (r : Nat)
  /-- A region that is reset enters RESET (R96). -/
  | regionReset (r : Nat)
  /-- Tokens taken fill their slots (R157). -/
  | fills
  /-- Speculative tallies whose slot has been filled are resolved, after every other transition of the edge (R190). -/
  | resolveSpecs
  /-- The record of a task that is done is freed (R161); an engine task's too (R162). -/
  | taskEnd (r handle : Nat)
  /-- A dispatch that the beam has refused returns its record (R167). -/
  | dispatchBack (r : Nat)
  /-- A spill or restore has been acknowledged (R172, R173). -/
  | spillEnd (j : SpillJob) (outcome : Nat)
  /-- Whether the scheduler isolates region `r` is decided (R177). -/
  | quiesce (r : Nat)
  /-- The ports of scratch bank `b` serve what has reached it by the nc edge before (R246, R247). -/
  | scratchEdge (b : Nat)
  /-- Accesses of the slices are performed (R313). -/
  | cacheServe
  /-- The drain of scratch bank `b` ends (R241). -/
  | drainEnd (b : Nat)
  /-- Planes of regions become INVALID: by an abort, with which BGEN increases (R127), or after a CLOSE (R484). -/
  | planesInvalid (regions planes : List Nat) (abort : Bool)
  /-- Banks of region `r` become UNINIT, with the tallies in them, and a plane INVALID: one fc after a retirement isolates it (R484, R485). -/
  | banksLost (r : Nat) (banks : List Nat) (plane : Option Nat)
  /-- An engine's wait that has been given up leaves the scheduler (R452). -/
  | endWait (n : Nat)
  /-- A register request for a profile switch is checked, after a region's at the same edge (R363). -/
  | profGo (lane profile : Nat)
  deriving DecidableEq, Repr, Inhabited

/-- The window and range configuration in force before the present edge (R26): the registers, and the ways of which a SETUSE runs. -/
structure Seen where
  regs   : Table Word32
  setuse : List Nat
  deriving DecidableEq, Repr, Inhabited

/-! ### The block -/

/-- The state of the block. -/
structure State where
  /-- The commands that wait, oldest first. -/
  pending : List Instr
  /-- Time in rc since power was applied (R1). -/
  now     : Nat
  /-- The alignment beat that ended POWER-UP (R62); none before it. -/
  epoch   : Option Nat
  /-- The model's own: how many free values have been drawn (log entry 6). -/
  fresh   : Nat
  /-- The control registers: offset from 0x00F0_0000_0000, and word; an unlisted register holds its reset word. -/
  regs    : Table Word32
  /-- By log register: what the last cycle with events gives it (R544). -/
  logs    : Table LogPend
  /-- What is to happen at a later edge, by time: the earliest first. -/
  agenda  : List (Nat × Later)
  /-- The configuration against which requests of the present edge are decoded (R26). -/
  seen    : Seen
  fuse    : Fuses
  fab     : Fab
  noc     : Noc
  sch     : Sch
  clk     : Clk
  pwr     : Pwr
  stk     : Stk
  pin     : Pins
  brd     : Brd
  cache   : Cache
  /-- The scrub pass that runs. -/
  scrub   : Option Scrub
  emc     : Emc
  /-- The engines, by number. -/
  eng     : Table Eng
  /-- The nonce that the root firmware keeps (R233). -/
  nonce   : Option Word32
  scr     : Scr
  cfg     : Cfg
  /-- The lanes, by number. -/
  lane    : Table Lane
  host    : HostIf
  deriving DecidableEq, Repr

/-- Why the block stops. No rule of the spec stops it: no command faults. -/
inductive Fault where
  deriving DecidableEq, Repr

/-- Why a command has no meaning. -/
inductive Refusal where
  /-- The command has no meaning in this model yet. Raised by the dispatcher only; safe: the run stops. -/
  | notModelled (mnemonic : String)
  deriving DecidableEq, Repr

def Fab.reset : Fab := ⟨[], [], [], [], [], [], [], [], [], [], [], [], []⟩
def Sch.reset : Sch := ⟨[], [], 0, [], 0, [], [], [], [], [], [], [], [], [], 0, [], [], [], 0⟩
def Noc.reset : Noc := ⟨[], 0, [], [], [], [], [], 0, none, [], [], none, [], [], none, []⟩
def Clk.reset : Clk := ⟨none, false, none, [], none, 0, [], []⟩
def Pwr.reset : Pwr := ⟨[], [], [], [], [], [], false, [], none, false, false, true, none, false, false, 0, false, [], false⟩

def Cfg.reset : Cfg := ⟨none, none, [], 0, [], []⟩
def Scr.reset : Scr := ⟨[], [], [], [], [], [], [], []⟩
def HostIf.reset : HostIf := ⟨false, [], [], [], none, [], [], 63, [], [], false, false, 0, [], 0, false⟩
def Pair.reset : Pair := ⟨false, false, none, none, 0, [], [], [], 0, 0, none⟩
/-- The best candidate starts as the device itself (R497): (not strapped root, serial number). -/
def Brd.reset : Brd :=
  ⟨Config.straps, (if Config.straps.root then 0 else 1, Config.fuses.serial), false, 0, false, 0, [], [], [], [], Pair.reset⟩
def Stk.reset : Stk := ⟨[], [], [], [], none, [], [], [], none, [], 0⟩
def Pins.reset : Pins := ⟨[], [], [], [], [], [], [], [], []⟩
def Cache.reset : Cache := ⟨[], [], [], [], none, [], [], [], [], [], [], [], [], [], none⟩
def Emc.reset : Emc := ⟨[], [], none, none, [], []⟩

/-- The block right after power-on reset: every register at its reset word, nothing in progress, POWER-UP just begun
(DEV_STATUS.MODE = 0x1, R33). -/
def State.reset : State where
  pending := []
  now := 0
  epoch := none
  fresh := 0
  regs := []
  logs := []
  agenda := []
  seen := ⟨[], []⟩
  fuse := Config.fuses
  fab := Fab.reset
  noc := Noc.reset
  sch := Sch.reset
  clk := Clk.reset
  pwr := Pwr.reset
  stk := Stk.reset
  pin := Pins.reset
  brd := Brd.reset
  cache := Cache.reset
  scrub := none
  emc := Emc.reset
  eng := []
  nonce := none
  scr := Scr.reset
  cfg := Cfg.reset
  lane := []
  host := HostIf.reset
end Sys2Proof.Machine
end

