-- ==== Sys2Proof/Machine/Table.lean ====
section
/-!
DEFINITION. The operations on sparse tables. A table has ONE canonical form: keys strictly rising, and no entry equal to what
an unlisted key reads as. `tget` and `tput` take that reading of unlisted keys as their first argument; `tfind`, `tins` and
`tdel` serve tables in which an unlisted key holds nothing.
-/
namespace Sys2Proof.Machine

/-- The first value listed under key `k`. -/
def tfind {α : Type} : Table α → Nat → Option α
  | [], _ => none
  | (k', v) :: t, k => if k = k' then some v else tfind t k

/-- `t` without the entries of key `k`. -/
def tdel {α : Type} (t : Table α) (k : Nat) : Table α := t.filter (fun p => p.1 != k)

/-- Put `(k, v)` before the first larger key. -/
def tinsOrd {α : Type} (k : Nat) (v : α) : Table α → Table α
  | [] => [(k, v)]
  | (k', v') :: t => if k < k' then (k, v) :: (k', v') :: t else (k', v') :: tinsOrd k v t

/-- `t` with key `k` holding `v`. -/
def tins {α : Type} (t : Table α) (k : Nat) (v : α) : Table α := tinsOrd k v (tdel t k)

/-- What key `k` reads as; `d` says what an unlisted key reads as. -/
def tget {α : Type} (d : Nat → α) (t : Table α) (k : Nat) : α :=
  match tfind t k with
  | some v => v
  | none => d k

/-- `t` with key `k` reading as `v`; writing what an unlisted key reads as removes the entry. -/
def tput {α : Type} [DecidableEq α] (d : Nat → α) (t : Table α) (k : Nat) (v : α) : Table α :=
  if v = d k then tdel t k else tins t k v

/-- Keys strictly rising. -/
def tsorted {α : Type} : Table α → Bool
  | [] => true
  | [_] => true
  | (k, _) :: (k', v') :: t => decide (k < k') && tsorted ((k', v') :: t)

/-- The canonical form: keys strictly rising and no entry equal to what an unlisted key reads as. -/
def twf {α : Type} [DecidableEq α] (d : Nat → α) (t : Table α) : Bool :=
  tsorted t && t.all (fun p => decide (p.2 ≠ d p.1))

end Sys2Proof.Machine
end

