-- ==== Sys2Proof/Machine/Ops.lean ====
section
/-!
DEFINITION. The named operations that every family shares: time, registers and their fields, logs, counters, free values.
-/
namespace Sys2Proof.Machine

/-! ### Registers -/

/-- The width of a field. -/
def Field.width (f : Field) : Nat := f.hi + 1 - f.lo

/-- The bits of a field, as a word. -/
def Field.mask (f : Field) : Word32 := BitVec.ofNat 32 ((2 ^ f.width - 1) * 2 ^ f.lo)

/-- The value of a field of a register word. -/
def fieldGet (w : Word32) (f : Field) : Nat := w.toNat / 2 ^ f.lo % 2 ^ f.width

/-- A register word with one field replaced; the value is cut to the field's width. -/
def fieldPut (w : Word32) (f : Field) (v : Nat) : Word32 :=
  (w &&& ~~~ f.mask) ||| BitVec.ofNat 32 (v % 2 ^ f.width * 2 ^ f.lo)

/-- What the register at offset `a` holds. -/
def State.reg (s : State) (a : Nat) : Word32 := tget resetWord s.regs a

/-- The register at offset `a` set to `w`. -/
def State.setReg (s : State) (a : Nat) (w : Word32) : State := { s with regs := tput resetWord s.regs a w }

/-- The value of field `f` of the register at offset `a`. -/
def State.fld (s : State) (a : Nat) (f : Field) : Nat := fieldGet (s.reg a) f

/-- Field `f` of the register at offset `a` set to `v`. -/
def State.setFld (s : State) (a : Nat) (f : Field) (v : Nat) : State := s.setReg a (fieldPut (s.reg a) f v)

/-- Whether a one-bit field is 1. -/
def State.bit (s : State) (a : Nat) (f : Field) : Bool := s.fld a f != 0

/-- A Boolean as a field value. -/
def b2n (b : Bool) : Nat := if b then 1 else 0

/-- A counter field raised by `n`, saturating at the largest value of the field. -/
def State.bump (s : State) (a : Nat) (f : Field) (n : Nat) : State :=
  s.setFld a f (satAdd (2 ^ f.width - 1) (s.fld a f) n)

/-- A counter field raised by `n`, wrapping. -/
def State.bumpWrap (s : State) (a : Nat) (f : Field) (n : Nat) : State := s.setFld a f (s.fld a f + n)

/-- A 48-bit value kept in two registers: bits 31:0 at `lo`, bits 47:32 in the low half of `hi`. -/
def State.reg48 (s : State) (lo hi : Nat) : Nat := (s.reg lo).toNat + (s.reg hi).toNat % 2 ^ 16 * 2 ^ 32

/-- A 48-bit value written to two registers. -/
def State.setReg48 (s : State) (lo hi v : Nat) : State :=
  (s.setReg lo (BitVec.ofNat 32 v)).setReg hi (BitVec.ofNat 32 (v / 2 ^ 32 % 2 ^ 16))

/-! ### Time (R1, R2, R62, R178) -/

/-- rc edges in one edge of each clock (R1). -/
def ncLen : Nat := 3
def ccLen : Nat := 4
def fcLen : Nat := 6
def scLen : Nat := 12

/-- Whole cycles of 12 rc that have passed: the number of the present sc. -/
def State.scNow (s : State) : Nat := s.now / scLen

/-! ### Logs (R544) -/

/-- VALID and MORE of every log register. -/
def logValid : Field := ⟨31, 31, .w1c⟩
def logMore : Field := ⟨30, 30, .w1c⟩

/-- The log at `a` takes the record `p`: it stands there while VALID is 0; otherwise it sets MORE only. -/
def State.takeLog (s : State) (a : Nat) (p : LogPend) : State :=
  let was := s.bit a logMore
  let note (s : State) (here : Bool) : State := { s with logs := tins s.logs a { p with here := here, was := was } }
  if s.fld a logValid = 0 then
    let s := s.setReg a ((s.reg a &&& 0x40000000) ||| p.word ||| (if p.more then 0xC0000000 else 0x80000000))
    let s := p.comp.foldl (fun s c => s.setReg c.1 c.2) s
    note (match p.int with
      | some b => s.setFld b.1 b.2 1
      | none => s) true
  else note (s.setFld a logMore 1) false

/-- Effect `x` is put at the time `t`, behind those already there. -/
def State.later (s : State) (t : Nat) (x : Later) : State :=
  { s with agenda := s.agenda.takeWhile (fun p => p.1 ≤ t) ++ (t, x) :: s.agenda.dropWhile (fun p => p.1 ≤ t) }

/-- Two records of one cycle as one: the fields of the one that ranks first (R544). -/
def LogPend.join (p q : LogPend) : LogPend :=
  if q.rank < p.rank then { q with more := true, at_ := p.at_, here := p.here, was := p.was } else { p with more := true }

/-- An event for a log that ranks the events of one edge of its clock (R544): the log takes it at once. `cyc` is the edge, `rank` the
event's rank among those of the edge (lower first), `w` the fields that it records, `comp` the companion registers, `int` the
interrupt bit that a new record sets. -/
def State.logEvent (s : State) (a cyc rank : Nat) (w : Word32) (comp : List (Nat × Word32)) (int : Option (Nat × Field)) : State :=
  let q : LogPend := ⟨cyc, rank, w, comp, int, false, s.now, false, false⟩
  match tfind s.logs a with
  | some p =>
    if p.cyc ≠ cyc then s.takeLog a q
    else
      let r := p.join q
      if p.here ∧ s.fld a logValid ≠ 0 then
        ((s.setFld a logValid 0).setFld a logMore (b2n (s.bit a logMore && p.was))).takeLog a r
      else if s.fld a logValid = 0 then s.takeLog a r
      else { s.setFld a logMore 1 with logs := tins s.logs a r }
  | none => s.takeLog a q

/-- The next sc edge after the present sc. -/
def State.scNext (s : State) : Nat := s.now / scLen * scLen + scLen
/-- The next fc edge. -/
def State.fcNext (s : State) : Nat := s.now / fcLen * fcLen + fcLen

/-- An event for a log that ranks the events of one sc (R544): the log takes the first of them at the next sc edge. -/
def State.logSc (s : State) (a rank : Nat) (w : Word32) (comp : List (Nat × Word32)) (int : Option (Nat × Field)) : State :=
  let q : LogPend := ⟨s.scNow, rank, w, comp, int, false, s.scNext, false, false⟩
  match tfind s.logs a with
  | some p =>
    if p.cyc = s.scNow ∧ s.now < p.at_ then { s with logs := tins s.logs a (p.join q) }
    else ({ s with logs := tins s.logs a q }).later s.scNext (.logTake a)
  | none => ({ s with logs := tins s.logs a q }).later s.scNext (.logTake a)

/-- The effect of a 1 written to VALID of the log at `a`, once VALID is cleared: a record of this edge stands (R544). -/
def State.logAgain (s : State) (a : Nat) : State :=
  match tfind s.logs a with
  | some p => if p.at_ / scLen = s.scNow ∧ p.at_ ≤ s.now ∧ s.fld a logValid = 0 then
      (s.setFld a logMore (b2n (s.bit a logMore && p.was))).takeLog a p
    else s
  | none => s

/-- The log at `a` as it will read once it has taken what the present cycle gives it. -/
def State.logView (s : State) (a : Nat) : State :=
  match tfind s.logs a with
  | some p => if s.now < p.at_ then s.takeLog a p else s
  | none => s

/-! ### Free values -/

/-- The number of the next free value. -/
def State.draw (s : State) : State := { s with fresh := s.fresh + 1 }

/-! ### The tick, the fabric edge count and the mode -/

/-- TALLY_NOW: the sc count since the alignment beat that ended POWER-UP, modulo 2^48 (R178); 0 before it. -/
def State.tallyNow (s : State) : Nat :=
  match s.epoch with
  | some e => (s.now - e) / scLen % 2 ^ 48
  | none => 0

/-- F, the fabric edge count of R62, at the last fc edge at or before the time `t`. -/
def State.fabF (s : State) (t : Nat) : Nat :=
  match s.epoch with
  | some e => (t - e) / fcLen
  | none => 0

/-- The time of fabric edge `f`. -/
def State.fabTime (s : State) (f : Nat) : Nat := s.epoch.getD 0 + f * fcLen

/-- The operating mode (R11). -/
def State.mode (s : State) : Nat := s.fld Reg.DEV_STATUS Fld.DEV_STATUS_MODE

def modeOff : Nat := 0x0
def modePowerUp : Nat := 0x1
def modeFill : Nat := 0x2
def modeLoad : Nat := 0x3
def modeFallback : Nat := 0x4
def modeService : Nat := 0x5
def modeRun : Nat := 0x6
def modePaired : Nat := 0x7
def modeDegraded : Nat := 0x8
def modeQuiesce : Nat := 0x9
def modeStandby : Nat := 0xA
def modeSecureHalt : Nat := 0xB

/-- A change of mode sets PWR_INT_STATUS.MODE (R473). -/
def State.setMode (s : State) (m : Nat) : State :=
  if s.mode = m then s
  else (s.setFld Reg.DEV_STATUS Fld.DEV_STATUS_MODE m).setFld Reg.PWR_INT_STATUS Fld.PWR_INT_STATUS_MODE 1

/-- In paired run, an output joins what the window in progress covers (R510). -/
def State.pairLog (s : State) (x : PairItem) : State :=
  if s.mode = modePaired then { s with brd := { s.brd with pair := { s.brd.pair with items := s.brd.pair.items ++ [x] } } } else s

/-! ### The counter tree (R277–R280) -/

/-- Whether the counter whose first register is at `a` is a byte counter of 48 bits: node offsets 0x00 and 0x08 (R282). -/
def statIs48 (a : Nat) : Bool := a % 0x40 == 0 || a % 0x40 == 8

/-- The STATUS register of the node that holds the counter at `a`. -/
def statNodeStatus (a : Nat) : Nat := a / 0x40 * 0x40 + 0x30

/-- A node's TAINT set (R279). -/
def State.statTaint (s : State) (a : Nat) : State :=
  let r := statNodeStatus a
  if (s.reg r).toNat / 2 ^ 31 = 1 then s
  else (s.setReg r (s.reg r ||| 0x80000000)).setFld Reg.STAT_INT_STATUS Fld.STAT_INT_STATUS_TAINT 1

/-- A counter of the tree raised by `n`, saturating (R278). -/
def State.statAdd (s : State) (a n : Nat) : State :=
  if statIs48 a then s.setReg48 a (a + 4) (satAdd (2 ^ 48 - 1) (s.reg48 a (a + 4)) n)
  else s.setReg a (BitVec.ofNat 32 (satAdd (2 ^ 32 - 1) (s.reg a).toNat n))

def statLeafBase : Nat := 0x390000
def statRowBase : Nat := 0x3A0000
def statDevBase : Nat := 0x3A0200

/-- An update or a read of the node that holds the register at `a` meets its words: one with an uncorrectable error sets the node's
TAINT, and its value is free from then on (R279). -/
def State.statCheck (s : State) (a : Nat) : State :=
  let here (w : Nat) : Bool := w / 0x40 == a / 0x40
  if s.noc.statBad.any here then
    let s := (s.noc.statBad.filter here).foldl (fun s w =>
      { s.setReg w ((Config.freeWord s.fresh).setWidth 32) with fresh := s.fresh + 1 }) (s.statTaint a)
    { s with noc := { s.noc with statBad := s.noc.statBad.filter (fun w => !here w) } }
  else s

/-- An increment reaches its node with its taint; a row passes it up, with its own TAINT as it then is, to reach the device node 8 sc
later (R278, R279). -/
def State.statInc (s : State) (i : StatInc) : State :=
  let s := (s.statCheck i.reg).statAdd i.reg i.amt
  let s := if i.taint then s.statTaint i.reg else s
  if statRowBase ≤ i.reg ∧ i.reg < statDevBase then
    let up : StatInc := ⟨i.due + 8 * scLen, statDevBase + i.reg % 0x40, i.amt, decide ((s.reg (statNodeStatus i.reg)).toNat / 2 ^ 31 = 1)⟩
    { s with noc := { s.noc with incs := s.noc.incs ++ [up] } }
  else s

/-- The increments that are due by time `t` reach their nodes. -/
def State.statDue (s : State) (t : Nat) : State :=
  (s.noc.incs.filter (fun i => i.due ≤ t)).foldl State.statInc
    { s with noc := { s.noc with incs := s.noc.incs.filter (fun i => t < i.due) } }

/-- The increments that are due by time `t` reach their nodes, rows before the device node. -/
def State.statSettle (s : State) (t : Nat) : State := (s.statDue t).statDue t

/-- The counters of the nodes from offset `lo` to `hi` copied into their shadows (R280). -/
def State.copyShadow (s : State) (lo hi : Nat) : State :=
  { s with noc := { s.noc with
    shadow := s.noc.shadow.filter (fun p => p.1 < lo) ++ s.regs.filter (fun p => lo ≤ p.1 && p.1 < hi) ++
      s.noc.shadow.filter (fun p => hi ≤ p.1) } }

/-- One copy of the snapshot taken at `e`, where the increments of `e` have reached the nodes from `lo` to `hi` by time `t`. -/
def State.snapStep (s : State) (t e stage due lo hi : Nat) : State :=
  if s.noc.snapAt = some (e, stage) ∧ e + due * scLen ≤ t then
    let s := (s.statSettle (e + due * scLen)).copyShadow lo hi
    { s with noc := { s.noc with snapAt := some (e, stage + 1) } }
  else s

/-- A snapshot taken at S copies the leaves once the increments of S are in them, the rows at S + 4 sc and the device node at S + 12 sc;
SNAP reads 0 from then (R280). -/
def State.snapSettle (s : State) (t : Nat) : State :=
  match s.noc.snapAt with
  | none => s
  | some (e, _) =>
    let s := ((s.snapStep t e 0 1 statLeafBase statRowBase).snapStep t e 1 4 statRowBase statDevBase).snapStep t e 2 12 statDevBase
      (statDevBase + 0x40)
    if s.noc.snapAt = some (e, 3) then
      let s := s.setFld Reg.STAT_CTL Fld.STAT_CTL_SNAP 0
      { s with noc := { s.noc with snapAt := none } }
    else s

/-- CLK_COAST_CNT counts the sc edges from `s.now` to `t` while the root coasts, saturating (R438). -/
def State.coastSettle (s : State) (t : Nat) : State :=
  if s.bit Reg.CLK_STATUS Fld.CLK_STATUS_COAST then
    s.setReg48 Reg.CLK_COAST_CNT_LO Reg.CLK_COAST_CNT_HI
      (satAdd (2 ^ 48 - 1) (s.reg48 Reg.CLK_COAST_CNT_LO Reg.CLK_COAST_CNT_HI) (t / scLen - s.now / scLen))
  else s

/-- Time moves on to `t`, the rc edge of the next command; it never moves back. What the spec lets pass with time alone
(counter increments on their way, the end of a snapshot, the coasting count) is brought up to date (log entry 2), and the configuration of the
edge left is the one against which requests of the new edge are decoded (R26). -/
def State.pass (s : State) (t : Nat) : State :=
  if t ≤ s.now then s
  else { ((s.coastSettle t).snapSettle t).statSettle t with now := t, seen := ⟨s.regs, s.cache.setuse⟩ }

end Sys2Proof.Machine
end

