-- ==== Sys2Proof/Machine/AddressMap.lean ====
section
/-!
DEFINITION. The address map (R23–R32), the placement of cache lines (R315–R317) and external-memory pieces (R337), the target
of a request (R254), and the initiators (R256).
-/
namespace Sys2Proof.Machine

/-! ### Response codes (R9) -/

def rOK : Nat := 0x0
def rCorrected : Nat := 0x1
def rPoison : Nat := 0x2
def rDecode : Nat := 0x3
def rOwner : Nat := 0x4
def rDomainOff : Nat := 0x5
def rReset : Nat := 0x6
def rAuth : Nat := 0x7
def rUninit : Nat := 0x8
def rTimeout : Nat := 0x9
def rRetired : Nat := 0xA
def rGated : Nat := 0xB

/-- A code from 0x3 to 0xB: the request was not served (R10, R292). -/
def isErr (c : Nat) : Bool := decide (3 ≤ c ∧ c ≤ 0xB)

/-- The first of two codes in the order of R292: an error, then POISON, then OK_CORRECTED, then OK. -/
def worseCode (a b : Nat) : Nat :=
  if isErr a then a else if isErr b then b
  else if a = rPoison ∨ b = rPoison then rPoison
  else if a = rCorrected ∨ b = rCorrected then rCorrected else rOK

/-! ### Ports (R252) -/

def portENG : Nat := 0
def portLREG : Nat := 1
def portUREG : Nat := 2
def portSCR : Nat := 3
def portCACHE : Nat := 4
def portAUX : Nat := 5

/-- The region's NoC port. -/
def regionPort (r : Nat) : Nat := if r < 64 then portLREG else portUREG

/-! ### Initiators (R256) -/

def srcHost : Nat := 0xC0
def srcSeq : Nat := 0xC1
def srcLoader : Nat := 0xC2
def srcScrub : Nat := 0xC3
def srcTally : Nat := 0xC4
def srcCache : Nat := 0xC5
def srcFill : Nat := 0xC6
/-- The initiator number of region `r`. -/
def srcRegion (r : Nat) : Nat := 0x40 + r
/-- The initiator number of Aethene port `p`. -/
def srcAlink (p : Nat) : Nat := 0xC8 + p
/-- The initiator number of DMA channel `d`. -/
def srcDma (d : Nat) : Nat := 0xD0 + d
/-- Whether `src` is a region's number. -/
def isRegionSrc (src : Nat) : Bool := decide (0x40 ≤ src ∧ src < 0xC0)

/-- The router of Aethene port p: N, E, S, W (R16). -/
def alinkRouter (p : Nat) : Nat := [59, 39, 4, 24].getD p 4

/-- The router at which an initiator injects (R256). Fills and write-backs of the stacked cache name their slice's router
themselves. -/
def initRouter (src : Nat) : Nat :=
  if src < 0x40 then src
  else if src < 0xC0 then (src - 0x40) % 64
  else if src = srcHost then 3
  else if src = srcTally then 27
  else if 0xC8 ≤ src ∧ src ≤ 0xCB then alinkRouter (src - 0xC8)
  else if 0xD0 ≤ src ∧ src ≤ 0xDF then 3
  else 35

/-- The router whose statistics leaf counts an initiator (R256). -/
def leafRouter (src : Nat) : Nat := initRouter src

/-! ### Stacked cache placement (R315–R317) -/

/-- The fold F: the XOR of the successive 6-bit pieces of a bit string of at most 36 bits (R315). -/
def fold6 (v : Nat) : Nat :=
  v % 64 ^^^ v / 64 % 64 ^^^ v / 64 ^ 2 % 64 ^^^ v / 64 ^ 3 % 64 ^^^ v / 64 ^ 4 % 64 ^^^ v / 64 ^ 5 % 64

def cacheBase : Nat := 0x0080_0000_0000
def useCache : Nat := 0
def useInterleaved : Nat := 1
def useAffine : Nat := 2

/-- USE of way `w` (R314). -/
def State.wayUse (s : State) (w : Nat) : Nat := s.fld (Reg.CACHE_WAY_CFG w) Fld.CACHE_WAY_CFG_USE

/-- The slice and set of the line at cache-range offset `o` of a DIRECT way (R315, R316). -/
def State.directPlace (s : State) (o : Nat) : Nat × Nat :=
  if s.wayUse (o / 2 ^ 28) = useAffine then (o / 2 ^ 22 % 64, o / 2 ^ 8 % 2 ^ 14)
  else (fold6 (o / 2 ^ 8 % 2 ^ 20), o / 2 ^ 8 % 2 ^ 20 / 64)

/-- Whether the window of way `w` is decoded (R314): its USE is DIRECT and no SETUSE of it runs (R320). -/
def State.wayDecoded (s : State) (w : Nat) : Bool := s.wayUse w != useCache && !s.cache.setuse.contains w

/-! ### External memory placement (R337) -/

/-- The routers of the four channels' rods (R16). -/
def channelRouter (c : Nat) : Nat := [0, 7, 56, 63].getD c 0

/-- The MAPPED channels, ascending. -/
def State.mappedChannels (s : State) : List Nat :=
  (List.range 4).filter (fun c => s.fld (Reg.EMC_CH_STATUS c) Fld.EMC_CH_STATUS_STATE == 4)

/-- The usable bytes of channel `c` (R337). -/
def State.usable (s : State) (c : Nat) : Nat :=
  let cap := s.fld (Reg.EMC_CH_CFG c) Fld.EMC_CH_CFG_CAP * 2 ^ 30
  if s.bit Reg.EMC_CTL Fld.EMC_CTL_TAGS then cap * 31 / 32 else cap

/-- The rest of the address map above N × m: the pieces m to u_c of each channel in ascending order. -/
def upperPiece (m : Nat) : List (Nat × Nat) → Nat → Option (Nat × Nat)
  | [], _ => none
  | (c, u) :: t, a => if a < u - m then some (c, m + a) else upperPiece m t (a - (u - m))

/-- The channel and channel-local offset of external-memory address `a` (R337); none at or above the populated capacity. -/
def State.extPlace (s : State) (a : Nat) : Option (Nat × Nat) :=
  if !s.bit Reg.EMC_STATUS Fld.EMC_STATUS_MAPPED then none
  else
    let cs := s.mappedChannels.map (fun c => (c, s.usable c))
    match cs with
    | [] => none
    | (_, u0) :: _ =>
      let n := cs.length
      let m := cs.foldl (fun acc p => min acc p.2) u0
      if a < n * m then
        match cs[a / 4096 % n]? with
        | some (c, _) => some (c, a / (4096 * n) * 4096 + a % 4096)
        | none => none
      else upperPiece m cs (a - n * m)

/-! ### Control registers (R31, R32) -/

def ctlBase : Nat := 0x00F0_0000_0000

/-- Size and alignment of a control register access (R32). -/
def ctlShape (off len : Nat) : Bool := (len == 4 && off % 4 == 0) || (len == 8 && off % 8 == 0)

/-- The router of the control node that serves control offset `off` (R254). -/
def ctlRouter (off : Nat) : Nat :=
  if 0x80000 ≤ off ∧ off < 0xA0000 then (off - 0x80000) / 0x400 % 64
  else if 0x180000 ≤ off ∧ off < 0x1C0000 then (off - 0x180000) / 0x1000
  else if 0x290000 ≤ off ∧ off < 0x290000 + 64 * 0x2000 then (off - 0x290000) / 0x2000
  else if 0x100000 ≤ off ∧ off < 0x180000 then 27
  else if 0x680000 ≤ off ∧ off < 0x780000 then 28
  else if 0x10000 ≤ off ∧ off < 0x40000 then 36
  else if 0x600000 ≤ off ∧ off < 0x680000 then 3
  else 35

/-! ### The decode of one request (R23–R32, R254) -/

/-- What an address decodes to: the range of R24, and the target router and port; or the code that the interface answers. -/
inductive Decoded where
  | target (range router port : Nat)
  | self (code : Nat)
  deriving DecidableEq, Repr

def rangeExt : Nat := 1
def rangeCache : Nat := 2
def rangeScr : Nat := 3
def rangeDeck : Nat := 4
def rangeCtl : Nat := 5
def rangeBoard : Nat := 6

/-- The width and height of the board (R494). -/
def State.boardX (s : State) : Nat := s.brd.straps.brdX + 1
def State.boardY (s : State) : Nat := s.brd.straps.brdY + 1

/-- The FOREIGN port whose FDEV names device `dev` (R506). -/
def State.foreignPort (s : State) (dev : Nat) : Option Nat :=
  [0, 1, 2, 3].find? (fun p => s.fld (Reg.ALINK_PORT_STATUS p) Fld.ALINK_PORT_STATUS_STATE == 6 &&
    s.fld (Reg.ALINK_PORT_CFG p) Fld.ALINK_PORT_CFG_FDEV == dev)

/-- Whether an address names a byte of this device (R23). -/
def State.isLocal (s : State) (a : Nat) : Bool := a / 2 ^ 48 == s.fld Reg.DEV_BOARD Fld.DEV_BOARD_DEVNUM

/-- A request for another device (R501): ERR_DECODE, ERR_RETIRED, or the AUX port of the departure port's router. A FOREIGN port takes
the requests for its FDEV, whatever ALINK_RT holds (R506). -/
def State.decodeBoard (s : State) (dev epoch : Nat) : Decoded :=
  if let some p := s.foreignPort dev then .target rangeBoard (alinkRouter p) portAUX
  else if !s.bit Reg.ALINK_BOARD_STATUS Fld.ALINK_BOARD_STATUS_SETTLED ∨ s.boardX ≤ dev % 4 ∨ s.boardY ≤ dev / 4 then .self rDecode
  else if !s.bit (Reg.ALINK_RT epoch dev) Fld.ALINK_RT_VALID then .self rRetired
  else .target rangeBoard (alinkRouter (s.fld (Reg.ALINK_RT epoch dev) Fld.ALINK_RT_PORT)) portAUX

/-- The decode of the 256-byte line that holds local address `a`, for initiator `src` (R24, R27–R31, R254). -/
def State.decodeLine (s : State) (src a : Nat) : Decoded :=
  if a < 0x0080_0000_0000 then
    match s.extPlace a with
    | some (c, _) => .target rangeExt (channelRouter c) portAUX
    | none => .self rDecode
  else if a < 0x0081_0000_0000 then
    let o := a - cacheBase
    if 0xFC00_0000 ≤ o then
      if src = srcTally then .target rangeCache (s.directPlace o).1 portCACHE else .self rDecode
    else if s.wayDecoded (o / 2 ^ 28) then .target rangeCache (s.directPlace o).1 portCACHE
    else .self rDecode
  else if 0x0090_0000_0000 ≤ a ∧ a < 0x0090_0180_0000 then
    .target rangeScr ((a - 0x0090_0000_0000) / 0x40000 % 64) portSCR
  else if 0x00A0_0000_0000 ≤ a ∧ a < 0x00A0_0200_0000 then
    let r := (a - 0x00A0_0000_0000) / 0x40000
    if (a - 0x00A0_0000_0000) % 0x40000 < 0x30000 then .target rangeDeck (r % 64) (regionPort r) else .self rDecode
  else if ctlBase ≤ a ∧ a < ctlBase + 0x100_0000 then
    if inControlSpan (a - ctlBase) then .target rangeCtl (ctlRouter (a - ctlBase)) portAUX else .self rDecode
  else .self rDecode

/-- The epoch in force (R266). -/
def State.epochNow (s : State) : Nat := s.fld Reg.NOC_STATUS Fld.NOC_STATUS_EPOCH

/-- The decode of one line of a request: the device in bits 51:48, then the local address. -/
def State.decodeAddr (s : State) (src a : Nat) : Decoded :=
  if s.isLocal a then s.decodeLine src (a % 2 ^ 48)
  else s.decodeBoard (a / 2 ^ 48 % 16) s.epochNow

/-- One piece of a request: address, length, router, port. -/
structure Piece where
  addr   : Nat
  len    : Nat
  router : Nat
  port   : Nat
  deriving DecidableEq, Repr

/-- The state as the interfaces decode against: with the window and range configuration in force before the present edge (R26). -/
def State.decodeView (s : State) : State := { s with regs := s.seen.regs, cache := { s.cache with setuse := s.seen.setuse } }

/-- The decode of every byte of a request (R542): the pieces for its targets in ascending address order, or the code that the
interface answers for the whole. A request has at most 256 bytes, so it touches at most two lines of 256 bytes, and every
target boundary of R542 lies between two such lines. -/
def State.decodeNow (s : State) (src a len : Nat) : Except Nat (List Piece) :=
  let last := a + len - 1
  match s.decodeAddr src a with
  | .self c => .error c
  | .target g r p =>
    if g = rangeCtl ∧ !ctlShape (a % 2 ^ 48 - ctlBase) len then .error rDecode
    else if a / 256 = last / 256 then .ok [⟨a, len, r, p⟩]
    else
      let b := last / 256 * 256
      match s.decodeAddr src b with
      | .self c => .error c
      | .target g' r' p' =>
        if g ≠ g' ∨ a / 2 ^ 48 ≠ b / 2 ^ 48 then .error rDecode
        else if r = r' ∧ p = p' then .ok [⟨a, len, r, p⟩]
          else .ok [⟨a, b - a, r, p⟩, ⟨b, a + len - b, r', p'⟩]

/-- The decode of a request that is accepted now (R26). -/
def State.decodeRequest (s : State) (src a len : Nat) : Except Nat (List Piece) := s.decodeView.decodeNow src a len

end Sys2Proof.Machine
end

