-- ==== Sys2Proof/Machine/Flags.lean ====
section
/-!
DEFINITION. The check codes of the spec: the (72,64) code of memory words (R295, R296), the (137,128) code of flit segments
(R297, R298), and CRC-32C (R115). Also bytes against words.
-/
namespace Sys2Proof.Machine

/-! ### Bytes and words -/

/-- A number as `n` bytes, least significant first. -/
def toBytes : Nat → Nat → List Byte
  | 0, _ => []
  | n + 1, v => BitVec.ofNat 8 v :: toBytes n (v / 256)

/-- Bytes as a number, least significant first. -/
def ofBytes : List Byte → Nat
  | [] => 0
  | b :: bs => b.toNat + 256 * ofBytes bs

/-- A list cut into pieces of `n`, at most `fuel` of them. -/
def chunks {α : Type} (n : Nat) : Nat → List α → List (List α)
  | 0, _ => []
  | _ + 1, [] => []
  | fuel + 1, l => l.take n :: chunks n fuel (l.drop n)

/-- The number of bits of `v` that are 1, among bits `n - 1` to 0. -/
def weight (n v : Nat) : Nat := (List.range n).countP (fun i => v.testBit i)

/-! ### The (72,64) code (R295, R296) -/

/-- The 8-bit values of weight 3, ascending. -/
def weight3 : List Nat := (List.range 256).filter (fun v => weight 8 v == 3)

/-- The columns of data bits 0–63: the weight-3 values, then the complements of the columns of bits 48–55 (R295). -/
def dataCols : List Nat := weight3 ++ (weight3.drop 48).map (fun c => 0xFF ^^^ c)

/-- The check bits of a clean word: the XOR of the columns of its data bits that are 1 (R295). -/
def checkBits (d : Word64) : Nat :=
  dataCols.zipIdx.foldl (fun acc p => if d.getLsbD p.2 then acc ^^^ p.1 else acc) 0

/-- A word and its check bits as one memory word: data in bits 63:0, check bits in bits 71:64. -/
def packWord (check : Nat) (d : Word64) : Word72 := BitVec.ofNat 8 check ++ d

/-- The data bits of a memory word. -/
def wordData (w : Word72) : Word64 := w.setWidth 64

/-- The check bits of a memory word. -/
def wordCheck (w : Word72) : Nat := w.toNat / 2 ^ 64

/-- A clean memory word. -/
def encodeWord (d : Word64) : Word72 := packWord (checkBits d) d

/-- A stamped memory word: the check bits XOR 0xFF (R295). -/
def stampWord (d : Word64) : Word72 := packWord (checkBits d ^^^ 0xFF) d

/-- A memory word with or without the stamp. -/
def storeWord (poison : Bool) (d : Word64) : Word72 := if poison then stampWord d else encodeWord d

/-- The classes of a memory word (R296). -/
inductive WordClass where
  | clean
  | corrected
  | poisoned
  | uncorrectable
  deriving DecidableEq, Repr

/-- The column of bit `i` of a memory word: data bits 0–63, check bits 64–71. -/
def wordCols : List Nat := dataCols ++ (List.range 8).map (fun j => 2 ^ j)

/-- A memory word decoded from its syndrome, the classes tested in the order of R296: its class, and its data with the
corrected bit put right. -/
def decodeWord (w : Word72) : WordClass × Word64 :=
  let d := wordData w
  let syn := wordCheck w ^^^ checkBits d
  if syn = 0 then (.clean, d)
  else if syn = 0xFF ∨ wordCols.contains (0xFF ^^^ syn) then (.poisoned, d)
  else match wordCols.idxOf? syn with
    | some i => (.corrected, if i < 64 then d ^^^ (1#64 <<< i) else d)
    | none => (.uncorrectable, d)

/-- Whether a class is reported as POISON, BAD or a mark (R296). -/
def WordClass.bad : WordClass → Bool
  | .poisoned => true
  | .uncorrectable => true
  | _ => false

/-! ### Words against byte ranges (R294, R323) -/

/-- The 64-bit words that the bytes `a` to `a + len - 1` touch. -/
def wordSpan (a len : Nat) : List Nat := if len = 0 then [] else (List.range ((a + len - 1) / 8 - a / 8 + 1)).map (a / 8 + ·)

/-- Which bytes of word `w` lie in the range: bit i for byte i. -/
def byteEnables (a len w : Nat) : Nat :=
  ((List.range 8).map (fun i => if a ≤ 8 * w + i ∧ 8 * w + i < a + len then 2 ^ i else 0)).foldl (fun x y => x + y) 0

/-- The bytes that `data`, placed at address `a`, gives to word `w`; the others are zero. -/
def wordOfBytes (a : Nat) (data : List Byte) (w : Nat) : Word64 :=
  BitVec.ofNat 64 (ofBytes ((List.range 8).map (fun i => if a ≤ 8 * w + i then data.getD (8 * w + i - a) 0 else 0)))

/-- The bytes of the range, read from words. -/
def bytesOfWords (a len : Nat) (f : Nat → Word64) : List Byte :=
  (((wordSpan a len).flatMap (fun w => toBytes 8 (f w).toNat)).drop (a % 8)).take len

/-- The enabled bytes of `new` over `old`. -/
def mergeWord (old : Word64) (be : Nat) (new : Word64) : Word64 :=
  BitVec.ofNat 64 (ofBytes ((List.range 8).map (fun i =>
    if be.testBit i then BitVec.ofNat 8 (new.toNat / 256 ^ i) else BitVec.ofNat 8 (old.toNat / 256 ^ i))))

/-- A write to a word of a SECDED memory (R294, R301, R323), with a mark on the payload word: the word stored, and the class that a
partial write met. A write of all eight bytes stores a fresh word. -/
def writeWord (old : Word72) (be : Nat) (new : Word64) (mark : Bool) : Word72 × WordClass :=
  if be = 0xFF then (storeWord mark new, .clean)
  else
    let d := decodeWord old
    (storeWord (mark || d.1.bad) (mergeWord d.2 be new), d.1)

/-! ### The (137,128) code (R297, R298) -/

/-- The columns of the 128 data bits of a segment: the 9-bit values of weight 3 or 5, ascending (R297). -/
def segCols : List Nat :=
  ((List.range 512).filter (fun v => weight 9 v == 3 || weight 9 v == 5)).take 128

/-- The check bits of an unstamped segment. -/
def segCheck (d : BitVec 128) : Nat :=
  segCols.zipIdx.foldl (fun acc p => if d.getLsbD p.2 then acc ^^^ p.1 else acc) 0

/-- The stamp of a segment: 0x00F for a poisoned low word, 0x0F0 for a poisoned high word (R297). -/
def segStamp (lo hi : Bool) : Nat := (if lo then 0x00F else 0) ^^^ (if hi then 0x0F0 else 0)

/-- A segment with its check bits and stamp: data in bits 127:0. -/
def encodeSeg (d : BitVec 128) (lo hi : Bool) : BitVec 137 := BitVec.ofNat 9 (segCheck d ^^^ segStamp lo hi) ++ d

/-- Every column of the segment code. -/
def segAllCols : List Nat := segCols ++ (List.range 9).map (fun j => 2 ^ j)

/-- What a router input does with a segment (R298): forward it as it is, forward it with one bit corrected, or start a retry. -/
inductive SegAction where
  | forward
  | correct (s : BitVec 137)
  | retry
  deriving DecidableEq, Repr

/-- R298, for a segment of the header (`hdr`) or of the payload. -/
def checkSeg (hdr : Bool) (s : BitVec 137) : SegAction :=
  let d : BitVec 128 := s.setWidth 128
  let syn := s.toNat / 2 ^ 128 ^^^ segCheck d
  if syn = 0 then .forward
  else if !hdr && (syn == 0x00F || syn == 0x0F0 || syn == 0x0FF) then .forward
  else match segAllCols.idxOf? syn with
    | some i =>
      if segAllCols.contains (syn ^^^ 0x00F) || segAllCols.contains (syn ^^^ 0x0F0) || segAllCols.contains (syn ^^^ 0x0FF)
      then .retry else .correct (s ^^^ (1#137 <<< i))
    | none => .retry

/-! ### CRC-32C (R115) -/

/-- One byte taken into a reflected CRC register. -/
def crcByte (poly crc : Nat) (b : Byte) : Nat :=
  (List.range 8).foldl (fun c _ => if c % 2 = 1 then (c / 2) ^^^ poly else c / 2) (crc ^^^ b.toNat)

/-- CRC-32C of a run of bytes: reflected polynomial 0x82F6_3B78, initial value and final XOR all ones (R115). -/
def crc32c (bs : List Byte) : Nat := bs.foldl (crcByte 0x82F63B78) 0xFFFFFFFF ^^^ 0xFFFFFFFF

end Sys2Proof.Machine
end

