-- ==== Sys2Proof/Machine/Noc.lean ====
section
/-!
DEFINITION. The operations of the network interfaces: accepting a request and splitting it (R25, R26, R542), sending it, the
written-target lists and fences (R287–R289), serving a part at its target in the order of its domain (R284), answers and their
arrival (R275, R276, R292), failure ACKs (R290, R291) and statistics (R277, R278).
A request stays in `noc.reqs` from its acceptance until its last answer has returned. There is no command for the passage of a packet: a
request enters the network as soon as no fence, flip or earlier request holds it, and a target's command takes it from there (log entry 8).
-/
namespace Sys2Proof.Machine

/-! ### Finding and changing requests -/

def State.setReqs (s : State) (rs : List Request) : State := { s with noc := { s.noc with reqs := rs } }

/-- The request with identifier `id`. -/
def State.findReq (s : State) (id : Nat) : Option Request := s.noc.reqs.find? (fun r => r.id == id)

/-- Request `id` changed by `f`. -/
def State.mapReq (s : State) (id : Nat) (f : Request → Request) : State :=
  s.setReqs (s.noc.reqs.map (fun r => if r.id = id then f r else r))

/-- Part `p` of request `id` changed by `f`. -/
def State.mapPart (s : State) (id p : Nat) (f : Part → Part) : State :=
  s.mapReq id (fun r => { r with parts := r.parts.modify p f })

/-- Whether the initiator waits for an answer to a request of this kind (R259, R290). -/
def ReqKind.nonPosted : ReqKind → Bool
  | .write => false
  | .token => false
  | .marker => false
  | _ => true

/-- Whether nothing of the request is left in the network: every part performed, and every answer returned. -/
def Request.finished (r : Request) : Bool :=
  (if r.kind.nonPosted then r.done else r.self.isNone && r.injAt.isSome) &&
  r.parts.all (fun p => p.performed && !p.ended && (p.returned || (!r.kind.nonPosted && p.answer.isNone)))

/-- Finished requests leave the list. -/
def State.sweep (s : State) : State := s.setReqs (s.noc.reqs.filter (fun r => !r.finished))

/-! ### Statistics (R277, R278) -/

/-- An increment counted for initiator `src` at byte offset `off` of its node: at the leaf now, and at the row 4 sc later. -/
def State.statCount (s : State) (src off n : Nat) : State :=
  if n = 0 then s
  else
    let leaf := statLeafBase + 0x40 * src
    let s := s.statCheck leaf
    let taint := (s.reg (statNodeStatus leaf)).toNat / 2 ^ 31 = 1
    let s := s.statAdd (leaf + off) n
    { s with noc := { s.noc with incs := s.noc.incs ++
        [⟨s.scNow * scLen + 4 * scLen, statRowBase + 0x40 * (leafRouter src / 8) + off, n, taint⟩] } }

/-- The bin of R277 for a time in nc. -/
def binOf (nc : Nat) : Nat :=
  if nc < 32 then 0 else if nc < 64 then 1 else if nc < 128 then 2 else if nc < 256 then 3
  else if nc < 1024 then 4 else if nc < 4096 then 5 else if nc < 65536 then 6 else 7

/-! ### Lanes and parts (R283, R266, R272) -/

/-- The ordering domain's initiator side: initiator, bank and stream (R283), as a list key. -/
def laneKey (src bank stream : Nat) : Nat := (src * 8 + bank) * 8 + stream

/-- The route table entry of the initiator's router for a destination, in the bank of the epoch in force (R266): whether a
request to `port` of router `d` is answered ERR_RETIRED. A change of the entry at this edge applies to later edges (R272, R26). -/
def State.routeRetired (s : State) (src d port : Nat) : Bool :=
  let v := s.decodeView
  let a := Reg.NOC_RT_HI (initRouter src) v.epochNow d
  !v.bit a Fld.NOC_RT_HI_VALID || v.bit a Fld.NOC_RT_HI_UNREACH || (v.fld a Fld.NOC_RT_HI_RETIRED).testBit port

/-- A part that its own interface answers with ERR_RETIRED. -/
def retiredPart (stream off : Nat) (p : Piece) : Part :=
  ⟨p.router, p.port, p.addr, p.len, stream, off, none, true, some ⟨rRetired, [], [], false⟩, false, true, false, false⟩

/-- A part on its way to its target. -/
def freshPart (stream off : Nat) (p : Piece) : Part :=
  ⟨p.router, p.port, p.addr, p.len, stream, off, none, false, none, false, false, false, false⟩

/-- A part of an accepted request, sent or answered by its own interface; the interface has its own answer to a part of a read at once. -/
def State.newPart (s : State) (src stream : Nat) (posted : Bool) (off : Nat) (p : Piece) : Part :=
  if s.routeRetired src p.router p.port then { retiredPart stream off p with returned := !posted } else freshPart stream off p

/-- Whether two parts go to one target on one stream. -/
def Part.meets (a b : Part) : Bool := a.stream == b.stream && a.router == b.router && a.port == b.port

/-- The unfinished fences that hold stream `stream` of an initiator's bank (R287). -/
def State.holdingFences (s : State) (src bank stream : Nat) : List Nat :=
  (s.noc.reqs.filter (fun r => r.kind == .fence && r.src == src && r.bank == bank && !r.done && r.holds.contains stream)).map (·.id)

/-- Whether a flip holds new requests: from F + 1 sc to G + 1 sc (R268). -/
def State.flipHolds (s : State) : Bool :=
  (s.bit Reg.NOC_STATUS Fld.NOC_STATUS_FLIP_STATE && decide (s.noc.flipAt + scLen ≤ s.now)) ||
  (match s.noc.flipEnd with
    | some g => decide (s.now < g + scLen)
    | none => false)

/-- A request appended to the list with the next identifier. -/
def State.addReq (s : State) (r : Request) : State :=
  { s with noc := { s.noc with reqs := s.noc.reqs ++ [{ r with id := s.noc.nextId }], nextId := s.noc.nextId + 1 } }

/-- A request whose kind the table does not list is answered ERR_DECODE by the interface itself (R259). -/
def State.acceptBadKind (s : State) (src bank stream addr len tag : Nat) : State :=
  s.addReq ⟨0, src, bank, stream, .read, addr, len, [], [], none, tag, s.now, s.epochNow, none, s.holdingFences src bank stream, some rDecode,
    [], false, true, [], [], none⟩

/-- The written-target list of a lane (R288). -/
def State.targets (s : State) (src bank stream : Nat) : List (Nat × Nat) :=
  tget (fun _ => []) s.noc.lists (laneKey src bank stream)

def State.setTargets (s : State) (src bank stream : Nat) (l : List (Nat × Nat)) : State :=
  { s with noc := { s.noc with lists := tput (fun _ => []) s.noc.lists (laneKey src bank stream) l } }

/-- The FENCE packets for the listed targets of some streams (R288); a target marked retired or unreachable is answered by
the interface (R289). -/
def State.fenceParts (s : State) (src bank : Nat) (streams : List Nat) : List Part :=
  streams.flatMap (fun st => (s.targets src bank st).map (fun t => s.newPart src st false 0 ⟨0, 0, t.1, t.2⟩))

/-! ### Sending a request (R268, R284, R287, R288) -/

/-- Whether every fence that the request waits behind has completed. -/
def State.fencesDone (s : State) (r : Request) : Bool :=
  r.heldBy.all (fun f => s.noc.reqs.all (fun q => q.id != f || q.done))

/-- The place of a request among those of its initiator: an internal fence stands before the write that waits for it (R288). -/
def Request.place (r : Request) : Nat := if r.report || r.tag == 0 || r.kind != .fence then r.id else r.tag - 1

/-- Whether `q` was accepted before `r` from the same initiator, in the same bank. -/
def before (q r : Request) : Bool := decide (q.id < r.place) && q.src == r.src && q.bank == r.bank

/-- Whether `q` is still to be sent ahead of `r` on one of its ordering domains. -/
def sentFirst (r q : Request) : Bool :=
  before q r && q.injAt.isNone && q.self.isNone && !q.done && q.parts.any (fun a => r.parts.any a.meets)

/-- Whether the request may enter the network now: nothing answers it at its interface, no fence holds it, no flip holds its packets, and no
earlier request of one of its ordering domains waits. -/
def State.mayInject (s : State) (r : Request) : Bool :=
  r.injAt.isNone && r.self.isNone && !r.done && s.fencesDone r && !(s.flipHolds && r.parts.any (fun p => !p.own)) &&
  !s.noc.reqs.any (sentFirst r)

/-- The targets of a write that its stream's list does not hold yet. -/
def State.newTargets (s : State) (r : Request) : List (Nat × Nat) :=
  ((r.parts.filter (fun p => !p.own)).map (fun p => (p.router, p.port))).eraseDups.filter
    (fun t => !(s.targets r.src r.bank r.stream).contains t)

/-- A write whose stream's list is full waits for an internal fence of the stream, which the interface begins unless one runs (R288). -/
def State.awaitInternal (s : State) (r : Request) : State :=
  match s.noc.reqs.find? (fun q => q.kind == .fence && !q.report && !q.done && q.tag != 0 && q.src == r.src && q.bank == r.bank && q.covers == [r.stream]) with
  | some q => s.mapReq r.id (fun r => { r with heldBy := r.heldBy ++ [q.id] })
  | none =>
    (s.mapReq r.id (fun r => { r with heldBy := r.heldBy ++ [s.noc.nextId] })).addReq
      ⟨0, r.src, r.bank, r.stream, .fence, 0, 0, [], [], none, r.id + 1, s.now, s.epochNow, none, [], none, [], false, false, [], [r.stream], none⟩

/-- Request `r` enters the network where it may: a fence with its FENCE packets, a write with its targets listed and its bytes counted. -/
def State.inject (s : State) (r : Request) : State :=
  let r := if r.kind = .fence then
      let parts := s.fenceParts r.src r.bank r.covers
      { r with parts := parts, fail := (parts.find? (·.own)).map (fun _ => rRetired) }
    else r
  if !s.mayInject r then s
  else
    let enter (s : State) : State := s.mapReq r.id (fun q =>
      let q := if q.kind = .fence then { q with parts := r.parts, fail := r.fail } else q
      { q with injAt := some s.now, epoch := s.epochNow })
    let count (s : State) : State := s.statCount r.src 8 ((r.parts.filter (fun p => !p.own)).foldl (fun n p => n + p.len) 0)
    if r.kind = .write then
      let tg := s.newTargets r
      let old := s.targets r.src r.bank r.stream
      if old ≠ [] ∧ 16 < old.length + tg.length then s.awaitInternal r
      else enter (count (s.setTargets r.src r.bank r.stream (old ++ tg)))
    else enter (if r.kind = .forward ∧ r.data ≠ [] then count s else s)

/-- Every request that may enter the network does, oldest first. -/
def State.injectPass (s : State) : State :=
  s.noc.reqs.foldl (fun s q => match s.findReq q.id with
    | some r => s.inject r
    | none => s) s

/-- As `injectPass`, and the internal fences that it begins enter too. -/
def State.injectAll (s : State) : State := s.injectPass.injectPass

/-- A request is accepted, and enters the network as soon as it may. -/
def State.post (s : State) (r : Request) : State := (s.addReq r).injectAll

/-! ### Accepting a request (R25, R26, R542, R272) -/

/-- A fence is accepted on `stream`: FENCE packets go to every target in the lists of `cover`, and requests of the streams in `holds`
accepted from now on wait for it (R287, R288; log entry 9). -/
def State.acceptFence (s : State) (src bank stream : Nat) (cover holds : List Nat) (report : Bool) (tag : Nat) : State :=
  s.post ⟨0, src, bank, stream, .fence, 0, 0, [], [], none, tag, s.now, s.epochNow, none, s.holdingFences src bank stream, none, [], false,
    report, holds, cover, none⟩

/-- The base of the scratch banks (R29). -/
def scrBase : Nat := 0x0090_0000_0000

/-- The interface of initiator `src` places a drain marker of the handover with edge `h` on one of its lanes toward scratch bank `b`, behind every request that
it has accepted (R241). -/
def State.placeMarker (s : State) (src bank stream b h : Nat) : State :=
  s.post ⟨0, src, bank, stream, .marker, scrBase + 0x40000 * b, 0, [], [], none, h, s.now, s.epochNow, none,
    s.holdingFences src bank stream, none, [s.newPart src stream true 0 ⟨scrBase + 0x40000 * b, 0, b % 64, portSCR⟩], false, false, [], [], none⟩

/-- All eight streams. -/
def allStreams : List Nat := [0, 1, 2, 3, 4, 5, 6, 7]

/-- Whether a write of `src` does nothing: in SECURE HALT only engine 0 writes (R471). -/
def State.writeDead (s : State) (src : Nat) : Bool := s.mode == modeSecureHalt && src != 0

/-- Whether a write of `len` bytes at `a` from router `n` to router `d` goes as WRITE_FULL (R260): 128 bytes, aligned, and a route string of at
most 36 bits. -/
def State.fitsFull (s : State) (n d a len : Nat) : Bool :=
  len == 128 && a % 128 == 0 && s.fld (Reg.NOC_RT_HI n s.epochNow d) Fld.NOC_RT_HI_ROUTE / 2 ^ 4 == 0

/-- A write of 121 to 128 bytes that does not go as WRITE_FULL is sent as its first 64 bytes and the rest (R260). -/
def State.packetSplit (s : State) (src : Nat) (p : Piece) : List Piece :=
  if 120 < p.len ∧ p.len ≤ 128 ∧ !s.fitsFull (initRouter src) p.router p.addr p.len then [{ p with len := 64 }, { p with addr := p.addr + 64, len := p.len - 64 }]
  else [p]

/-- A request is accepted by the initiator's interface (R25, R26, R542): undecodable requests get the interface's own answer
and send nothing; the others are sent as one part for each target. In SECURE HALT a write of an initiator other than
engine 0 does nothing, unless it is to RST_CTL (R471). -/
def State.accept (s : State) (src bank stream : Nat) (kind : ReqKind) (addr len : Nat)
    (data : List Byte) (marks : List Bool) (key : Option Nat) (tag : Nat) : State :=
  let base : Request := ⟨0, src, bank, stream, kind, addr, len, data, marks, key, tag, s.now, s.epochNow, none,
    s.holdingFences src bank stream, none, [], false, true, [], [], none⟩
  if kind = .write ∧ s.writeDead src ∧ !(s.isLocal addr && addr % 2 ^ 48 == ctlBase + Reg.RST_CTL) then s
  else match s.decodeRequest src addr len with
  | .error c => s.addReq { base with self := some c }
  | .ok pieces =>
    if kind ≠ .write ∧ pieces.all (fun p => s.routeRetired src p.router p.port) then s.addReq { base with self := some rRetired }
    else
      let sends := if kind = .write then pieces.flatMap (s.packetSplit src) else pieces
      s.post { base with parts := sends.map (fun p => s.newPart src stream (kind == .write) (p.addr - addr) p) }

/-! ### Serving a part at its target (R284, R290, R292) -/

/-- Whether the request is in the network (R268, R287). -/
def State.sent (_ : State) (r : Request) : Bool := r.injAt.isSome && r.self.isNone

/-- Whether an older request of the same ordering domain (R283) in the network still has a part to perform at this part's target. -/
def blockedBy (r : Request) (p : Part) (q : Request) : Bool :=
  q.id < r.id && q.src == r.src && q.bank == r.bank && q.injAt.isSome && q.parts.any (fun a => a.meets p && !a.performed)

/-- Part `p` of request `id`, where the target may perform it now: it is in the network, not performed yet, and everything earlier of its
ordering domain at its target has been performed (R284). -/
def State.servable (s : State) (id p : Nat) : Option (Request × Part) :=
  match s.findReq id with
  | none => none
  | some r =>
    match r.parts[p]? with
    | none => none
    | some q =>
      if s.sent r && !q.performed && !s.noc.reqs.any (blockedBy r q) && !(r.parts.take p).any (fun a => a.meets q && !a.performed) then some (r, q)
      else none

/-- Part `p` of request `id`, where it may reach its target now: it is in the network, has not reached it, and everything earlier of its ordering
domain at that target has (R284). -/
def State.reaching (s : State) (id p : Nat) : Option (Request × Part) :=
  match s.findReq id with
  | none => none
  | some r =>
    match r.parts[p]? with
    | none => none
    | some q =>
      let ahead (a : Part) : Bool := a.meets q && !a.performed && a.arrivedAt.isNone
      let older (x : Request) : Bool := x.id < r.id && x.src == r.src && x.bank == r.bank && x.injAt.isSome && x.parts.any ahead
      if s.sent r && !q.performed && q.arrivedAt.isNone && !s.noc.reqs.any older && !(r.parts.take p).any ahead then some (r, q) else none

/-- The target accepts the part and has yet to begin serving it (R274). -/
def State.arriveAt (s : State) (id p : Nat) : State :=
  s.mapPart id p (fun q => { q with arrivedAt := some (q.arrivedAt.getD s.now) })

/-- The target begins to serve the part (R274). -/
def State.begin_ (s : State) (id p : Nat) : State := s.mapPart id p (fun q => { q with begun := true })

/-- The part is performed and gets an answer with code, data and marks. A posted write sends an answer only where it failed
(R290). -/
def State.respond (s : State) (id p : Nat) (a : Answer) : State :=
  let s := s.mapReq id (fun r => { r with parts := r.parts.modify p (fun q =>
    { q with performed := true, answer := if r.kind.nonPosted || isErr a.code then some a else none }) })
  s.sweep

/-- An answer without data. -/
def codeAnswer (c : Nat) : Answer := ⟨c, [], [], false⟩

/-- The code of a set of words (R292). -/
def classCode (l : List WordClass) : Nat :=
  l.foldl (fun c k => worseCode c (if k.bad then rPoison else if k = .corrected then rCorrected else rOK)) rOK

/-- The bytes of a part of a write, and its payload marks. -/
def partData (r : Request) (p : Part) : List Byte := (r.data.drop p.off).take p.len
def partMarks (r : Request) (p : Part) : List Bool :=
  (r.marks.drop (p.addr / 8 - r.addr / 8)).take ((p.addr + p.len - 1) / 8 - p.addr / 8 + 1)

/-! ### Answers at the initiator (R275, R276, R291) -/

/-- A response handed to its initiator. -/
def State.deliver (s : State) (d : Delivered) : State := { s with noc := { s.noc with inbox := s.noc.inbox ++ [d] } }

/-- The response that a request gives its initiator. -/
def Request.delivered (r : Request) (code : Nat) (bytes : List Byte) (marks : List Bool) : Delivered :=
  ⟨r.id, r.src, r.bank, r.stream, r.kind, r.tag, r.addr, r.len, code, bytes, marks⟩

/-- The data that a response gives: that of a read with an error code is free (R10). -/
def State.dataOf (s : State) (r : Request) (code : Nat) (bytes : List Byte) : List Byte :=
  if r.kind = .read ∧ isErr code then (List.range r.len).map (Config.freeByte s.fresh) else bytes

/-- A non-posted request completes with `code`: the initiator gets the answer once; an internal fence is not reported (R288). When a fence
completes, the lists of the streams that it covered are emptied (R288, R289); what it, or a request that never entered the network, has held is sent. -/
def State.complete (s : State) (r : Request) (code : Nat) (bytes : List Byte) (marks : List Bool) : State :=
  let s := s.mapReq r.id (fun r => { r with done := true, self := none })
  let s := if r.report then (s.deliver (r.delivered code (s.dataOf r code bytes) marks)).draw else s
  let s := if r.kind = .fence then r.covers.foldl (fun s st => s.setTargets r.src r.bank st []) s else s
  (if r.kind = .fence ∨ r.injAt.isNone then s.injectAll else s).sweep

/-- The code and data of a request whose parts have all returned (R542, R292). -/
def Request.result (r : Request) : Nat × List Byte × List Bool :=
  (r.parts.foldl (fun c p => worseCode c ((p.answer.map (·.code)).getD rOK)) rOK,
   r.parts.flatMap (fun p => (p.answer.map (·.bytes)).getD []),
   r.parts.flatMap (fun p => (p.answer.map (·.marks)).getD []))

/-- Whether an older request of the same stream that shares a target with `r` has still to be answered (R284, R542). -/
def answeredFirst (r q : Request) : Bool :=
  before q r && q.kind.nonPosted && !q.done && q.kind != .fence && q.self.isNone && q.parts.any (fun a => r.parts.any a.meets)

/-- Whether the gate of the initiator's block is closed by force (R446): its responses are discarded, and each of its requests ends
with ERR_GATED when the gate opens. -/
def State.forcedSrc (s : State) (src : Nat) : Bool :=
  if src < 0x40 then s.clk.forced.contains src
  else decide (0xC8 ≤ src ∧ src ≤ 0xCB) && s.clk.forced.contains (76 + (src - 0xC8))

/-- Whether every part of a request has returned and its response may be given in its place (R542). -/
def State.answerable (s : State) (r : Request) : Bool :=
  r.kind.nonPosted && r.kind != .fence && !r.done && r.self.isNone && r.injAt.isSome && r.parts.all (·.returned) && !s.forcedSrc r.src &&
  !s.noc.reqs.any (answeredFirst r)

/-- Every response that is complete and whose place has come is given, oldest first. -/
def State.completeReady (s : State) : State :=
  s.noc.reqs.foldl (fun s q => match s.findReq q.id with
    | some r => if s.answerable r then s.complete r r.result.1 r.result.2.1 r.result.2.2 else s
    | none => s) s

/-- Whether `q` is an older unanswered request with a part at the target and on the stream of `p` (R276). -/
def overtaken (r : Request) (p : Part) (q : Request) : Bool :=
  before q r && q.kind.nonPosted && !q.done && q.injAt.isSome && q.parts.any (fun a => a.meets p && !a.returned)

/-- A request answered ERR_TIMEOUT by its interface, and counted (R275, R276). -/
def State.timeoutReq (s : State) (r : Request) : State :=
  (s.bump Reg.NOC_CNT_TIMEOUT Fld.NOC_CNT_TIMEOUT_COUNT 1).complete r rTimeout [] []

/-- The unanswered FENCE packets of a fence that `f` names end with ERR_TIMEOUT, and are counted (R275, R276, R289). -/
def State.endPackets (s : State) (r : Request) (f : Part → Bool) : State :=
  let n := r.parts.countP (fun q => !q.returned && f q)
  (s.bump Reg.NOC_CNT_TIMEOUT Fld.NOC_CNT_TIMEOUT_COUNT n).mapReq r.id (fun r => { r with
    parts := r.parts.map (fun q => if q.returned || !f q then q else { q with returned := true, ended := true })
    fail := if n = 0 then r.fail else some (r.fail.getD rTimeout) })

/-- What an overtaking response does to an older request (R276). -/
def State.overtake (s : State) (p : Part) (r : Request) : State :=
  if r.kind = .fence then s.endPackets r (·.meets p) else s.timeoutReq r

/-- Whether a failure ACK of an earlier write of the part's ordering domain is on its way, which arrives first (R290). -/
def ackFirst (r : Request) (p : Part) (q : Request) : Bool :=
  before q r && !q.kind.nonPosted && q.parts.any (fun a => a.meets p && !a.own && a.answer.isSome && !a.returned)

/-- The response to part `p` of a non-posted request reaches the initiator's interface (R275–R277): a request already
answered discards it; older requests that it overtook are completed first; the request completes with its last part. -/
def State.arrive (s : State) (id p : Nat) : State :=
  match s.findReq id with
  | none => s
  | some r =>
    match r.parts[p]? with
    | none => s
    | some q =>
      let late (s : State) : State :=
        ((s.mapPart id p (fun q => { q with returned := true, ended := false })).bump Reg.NOC_CNT_LATE Fld.NOC_CNT_LATE_COUNT 1).sweep
      if q.answer.isNone || !r.kind.nonPosted || (q.returned && !q.ended) || s.noc.reqs.any (ackFirst r q) then s
      else if r.done || q.ended then late s
      else if s.forcedSrc r.src then s.mapPart id p (fun q => { q with returned := true })
      else
        let s := (s.noc.reqs.filter (overtaken r q)).foldl (fun s x => s.overtake q x) s
        let s := s.mapPart id p (fun q => { q with returned := true })
        let code := (q.answer.map (·.code)).getD rOK
        let s := if r.kind = .fence ∧ isErr code ∧ r.fail.isNone then s.mapReq id (fun r => { r with fail := some code }) else s
        let s := if r.kind = .read ∨ r.kind = .forward then
            s.statCount r.src 0 (if r.kind = .read then q.len else (q.answer.map (·.bytes.length)).getD 0)
          else s
        let last := r.parts.zipIdx.all (fun x => x.1.returned || x.2 == p)
        let s := if last then s.statCount r.src (0x10 + 4 * binOf ((s.now - r.acceptedAt) / ncLen)) 1 else s
        s.completeReady

/-- The log of a failed posted write of an initiator other than an engine (R291, R309), ranked by SRC within one sc. -/
def State.logWerr (s : State) (src bank stream code addr : Nat) : State :=
  let w := BitVec.ofNat 32 ((if isRegionSrc src then bank * 2 ^ 17 else 0) + stream * 2 ^ 14 + code * 2 ^ 8 + src)
  s.logSc Reg.DEV_WERR_LOG src w
    [(Reg.DEV_WERR_ADDR_LO, BitVec.ofNat 32 addr), (Reg.DEV_WERR_ADDR_HI, BitVec.ofNat 32 (addr / 2 ^ 32 % 2 ^ 20))] none

/-- The log of a failed posted write of engine `n` (R228, R234). -/
def State.logEngWerr (s : State) (n stream code addr : Nat) : State :=
  s.logEvent (Reg.ENG_WERR_LOG n) s.now 0 (BitVec.ofNat 32 (stream * 2 ^ 4 + code))
    [(Reg.ENG_WERR_ADDR_LO n, BitVec.ofNat 32 addr), (Reg.ENG_WERR_ADDR_HI n, BitVec.ofNat 32 (addr / 2 ^ 32 % 2 ^ 20))] none

/-- A failed posted write is recorded for its initiator (R228, R291). A flit of a bank transfer names the bank in its tag. -/
def State.recordWerr (s : State) (r : Request) (code addr : Nat) : State :=
  if r.src < 0x40 then s.logEngWerr r.src r.stream code addr
  else s.logWerr r.src (if r.bank < 4 then r.bank else (r.tag - 2000) / 100) r.stream code addr

/-! ### Control register writes (R545) -/

/-- The oldest write of `src` whose part 0 has still to write the control register at `off`, as its last or only register. -/
def State.ctlReq (s : State) (src off : Nat) : Option Request :=
  s.noc.reqs.find? (fun r => r.src == src && r.kind == .write && r.self.isNone && r.parts.any (fun p =>
    !p.performed && p.port == portAUX && s.isLocal p.addr &&
      decide (p.addr % 2 ^ 48 ≤ ctlBase + off ∧ ctlBase + off + 4 = p.addr % 2 ^ 48 + p.len)))

/-- Whether the control node of router `n` has performed a request in this sc (R545). -/
def State.nodeBusy (s : State) (n : Nat) : Bool := tfind s.noc.nodeAt n == some s.scNow

/-- The control node of router `n` has performed its request of this sc. -/
def State.nodeUse (s : State) (n : Nat) : State := { s with noc := { s.noc with nodeAt := tins s.noc.nodeAt n s.scNow } }

/-- Whether the write of `src` to `off` that an interface has accepted may not be performed now: an earlier request of its ordering domain
comes first (R284), or the node has performed another in this sc (R545). -/
def State.ctlBlocked (s : State) (src off : Nat) : Bool :=
  match s.ctlReq src off with
  | some r => (s.servable r.id 0).isNone || s.nodeBusy (ctlRouter off)
  | none => false

/-- The write of `src` to `off` is performed: the request that carries it, if an interface has accepted one, is answered (log entry 10). -/
def State.takeControl (s : State) (src off : Nat) : State :=
  match s.ctlReq src off with
  | some r => (s.respond r.id 0 (codeAnswer rOK)).nodeUse (ctlRouter off)
  | none => s

/-- Whether the write of `src` to `off` has no effect now: SECURE HALT stops it (R471), or it may not be performed yet. -/
def State.writeStops (s : State) (src off : Nat) : Bool := s.writeDead src || s.ctlBlocked src off

/-- The write of `src` to the control register at `off` is performed, with effect `f`. -/
def State.ctlWrite (s : State) (src off : Nat) (f : State → State) : State :=
  if s.ctlBlocked src off then s
  else if s.writeDead src then s.takeControl src off else f (s.takeControl src off)

/-- The requests and answers that `p` names, by initiator and tag, take tag `x`: what made them waits for them no longer. -/
def State.disown (s : State) (p : Nat → Nat → Bool) (x : Nat) : State :=
  { s with noc := { s.noc with
    reqs := s.noc.reqs.map (fun q => if p q.src q.tag then { q with tag := x } else q)
    inbox := s.noc.inbox.map (fun d => if p d.src d.tag then { d with tag := x } else d) } }

end Sys2Proof.Machine
end

