-- ==== Sys2Proof/Machine/PlaneOps.lean ====
section
/-!
DEFINITION. The operations on regions, planes, banks and frames (chapters 02 and 03): states and pointers, generation numbers,
bank contents, parked responses, border settings, user clocks, and the frame fields of R42, R43, R49–R51, R99 and R546.
-/
namespace Sys2Proof.Machine

/-! ### The bead, the carry and the reckon block (R38, R41, R49) -/

/-- H of R38: M[16 × I4 + k]; `i` holds I0 in bit 0 to I5 in bit 5. -/
def lutH (m : Word64) (i : BitVec 6) : Bool := m.getLsbD (i.toNat % 32)

/-- Z of R38, in whole or split mode. -/
def lutZ (split : Bool) (m : Word64) (i : BitVec 6) : Bool :=
  if split then m.getLsbD (32 + 16 * (i.toNat / 32) + i.toNat % 16) else m.getLsbD i.toNat

/-- The carry stage of R41: carry out and sum, from P, G and the carry in. -/
def carryStage (p g cin : Bool) : Bool × Bool := (if p then cin else g, p ^^ cin)

/-- A bead of R38, R41 and R42: the carry stage is fed by Z and by I0 (whole) or H (split); with CARRY_EN = 0 the carry passes
and the sum is P. Answers Z, H, carry out, sum. -/
def bead (split carryEn : Bool) (m : Word64) (i : BitVec 6) (cin : Bool) : Bool × Bool × Bool × Bool :=
  let z := lutZ split m i
  let h := lutH m i
  let c := carryStage z (if split then h else i.getLsbD 0) cin
  if carryEn then (z, h, c.1, c.2) else (z, h, cin, z)

/-- An operand of 27 bits, signed or unsigned (R49). -/
def reckonOperand (signed : Bool) (v : BitVec 27) : Int := if signed then v.toInt else v.toNat

/-- What a reckon block's pipeline carries to P, of 54 bits (R49): the product, or in ADD mode C. R49 gives the sum D + A no width of its
own: it wraps in A's 27 bits (DESIGN CHOICE: log entry 86). -/
def reckonTerm (mode : Nat) (preadd sa sb : Bool) (a b d : BitVec 27) (c : BitVec 48) : BitVec 54 :=
  if mode = 3 then c.signExtend 54
  else BitVec.ofInt 54 (reckonOperand sa (if preadd then d + a else a) * reckonOperand sb b)

/-- The term at the width of P: sign-extended where an operand is signed, as C is (R49). -/
def reckonWide (mode : Nat) (sa sb : Bool) (t : BitVec 54) : Word64 :=
  if mode = 3 || sa || sb then t.signExtend 64 else t.setWidth 64

/-- The new P of a reckon block from a term (R49). `pc` is the cascade input; the accumulator wraps modulo 2^64. -/
def reckonSum (mode : Nat) (sub cascade : Bool) (p pc t : Word64) : Word64 :=
  let base := if mode = 2 ∧ cascade then pc else p
  match mode with
  | 1 => t
  | 2 => if sub then base - t else base + t
  | 3 => if sub then base - t else base + t
  | _ => p

/-- The new P of a reckon block from its operands (R49), three edges after they reach its input registers (R50). -/
def reckon (mode : Nat) (sub cascade preadd sa sb : Bool) (p pc : Word64) (a b d : BitVec 27) (c : BitVec 48) : Word64 :=
  reckonSum mode sub cascade p pc (reckonWide mode sa sb (reckonTerm mode preadd sa sb a b d c))

/-- OVF (R49): the exact result of a signed accumulation does not fit P. -/
def reckonOvf (mode : Nat) (sub cascade sa sb : Bool) (p pc t : Word64) : Bool :=
  let base := if mode = 2 ∧ cascade then pc else p
  let x : Int := if sub then base.toInt - t.toInt else base.toInt + t.toInt
  (mode == 3 || (mode == 2 && (sa || sb))) && decide (x < -2 ^ 63 ∨ 2 ^ 63 ≤ x)

/-! ### Regions -/

def Region.idle : Region := ⟨[], none, false, none, none, none, 0, [], 0⟩

def State.region (s : State) (r : Nat) : Region := tget (fun _ => Region.idle) s.fab.region r

def State.setRegion (s : State) (r : Nat) (x : Region) : State :=
  { s with fab := { s.fab with region := tput (fun _ => Region.idle) s.fab.region r x } }

/-- Whether the NoC request port of region `r` is free at this fc edge: it carries one flit an edge (R57). -/
def State.portFree (s : State) (r : Nat) : Bool := (s.region r).portAt != s.now / fcLen + 1

/-- The NoC request port of region `r` is taken for this fc. -/
def State.takePort (s : State) (r : Nat) : State := s.setRegion r { s.region r with portAt := s.now / fcLen + 1 }

/-- Region states (R94). -/
def rsOff : Nat := 0
def rsIsolated : Nat := 1
def rsRunning : Nat := 2
def rsReset : Nat := 3

def State.rstate (s : State) (r : Nat) : Nat := s.fld (Reg.PLANE_STATUS r) Fld.PLANE_STATUS_RSTATE
def State.setRstate (s : State) (r v : Nat) : State := s.setFld (Reg.PLANE_STATUS r) Fld.PLANE_STATUS_RSTATE v
def State.running (s : State) (r : Nat) : Bool := s.rstate r == rsRunning

/-- SCHEDULED control mode (R83). -/
def State.scheduled (s : State) (r : Nat) : Bool := s.bit (Reg.PLANE_CTL r) Fld.PLANE_CTL_SCHED

def State.planePtr (s : State) (r : Nat) : Nat := s.fld (Reg.PLANE_PTR r) Fld.PLANE_PTR_PLANE
def State.bankPtr (s : State) (r : Nat) : Nat := s.fld (Reg.PLANE_PTR r) Fld.PLANE_PTR_BANK
def State.setPtrs (s : State) (r p b : Nat) : State :=
  (s.setFld (Reg.PLANE_PTR r) Fld.PLANE_PTR_PLANE p).setFld (Reg.PLANE_PTR r) Fld.PLANE_PTR_BANK b

/-- Plane states (R68). -/
def psInvalid : Nat := 0
def psValid : Nat := 1
def psLoading : Nat := 2
/-- The state of plane `p`: bits 2p + 1:2p of PLANE_PSTATE. -/
def psField (p : Nat) : Field := ⟨2 * p + 1, 2 * p, .ro⟩
def State.pstate (s : State) (r p : Nat) : Nat := s.fld (Reg.PLANE_PSTATE r) (psField p)
def State.setPstate (s : State) (r p v : Nat) : State := s.setFld (Reg.PLANE_PSTATE r) (psField p) v

/-- Bank states (R72). -/
def bsUninit : Nat := 0
def bsLive : Nat := 1
def bsXfer : Nat := 2
def State.bstate (s : State) (r b : Nat) : Nat := s.fld (Reg.PLANE_BSTATE r) (psField b)
def State.setBstate (s : State) (r b v : Nat) : State := s.setFld (Reg.PLANE_BSTATE r) (psField b) v

/-- The switch cycle of a region whose E1 has not come (R79). -/
def State.cycleOn (s : State) (r : Nat) : Option SwCycle := (s.region r).cyc.filter (fun c => c.before.isNone)

/-- Whether plane `p` of region `r` is active (R69): the region runs, or its release has been applied, and its pointer names it; or a switch
cycle leaves it. -/
def State.planeActive (s : State) (r p : Nat) : Bool :=
  ((s.running r || (s.cycleOn r).isSome) && s.planePtr r == p) || (s.cycleOn r).any (fun c => c.left == some p)

/-- The beam is held in reset (R547). -/
def State.beamReset (s : State) : Bool := s.bit (Reg.RST_DIE 2) Fld.RST_DIE_ACTIVE

/-- Domain states (R450). -/
def dsOff : Nat := 0
def dsWaking : Nat := 1
def dsOn : Nat := 2
def dsFencing : Nat := 3
def dsDraining : Nat := 4
def State.domState (s : State) (d : Nat) : Nat := s.fld (Reg.PWR_DOM_STATUS d) Fld.PWR_DOM_STATUS_STATE
def State.setDomState (s : State) (d v : Nat) : State := s.setFld (Reg.PWR_DOM_STATUS d) Fld.PWR_DOM_STATUS_STATE v

/-! ### Banks (R72–R78, R100–R102) -/

def bankKey (r b : Nat) : Nat := 4 * r + b

def State.parked (s : State) (r b : Nat) : List Parked := tget (fun _ => []) s.fab.parked (bankKey r b)
def State.setParked (s : State) (r b : Nat) (l : List Parked) : State :=
  { s with fab := { s.fab with parked := tput (fun _ => []) s.fab.parked (bankKey r b) l } }

def State.bankData (s : State) (r b : Nat) : BankData := tget (fun k => .unknown k) s.fab.bank (bankKey r b)
def State.setBankData (s : State) (r b : Nat) (d : BankData) : State :=
  { s with fab := { s.fab with bank := tput (fun k => .unknown k) s.fab.bank (bankKey r b) d } }

/-- The requests of a region's bank: outstanding response flits, one for each 128 bytes asked for (R101). -/
def respFlits (len : Nat) : Nat := if 128 < len then 2 else 1
/-- The response flits that a request will bring. -/
def ReqKind.rspFlits (k : ReqKind) (len : Nat) : Nat := if k = .read then respFlits len else if k.nonPosted then 1 else 0

/-- Those of an entry of the commit buffer: it has been accepted for its bank (R187). -/
def BufEntry.rspFlits (b : Nat) : BufEntry → Nat
  | .request b' _ k _ len _ _ => if b' = b then k.rspFlits len else 0
  | .bad b' _ _ _ => if b' = b then 1 else 0
  | _ => 0

/-- What a bank is owed: by the network, and for requests that wait in the commit buffer. -/
def State.bankOutstanding (s : State) (r b : Nat) : Nat :=
  ((s.noc.reqs.filter (fun q => q.src == srcRegion r && q.bank == b && q.kind.nonPosted && !q.done && q.tag == 0)).map
    (fun q => respFlits q.len)).foldl (fun a b => a + b) 0 +
  (((tfind s.sch.region r).map (·.buf)).getD []).foldl (fun a e => a + e.rspFlits b) 0

/-- The tag of a region's request whose answer is discarded when it comes (R102). -/
def tagDiscard : Nat := 1000
/-- The bank number under which a bank transfer's flits travel: ordered among themselves and with nothing else (R76). -/
def xferLane : Nat := 4

/-- The responses owed to a bank, parked, held or still to come, are dropped (R102, R198). -/
def State.dropBank (s : State) (r b : Nat) : State :=
  let s := s.setParked r b []
  let s := s.setReqs (s.noc.reqs.map (fun q =>
    if q.src = srcRegion r ∧ q.bank = b ∧ q.tag = 0 ∧ q.kind.nonPosted then { q with tag := tagDiscard } else q))
  { s with noc := { s.noc with inbox := s.noc.inbox.filter (fun d => !(d.src == srcRegion r && d.bank == b && d.tag == 0)) } }

/-- A bank becomes UNINIT: what is owed to it is dropped, and its contents are unpredictable (R72, R75, R102). -/
def State.uninitBank (s : State) (r b : Nat) : State :=
  (((s.setBstate r b bsUninit).dropBank r b).setBankData r b (.unknown (512 + s.fresh))).draw

def State.uninitBanks (s : State) (r : Nat) : State := [0, 1, 2, 3].foldl (fun s b => s.uninitBank r b) s

/-! ### Frames (R42, R43, R546, R99) -/

def frameKey (r p c : Nat) : Nat := (r * 8 + p) * 64 + c

/-- A frame; a frame that no load has written is unknown to the model and reads as zeros (log entry 11). -/
def State.frame (s : State) (r p c : Nat) : List Byte := (tfind s.fab.frames (frameKey r p c)).getD []

/-- Bits `hi:lo` of a little-endian run of bytes starting at byte `base`. -/
def bitsAt (f : List Byte) (base hi lo : Nat) : Nat :=
  ofBytes ((f.drop (base + lo / 8)).take (hi / 8 - lo / 8 + 1)) / 2 ^ (lo % 8) % 2 ^ (hi + 1 - lo)

/-- The deck RAM configuration of a column's frame, bytes 4,032–4,063 (R51). -/
structure RamCfg where
  mode : Nat
  widthA : Nat
  echoA : Nat
  widthB : Nat
  echoB : Nat
  clk : Nat
  deriving DecidableEq, Repr

def ramCfg (f : List Byte) : RamCfg :=
  ⟨bitsAt f 4032 1 0, bitsAt f 4032 7 5, bitsAt f 4032 9 8, bitsAt f 4032 12 10, bitsAt f 4032 14 13, bitsAt f 4032 17 15⟩

/-- WIDTH 0b100 on either port puts the whole block in ECC mode (R51). -/
def RamCfg.ecc (c : RamCfg) : Bool := c.mode != 0 && (c.widthA == 4 || c.widthB == 4)

/-- The column of deck RAM block k (R36): k = 3 × (c div 4) + c mod 4. -/
def ramColumn (k : Nat) : Nat := k / 3 * 4 + k % 3

/-- The configuration through which block `k` is interpreted (R56): the active plane's, or in ISOLATED the plane that the
pointer names if it is VALID, and otherwise MODE 0b00. -/
def State.ramCfg (s : State) (r k : Nat) : RamCfg :=
  if s.running r || s.pstate r (s.planePtr r) == psValid then Machine.ramCfg (s.frame r (s.planePtr r) (ramColumn k))
  else ⟨0, 0, 0, 0, 0, 0⟩

/-- The border settings of a frame (R99). -/
def borderOf (f : List Byte) : BitVec 128 := BitVec.ofNat 128 (bitsAt f 4080 127 0)

/-- What the border cells of a column have latched; after power-on and base-die reset ZERO for every class but pin outputs,
which are FLOAT (R95): PIN_P fields exist in columns 0–3 only. -/
def borderReset (k : Nat) : BitVec 128 :=
  if k % 64 < 4 then 0x3F5_5555 else 0x5_5555

/-- Border cells latch the settings of plane `p` (R79 E1, R97). -/
def State.latchBorder (s : State) (r p : Nat) : State :=
  let t := (List.range 64).foldl (fun t c => tput borderReset t (64 * r + c) (borderOf (s.frame r p c))) s.fab.border
  { s with fab := { s.fab with border := t } }

/-- The INIT image of a bank under plane `p` (R40, R50, R78): every flip-flop at its INIT bit, reckon state zero. -/
def State.initImage (s : State) (r p : Nat) : List Byte :=
  let ffByte (n : Nat) : Byte :=
    BitVec.ofNat 8 ((List.range 4).foldl (fun acc j =>
      let q := 4 * n + j            -- bead number 200c + k
      let w := (s.frame r p (q / 200)).drop (20 * (q % 200))
      acc + (bitsAt w 0 109 109) * 2 ^ (2 * j) + (bitsAt w 0 118 118) * 2 ^ (2 * j + 1)) 0)
  (List.range 3200).map ffByte ++ List.replicate 3072 0

/-! ### Malformed frames (R43, R99, R124, R546) -/

/-- A clock-line selector of 5–7 is reserved (R42). -/
def clkBad (v : Nat) : Bool := decide (5 ≤ v)

/-- A flip-flop configuration (R42) that is malformed under R124. -/
def ffBad (cfg : Nat) : Bool := clkBad (cfg / 64) || cfg / 2 % 4 == 3

/-- A bead word that is malformed. -/
def beadBad (w : List Byte) : Bool := ffBad (bitsAt w 0 114 106) || ffBad (bitsAt w 0 123 115)

/-! ### Generation numbers (R103–R105) -/

def State.bgen (s : State) (r : Nat) : Nat := s.fld (Reg.PLANE_GEN r) Fld.PLANE_GEN_BGEN
def State.rgen (s : State) (r : Nat) : Nat := s.fld (Reg.PLANE_GEN r) Fld.PLANE_GEN_RGEN
def State.stale (s : State) (r : Nat) : Bool := s.bit (Reg.PLANE_STATUS r) Fld.PLANE_STATUS_STALE

/-- BGEN increases by one; RGEN takes it while the region is RUNNING, or ISOLATED with STALE = 0 (R103, R104). -/
def State.bumpBgen (s : State) (r : Nat) : State :=
  let s := s.bumpWrap (Reg.PLANE_GEN r) Fld.PLANE_GEN_BGEN 1
  if s.rstate r = rsRunning ∨ (s.rstate r = rsIsolated ∧ !s.stale r) then
    s.setFld (Reg.PLANE_GEN r) Fld.PLANE_GEN_RGEN (s.bgen r)
  else s

/-- Entry to ISOLATED from OFF or RESET, with the comparison of R105. -/
def State.enterIsolated (s : State) (r : Nat) : State :=
  (s.setRstate r rsIsolated).setFld (Reg.PLANE_STATUS r) Fld.PLANE_STATUS_STALE (b2n (s.rgen r != s.bgen r))

/-- A load has closed a plane of the region VALID: STALE clears and RGEN takes BGEN (R105). -/
def State.clearStale (s : State) (r : Nat) : State :=
  if s.stale r ∧ s.rstate r = rsIsolated then
    (s.setFld (Reg.PLANE_STATUS r) Fld.PLANE_STATUS_STALE 0).setFld (Reg.PLANE_GEN r) Fld.PLANE_GEN_RGEN (s.bgen r)
  else s

/-! ### User clocks (R61–R63) -/

def uclkOf (v : Word32) : UClk :=
  ⟨fieldGet v Fld.PLANE_FAB_UCLK_EN == 1, fieldGet v Fld.PLANE_FAB_UCLK_PHASE, fieldGet v Fld.PLANE_FAB_UCLK_DIV_M1⟩

def State.uclk (s : State) (r k : Nat) : UClk := tget (fun _ => ⟨false, 0, 0⟩) s.fab.uclk (4 * r + k)

/-- Whether an enabled user clock has an edge at fabric edge `f` (R62): (F − PHASE) mod (DIV_M1 + 1) = 0, PHASE taken modulo
DIV_M1 + 1. -/
def UClk.edgeAt (u : UClk) (f : Nat) : Bool := u.en && decide (f % (u.div + 1) = u.phase % (u.div + 1))

/-- The first fabric edge strictly after `f` at which the clock has an edge; for a disabled clock, the next fabric edge. -/
def UClk.nextEdge (u : UClk) (f : Nat) : Nat :=
  if u.en then
    let d := u.div + 1
    f + 1 + (u.phase % d + d - (f + 1) % d) % d
  else f + 1

end Sys2Proof.Machine
end

