-- ==== Sys2Proof/Machine/Design.lean ====
section
/-!
DEFINITION. What a region's design does at its clock edges and at its border (R38–R50, R61, R93–R98, R546): lookup tables, carries, control
lines, flip-flops and reckon blocks; the contents of a bank after a run of edges; border-valid, border outputs and received lines. Which track
a selector picks, and which track a border line takes, are the toolchain's: free (log entry 81). Nothing here is computed before it is asked for.
-/
namespace Sys2Proof.Machine

/-! ### Contents of a bank (R78) -/

/-- The 6,272 bytes of flip-flops and reckon state, by place in the layout of R78. -/
abbrev Cells := Nat → Byte

/-- Flip-flop FA (0) or FB (1) of column `c`, row `k`. -/
def ffBit (m : Cells) (c k f : Nat) : Bool :=
  let n := 2 * (200 * c + k) + f
  (m (n / 8)).getLsbD (n % 8)

/-- A number of `n` bytes at byte `i`. -/
def cellNat (m : Cells) (i n : Nat) : Nat := ofBytes ((List.range n).map (fun j => m (i + j)))

/-! ### A design's logic within one cycle (R38, R41, R42, R44, R546) -/

def Design.frame (d : Design) (c : Nat) : List Byte := d.frames.getD c []

/-- Bits `hi:lo` of the bead word of column `c`, row `k`. -/
def Design.word (d : Design) (c k hi lo : Nat) : Nat := bitsAt (d.frame c) (20 * k) hi lo

/-- Selector IN_SEL of input `j`. -/
def Design.sel (d : Design) (c k j : Nat) : Nat := d.word c k (70 + 7 * j) (64 + 7 * j)

/-- The lookup-table mask of a bead. -/
def Design.mask (d : Design) (c k : Nat) : Word64 := BitVec.ofNat 64 (d.word c k 63 0)

/-- The bead of column `c`, row `k` from its inputs and its carry: Z, H, carry out, sum. -/
def Design.beadOut (d : Design) (c k : Nat) (i : BitVec 6) (cin : Bool) : Bool × Bool × Bool × Bool :=
  bead (d.word c k 127 127 == 1) (d.word c k 124 124 == 1) (d.mask c k) i cin

/-- Six input values, I0 in bit 0. -/
def sixBits (f : Nat → Bool) : BitVec 6 := (List.range 6).foldl (fun x j => x ||| (if f j then 1#6 <<< j else 0)) 0

/-- A place in the logic: Z, H, the carry into a row, the sum, or what a selector of a bead sees. -/
inductive Node where
  | z (c k : Nat)
  | h (c k : Nat)
  | carry (c k : Nat)
  | sum (c k : Nat)
  | tap (c k v : Nat)
  deriving DecidableEq, Repr

/-- A local line reaches the beads of its column group within 16 rows of the bead that drives it (R44). -/
def inReach (c k c' k' : Nat) : Bool := c / 4 == c' / 4 && decide (k ≤ k' + 16 ∧ k' ≤ k + 16)

/-- The outputs (0 Z, 1 H, 2 FA, 3 FB) that a bead drives onto track `t` (R42 OUT_DRV). -/
def Design.drivers (d : Design) (c k t : Nat) : List Nat := (List.range 4).filter (fun q => (d.word c k 159 128).testBit (8 * q + t))

/-- The value at a place after fabric edge `e`, from the flip-flops `m` and the cascade inputs. A selector sees the one output that drives its
track; what it sees otherwise is free. -/
def Design.eval (d : Design) (e : Nat) (m : Cells) (casc : Nat → Bool) : Nat → Node → Bool
  | 0, _ => Config.loop d.region e
  | n + 1, .tap c k v =>
    (match Config.pick c k v with
      | .other => Config.wire d.region e c k v
      | .track c' k' t =>
        match (if inReach c k c' k' then d.drivers c' k' t else []) with
        | [0] => d.eval e m casc n (.z c' k')
        | [1] => d.eval e m casc n (.h c' k')
        | [2] => ffBit m c' k' 0
        | [3] => ffBit m c' k' 1
        | _ => Config.wire d.region e c k v)
  | n + 1, .carry c k =>
    (match k with
      | 0 => (match d.word c 0 126 125 with
          | 0 => false
          | 1 => true
          | 2 => d.eval e m casc n (.tap c 0 (d.sel c 0 5))
          | _ => casc c)
      | k + 1 =>
        (d.beadOut c k (sixBits (fun j => d.eval e m casc n (.tap c k (d.sel c k j)))) (d.eval e m casc n (.carry c k))).2.2.1)
  | n + 1, .z c k =>
    lutZ (d.word c k 127 127 == 1) (d.mask c k) (sixBits (fun j => d.eval e m casc n (.tap c k (d.sel c k j))))
  | n + 1, .h c k =>
    lutH (d.mask c k) (sixBits (fun j => d.eval e m casc n (.tap c k (d.sel c k j))))
  | n + 1, .sum c k =>
    (d.beadOut c k (sixBits (fun j => d.eval e m casc n (.tap c k (d.sel c k j)))) (d.eval e m casc n (.carry c k))).2.2.2

/-- More places than a path without a loop can pass. -/
def evalDepth : Nat := 2 ^ 24

def Design.at_ (d : Design) (e : Nat) (m : Cells) (casc : Nat → Bool) (x : Node) : Bool := d.eval e m casc evalDepth x

/-- The carry out of row 199 of a column (R41). -/
def Design.carryTop (d : Design) (e : Nat) (m : Cells) (casc : Nat → Bool) (c : Nat) : Bool := d.at_ e m casc (.carry c 200)

/-- Control line `j` of a column (R546). -/
def Design.control (d : Design) (e : Nat) (m : Cells) (casc : Nat → Bool) (c j : Nat) : Bool :=
  let src := bitsAt (d.frame c) 4064 (16 * j + 7) (16 * j)
  if src < 0x80 then d.at_ e m casc (.tap c (bitsAt (d.frame c) 4064 (16 * j + 15) (16 * j + 8)) src)
  else if src = 0x81 then true
  else if 0x82 ≤ src ∧ src ≤ 0x86 then d.bvin.getD (src - 0x82) false
  else false

/-- Whether clock line `l` of a column (0 fc, 1–4 U0–U3) has an edge at fabric edge `e`: it is distributed there, and its clock has one (R61,
R62, R546). -/
def Design.edge (d : Design) (e c l : Nat) : Bool :=
  (bitsAt (d.frame c) 4064 76 72).testBit l && (match l with
    | 0 => true
    | k + 1 => (d.clocks.getD k ⟨false, 0, 0⟩).edgeAt e)

/-! ### One edge (R39, R49, R50) -/

/-- A flip-flop after edge `e` (R39, R42). -/
def Design.ffNext (d : Design) (e : Nat) (m : Cells) (casc : Nat → Bool) (c k f : Nat) : Bool :=
  let cfg := if f = 0 then d.word c k 114 106 else d.word c k 123 115
  let line (lo : Nat) : Bool := d.control e m casc c (bitsAt (d.frame c) 4064 (lo + 1) lo)
  let on := cfg % 2 = 0 ∨ line (64 + 2 * f) = true
  let mode := cfg / 2 % 4
  if !d.edge e c (cfg / 64) then ffBit m c k f
  else if mode ≠ 0 ∧ line (68 + 2 * f) ∧ (on ∨ Config.setFirst) then decide (mode = 2)
  else if on then
    (match cfg / 16 % 4 with
      | 0 => d.at_ e m casc (.z c k)
      | 1 => d.at_ e m casc (.h c k)
      | 2 => d.at_ e m casc (.sum c k)
      | _ => d.at_ e m casc (.tap c k (d.sel c k 5)))
  else ffBit m c k f

/-- A reckon block's configuration (R50). -/
def Design.reckonBit (d : Design) (c i : Nat) : Bool := bitsAt (d.frame c) 4000 i i == 1
def Design.reckonMode (d : Design) (c : Nat) : Nat := bitsAt (d.frame c) 4000 9 8

/-- Where a reckon block's state begins. -/
def reckonAt (c : Nat) : Nat := 3200 + 48 * c

/-- P of a column, and the cascade input PC of the next (R49). -/
def reckonP (m : Cells) (c : Nat) : Word64 := BitVec.ofNat 64 (cellNat m (reckonAt c) 8)
def reckonPC (m : Cells) (c : Nat) : Word64 := if c = 0 then 0 else reckonP m (c - 1)

/-- The term that has reached the end of the pipeline. -/
def Design.reckonLast (d : Design) (m : Cells) (c : Nat) : Word64 :=
  reckonWide (d.reckonMode c) (d.reckonBit c 0) (d.reckonBit c 1) (BitVec.ofNat 54 (cellNat m (reckonAt c + 8) 8))

/-- The register at offset `o` of a reckon block after edge `e`, and its first offset: operands pass two product stages to P (R50). -/
def Design.reckonNext (d : Design) (e : Nat) (m : Cells) (c o : Nat) : Nat × Nat :=
  let b := reckonAt c
  let v (i n : Nat) : Nat := cellNat m (b + i) n
  if o < 8 then
    (0, (reckonSum (d.reckonMode c) (d.reckonBit c 4) (d.reckonBit c 3) (reckonP m c) (reckonPC m c) (d.reckonLast m c)).toNat)
  else if o < 16 then (8, v 16 8)
  else if o < 24 then
    (16, (reckonTerm (d.reckonMode c) (d.reckonBit c 2) (d.reckonBit c 0) (d.reckonBit c 1) (BitVec.ofNat 27 (v 24 4)) (BitVec.ofNat 27 (v 28 4))
      (BitVec.ofNat 27 (v 32 4)) (BitVec.ofNat 48 (v 40 8))).toNat)
  else if o < 28 then (24, Config.operand d.region e c 0 % 2 ^ 27)
  else if o < 32 then (28, Config.operand d.region e c 1 % 2 ^ 27)
  else if o < 36 then (32, Config.operand d.region e c 2 % 2 ^ 27)
  else if o < 40 then (36, 0)
  else (40, Config.operand d.region e c 3 % 2 ^ 48)

/-- OVF of the reckon block of a column, after edge `e` has taken `m` on (R49). -/
def Design.ovf (d : Design) (e : Nat) (m : Cells) (c : Nat) : Bool :=
  d.edge e c (bitsAt (d.frame c) 4000 7 5) && reckonOvf (d.reckonMode c) (d.reckonBit c 4) (d.reckonBit c 3) (d.reckonBit c 0) (d.reckonBit c 1)
    (reckonP m c) (reckonPC m c) (d.reckonLast m c)

/-- The contents of a bank after fabric edge `e`. -/
def Design.after (d : Design) (e : Nat) (m : Cells) (casc : Nat → Bool) : Cells := fun i =>
  if i < 3200 then
    BitVec.ofNat 8 ((List.range 4).foldl (fun v j =>
      let q := 4 * i + j
      v + (b2n (d.ffNext e m casc (q / 200) (q % 200) 0) + 2 * b2n (d.ffNext e m casc (q / 200) (q % 200) 1)) * 4 ^ j) 0)
  else
    let c := (i - 3200) / 48
    let o := (i - 3200) % 48
    if d.edge e c (bitsAt (d.frame c) 4000 7 5) then
      let x := d.reckonNext e m c o
      BitVec.ofNat 8 (x.2 / 256 ^ (o - x.1))
    else m i

/-! ### A run of edges (R39, R79) -/

/-- The cascade inputs at an edge (R41, R48): the lower region's carries while it runs, or what its border cells drive by policy. -/
def Span.cascade (p : Span) (e : Nat) (low : Cells) (held : Nat → Bool) : Nat → Bool :=
  match p.low with
  | some d => d.carryTop e low (fun _ => false)
  | none => fun c => match p.casc.getD c 1 with
    | 0 => held c
    | 2 => true
    | _ => false

/-- The contents of the bank and of the lower region's bank after `n` edges of a run. -/
def Span.run (p : Span) (base low : Cells) (held : Nat → Bool) : Nat → Cells × Cells
  | 0 => (base, low)
  | n + 1 =>
    let x := p.run base low held n
    let e := p.first + n
    (p.own.after e x.1 (p.cascade e x.2 held), match p.low with
      | some d => d.after e x.2 (fun _ => false)
      | none => x.2)

def Span.len (p : Span) : Nat := p.last + 1 - p.first

/-- The bits that R78 leaves to byte `i` of the first 6,272 bytes of a transfer image. -/
def imageMask (i : Nat) : Nat :=
  if i < 3200 then 0xFF
  else
    let j := (i - 3200) % 48
    if j = 14 then 0x3F else if j = 15 then 0
    else if j = 27 ∨ j = 31 ∨ j = 35 then 0x07
    else if 36 ≤ j ∧ j < 40 then 0
    else if j = 46 ∨ j = 47 then 0 else 0xFF

/-- The bits that hold something in a bank: the first product stage has 54, as the second. -/
def cellMask (i : Nat) : Nat :=
  let j := (i - 3200) % 48
  if 3200 ≤ i ∧ j = 22 then 0x3F else if 3200 ≤ i ∧ j = 23 then 0 else imageMask i

/-- The contents of a bank, and the carries out of its columns as they stood before the last edge that it took. -/
def BankData.eval : BankData → Cells × (Nat → Bool)
  | .unknown id => (fun i => Config.freeByte id i &&& BitVec.ofNat 8 (cellMask i), fun _ => false)
  | .image l => (fun i => l.getD i 0, fun _ => false)
  | .ran base low p =>
    let b := base.eval.1
    let l := low.eval
    let x := p.run b l.1 l.2 (p.len - 1)
    ((p.run b l.1 l.2 p.len).1, p.own.carryTop p.last x.1 (p.cascade p.last x.2 l.2))

/-- Byte `i` of what a bank holds. -/
def BankData.byte (d : BankData) (i : Nat) : Byte := d.eval.1 i

/-- OVF of a column of the bank that a region runs, after its last edge. -/
def BankData.ovf (d : BankData) (c : Nat) : Bool :=
  match d with
  | .ran base low p => p.own.ovf p.last (p.run base.eval.1 low.eval.1 low.eval.2 (p.len - 1)).1 c
  | _ => false

/-! ### The deck (R37, R44, R45, R93) -/

/-- The region on side `d` (0 N, 1 E, 2 S, 3 W) of region `r` on its deck, where there is one: the decks do not wrap (R45). -/
def deckSide (r d : Nat) : Option Nat :=
  let x := r % 8
  let y := r % 64 / 8
  match d with
  | 0 => if y < 7 then some (r + 8) else none
  | 1 => if x < 7 then some (r + 1) else none
  | 2 => if 0 < y then some (r - 8) else none
  | _ => if 0 < x then some (r - 1) else none

/-- The other region of the rod. -/
def mate (r : Nat) : Nat := (r + 64) % 128

/-- Border-valid (R93). -/
def State.borderValid (s : State) (r : Nat) : Bool := s.running r

/-- BVIN_N, BVIN_E, BVIN_S, BVIN_W and BVIN_ROD; a side without a neighbour reads 0 (R93). -/
def State.bvin (s : State) (r : Nat) : List Bool :=
  (List.range 4).map (fun d => (deckSide r d).any (fun n => s.borderValid n)) ++ [s.borderValid (mate r)]

/-- The design that a region runs. -/
def State.design (s : State) (r : Nat) : Design :=
  ⟨r, (List.range 64).map (fun c => s.frame r (s.planePtr r) c), (List.range 4).map (s.uclk r), s.bvin r⟩

/-! ### Edges as they come (R39, R79, R95) -/

/-- The border settings latched for column `c`. -/
def State.borderSet (s : State) (r c : Nat) : BitVec 128 := tget borderReset s.fab.border (64 * r + c)

/-- The policy of a border line (R99): 0 HOLD, 1 ZERO, 2 ONE, 3 FLOAT. -/
def State.policy (s : State) (r : Nat) (x : BorderLine) : Nat :=
  let at_ (c lo : Nat) : Nat := ((s.borderSet r c).toNat / 2 ^ lo) % 4
  match x with
  | .nbr d i => at_ (i / 16) (2 * d)
  | .long d i => at_ (i / 4) (8 + 2 * d)
  | .rod j => at_ (j / 64) 16
  | .casc c => at_ c 18
  | .pin p => at_ (p / 3) (20 + 2 * (p % 3))

/-- What the border cells hold of the cascades. -/
def State.heldBank (s : State) (r : Nat) : BankData := ((s.region r).hold.map (·.2)).getD (.image [])

/-- Whether the bound bank of region `r` has an edge to take up to fabric edge `f`. -/
def State.runs (s : State) (r f : Nat) : Bool := s.running r && decide ((s.region r).runFrom ≤ f)

/-- The bound bank of region `r` takes every edge up to fabric edge `f`, the design as it stands. -/
def State.runBank (s : State) (r f : Nat) : State :=
  if s.runs r f then
    let n := r % 64
    let up := decide (64 ≤ r)
    let low := up && s.runs n f
    let b := s.bankPtr r
    let p : Span := ⟨(s.region r).runFrom, f, s.design r, if low then some (s.design n) else none,
      if !up || low then []
      else if s.running n then List.replicate 64 0 else (List.range 64).map (fun c => s.policy n (.casc c))⟩
    let ld := if low then s.bankData n (s.bankPtr n) else if up then s.heldBank n else .image []
    (s.setBankData r b (.ran (s.bankData r b) ld p)).setRegion r { s.region r with runFrom := f + 1 }
  else s

/-- Both regions of rod `n` take every edge up to the time `e`. -/
def State.settleRod (s : State) (n e : Nat) : State := (s.runBank (n + 64) (s.fabF e)).runBank n (s.fabF e)

/-- Before the state, the pointers or the border-valid output of region `r` change at the edge `e`: what it drives has been seen. -/
def State.settleAround (s : State) (r e : Nat) : State :=
  let n := r % 64
  (n :: (List.range 4).filterMap (deckSide n)).foldl (fun s n => s.settleRod n e) s

/-- The border cells of region `r` latch their outputs as they stood before the edge `e` (R79, R96). -/
def State.latchHold (s : State) (r e : Nat) : State :=
  s.setRegion r { s.region r with hold := some (s.fabF e, s.bankData r (s.bankPtr r)) }

/-! ### What a region drives and receives (R44–R48, R80, R93, R95, R98) -/

/-- The value and output enable that border cells hold: as they stood before the edge of the latch; zero at first (R95). -/
def State.heldLine (s : State) (r : Nat) (x : BorderLine) : Bool × Bool :=
  match (s.region r).hold with
  | none => (false, false)
  | some (f, d) => match x with
    | .casc c => (d.eval.2 c, true)
    | .pin _ => (Config.line r (f - 1) x, Config.lineOn r (f - 1) x)
    | _ => (Config.line r (f - 1) x, true)

/-- What the design drives now. -/
def State.designLine (s : State) (r : Nat) (x : BorderLine) : Bool × Bool :=
  let f := s.fabF s.now
  match x with
  | .casc c =>
    let s := s.settleRod (r % 64) s.now
    ((s.design r).carryTop f (s.bankData r (s.bankPtr r)).byte (fun _ => false) c, true)
  | .pin _ => (Config.line r f x, Config.lineOn r f x)
  | _ => (Config.line r f x, true)

/-- What a region drives onto a line, and whether it drives it (R79, R95, R98): its design's output while it runs, the value held through a
switch cycle, and otherwise the policy's. -/
def State.borderOut (s : State) (r : Nat) (x : BorderLine) : Bool × Bool :=
  if s.running r then (if (s.cycleOn r).isSome then s.heldLine r x else s.designLine r x)
  else match s.policy r x with
    | 0 => s.heldLine r x
    | 1 => (false, true)
    | 2 => (true, true)
    | _ => (false, false)

/-- Neighbour line `i` received from side `d` (R44, R45): none at the edge of the deck. -/
def State.nbrIn (s : State) (r d i : Nat) : Option Bool := (deckSide r d).map (fun n => (s.borderOut n (.nbr ((d + 2) % 4) i)).1)

/-- The region `k` places behind `r`, seen along direction `d`. -/
def behind (r d : Nat) : Nat → Option Nat
  | 0 => some r
  | k + 1 => (behind r d k).bind (fun n => deckSide n ((d + 2) % 4))

/-- Long line `i` driven in direction `d` by the region `k` places behind, as its tap in `r` reads it (R44, R45, R48): the line crosses four
regions, and a region that it crosses passes it unchanged. -/
def State.longIn (s : State) (r d k i : Nat) : Option Bool :=
  if 1 ≤ k ∧ k ≤ 4 then (behind r d k).map (fun n => (s.borderOut n (.long d i)).1) else none

/-- Rod channel `j` received from the other region of the rod, while its group is in service (R46, R47). -/
def State.rodIn (s : State) (r j : Nat) : Option Bool :=
  let n := mate r
  let a := if j < 2048 then Reg.PLANE_FAB_RC_AVAIL_LO n else Reg.PLANE_FAB_RC_AVAIL_HI n
  if (s.reg a).getLsbD (j / 64 % 32) then some (s.borderOut n (.rod j)).1 else none

/-- The carry cascade into column `c` (R41): constant 0 on the lower deck. -/
def State.cascIn (s : State) (r c : Nat) : Bool := decide (64 ≤ r) && (s.borderOut (r - 64) (.casc c)).1

/-- The local track `t` that the bead at column `c`, row `k` drives now, where exactly one of its outputs drives it (R42, R44). -/
def State.localLine (s : State) (r c k t : Nat) : Option Bool :=
  let u := s.settleRod (r % 64) s.now
  let m : Cells := (u.bankData r (u.bankPtr r)).byte
  let at_ (x : Node) : Bool := (u.design r).at_ (u.fabF u.now) m (u.cascIn r) x
  match (u.design r).drivers c k t with
  | [0] => some (at_ (.z c k))
  | [1] => some (at_ (.h c k))
  | [2] => some (ffBit m c k 0)
  | [3] => some (ffBit m c k 1)
  | _ => none

/-- Column control line `j` of column `c` now (R44, R546). -/
def State.controlLine (s : State) (r c j : Nat) : Bool :=
  let u := s.settleRod (r % 64) s.now
  (u.design r).control (u.fabF u.now) (u.bankData r (u.bankPtr r)).byte (u.cascIn r) c j

/-- Whether the handshake and data outputs of a region's NoC port, task port and lane transmit-word interfaces are low and zero now (R80,
R95): through a switch cycle, and while it does not run. -/
def State.portsLow (s : State) (r : Nat) : Bool := !s.running r || (s.cycleOn r).isSome

/-- What such an output shows of the value that the design gives it. -/
def State.portOut (s : State) (r v : Nat) : Nat := if s.portsLow r then 0 else v

end Sys2Proof.Machine
end

