-- ==== Sys2Proof/Machine/EngineOps.lean ====
section
/-!
DEFINITION. The operations on an engine's registers that other families share (chapter 07), and what passes with time alone at
the engines: an instruction whose outcome is known retires at its edge (R218–R220, R222).
-/
namespace Sys2Proof.Machine

/-- An engine that has never run: registers zero (log entry 5), local RAM unwritten. -/
def Eng.idle : Eng := ⟨0, 0, [], 0, [], (0, 0), 0, [], none, [], [], .idle, none, none, false, false⟩

def State.engine (s : State) (n : Nat) : Eng := tget (fun _ => Eng.idle) s.eng n
def State.setEngine (s : State) (n : Nat) (e : Eng) : State := { s with eng := tput (fun _ => Eng.idle) s.eng n e }
def State.mapEngine (s : State) (n : Nat) (f : Eng → Eng) : State := s.setEngine n (f (s.engine n))

/-! ### Registers and marks (R225) -/

/-- x(i). -/
def Eng.get (e : Eng) (i : Nat) : Word32 := tget (fun _ => 0) e.x i

/-- Whether x(i) carries a mark. -/
def Eng.marked (e : Eng) (i : Nat) : Bool := i != 0 && e.marks.getLsbD i

/-- x(i) written, with or without a mark; x0 discards what is written. -/
def Eng.put (e : Eng) (i : Nat) (v : Word32) (mark : Bool) : Eng :=
  if i = 0 then e
  else
    let b : Word32 := 1#32 <<< i
    { e with x := tput (fun _ => 0) e.x i v, marks := if mark then e.marks ||| b else e.marks &&& ~~~b }

/-! ### CSRs (R213, R214) -/

def csrXqctl : Nat := 0x7C0
def csrXqbuserr : Nat := 0x7C1
def csrXqpsn : Nat := 0x7C2
def csrXqapt (k : Nat) : Nat := 0x7D0 + k
def csrXqtask : Nat := 0xCC0
def csrXqtmpl : Nat := 0xCC1
/-- xqop(i / 2) for even i, xqoph(i / 2) for odd i. -/
def csrXqop (i : Nat) : Nat := 0xCC2 + i

/-- A CSR as it was last written; every one resets to zero (log entry 20). -/
def Eng.csrVal (e : Eng) (a : Nat) : Word32 := tget (fun _ => 0) e.csr a
def Eng.setCsr (e : Eng) (a : Nat) (v : Word32) : Eng := { e with csr := tput (fun _ => 0) e.csr a v }

/-- Whether an engine task is bound: xqtask.VALID. -/
def Eng.bound (e : Eng) : Bool := (e.csrVal csrXqtask).getLsbD 31

/-- The task CSRs cleared (R219). -/
def Eng.clearTask (e : Eng) : Eng :=
  (List.range 10).foldl (fun e i => e.setCsr (0xCC0 + i) 0) e

/-- The task CSRs hold record `x` under handle `h`; slots beyond its `n` operands read zero (R214, R218). -/
def Eng.bindTask (e : Eng) (x : TallyRec) (h n : Nat) : Eng :=
  let v (k : Nat) : Nat := if n < k then 0 else (match k with | 0 => x.op0 | 1 => x.op1 | 2 => x.op2 | _ => x.op3).toNat
  let e := (e.setCsr csrXqtask (BitVec.ofNat 32 (2 ^ 31 + h % 2 ^ 28))).setCsr csrXqtmpl
    (BitVec.ofNat 32 (x.poison % 2 ^ (n + 1) * 2 ^ 16 + x.template))
  (List.range 4).foldl (fun e k =>
    (e.setCsr (csrXqop (2 * k)) (BitVec.ofNat 32 (v k))).setCsr (csrXqop (2 * k + 1)) (BitVec.ofNat 32 (v k / 2 ^ 32))) e

/-! ### State of the engine (R231, R234) -/

def esReset : Nat := 0
def esHalted : Nat := 1
def esRunning : Nat := 2
def esWaiting : Nat := 3

def State.estate (s : State) (n : Nat) : Nat := s.fld (Reg.ENG_STATUS n) Fld.ENG_STATUS_STATE

/-- The state of clock gate `g` (R446): 0 RUNNING, 1 WAITING, 2 GATED. Gate n is engine n's. -/
def State.gateState (s : State) (g : Nat) : Nat := s.fld (Reg.CLK_GATE_STATUS g) Fld.CLK_GATE_STATUS_STATE

/-- The engine takes no clock edge (R444). -/
def State.engGated (s : State) (n : Nat) : Bool := s.gateState n == 2

/-- ENG_STATUS.STATE and TASK brought up to date: RESET while the engine is held in reset, by ENG_CTL or with its rod (R462); HALTED
while its domain is not ON; WAITING in xq.wait; HALTED with RUN = 0 once nothing stalls it; RUNNING otherwise (R231). -/
def State.showEngine (s : State) (n : Nat) : State :=
  let e := s.engine n
  let st := if s.bit (Reg.ENG_CTL n) Fld.ENG_CTL_RESET || (s.reg (Reg.RST_ROD n)).getLsbD 10 then esReset
    else if s.fld (Reg.PWR_DOM_STATUS (128 + n)) Fld.PWR_DOM_STATUS_STATE != 2 then esHalted
    else match e.busy with
      | .wait _ _ _ _ _ => esWaiting
      | .ended _ _ _ _ => esWaiting
      | .idle => if s.bit (Reg.ENG_CTL n) Fld.ENG_CTL_RUN || e.stall then esRunning else esHalted
      | _ => esRunning
  (s.setFld (Reg.ENG_STATUS n) Fld.ENG_STATUS_STATE st).setFld (Reg.ENG_STATUS n) Fld.ENG_STATUS_TASK (b2n e.bound)

/-- minstret after one more instruction: mcountinhibit.IR holds it (R204). -/
def Eng.retired (e : Eng) : Nat := if (e.csrVal 0x320).getLsbD 2 then e.instret else (e.instret + 1) % 2 ^ 64

/-- The instruction that holds the pipeline retires: x(rd) is written and the next instruction follows. -/
def Eng.retire (e : Eng) (rd : Nat) (v : Word32) (mark : Bool) : Eng :=
  { e.put rd v mark with busy := .idle, pc := e.next, instret := e.retired }

/-- The first nc edge after the sc edge `e` (R84, R218–R222). -/
def ncAfter (e : Nat) : Nat := e + ncLen

/-- The sc edge of now: the last one at or before it. -/
def State.scEdge (s : State) : Nat := s.now / scLen * scLen

/-- The second sc edge after now (R85, R217, R219, R220). -/
def State.secondSc (s : State) : Nat := (s.now / scLen + 2) * scLen

/-- The handle that goes with record `i`, and its NOPS. -/
def State.taskOf (s : State) (i : Nat) : TallyRec × Nat × Nat :=
  let x := tget (fun _ => ⟨0, 0, 0, 0, 0, 0, 0, false, 0, false, 0, 0, 0, 0, 0, 0, 0, false, false, 0, false, 0, 0, 0⟩) s.sch.recs i
  (x, i * 256 + x.gen % 256, s.fld (Reg.TALLY_TMPL_CTL x.template) Fld.TALLY_TMPL_CTL_NOPS)

/-- Engine `n`'s instruction retires if its edge lies at or before time `t`. -/
def State.engRetire (s : State) (t n : Nat) : State :=
  let e := s.engine n
  match e.busy with
  | .due at_ rd v clear =>
    if t < at_ || s.engGated n then s
    else
      let e := e.retire rd v false
      (s.setEngine n (if clear then e.clearTask else e)).showEngine n
  | .ended at_ rd v task =>
    if t < at_ || s.engGated n then s
    else
      let e := e.retire rd v false
      (s.setEngine n (match task with
        | some i => let x := s.taskOf i
                    e.bindTask x.1 x.2.1 x.2.2
        | none => e)).showEngine n
  | .cancel rd k =>
    (match s.sch.answers.find? (fun a => a.2.2 == k && (match a.1 with | .engine m => m == n | _ => false)) with
      | some (o, out, _) =>
        if t < ncAfter (k + scLen) || s.engGated n then s
        else
          let s := s.setEngine n (e.retire rd (BitVec.ofNat 32 out) false)
          let s := { s with sch := { s.sch with answers := s.sch.answers.erase (o, out, k) } }
          s.showEngine n
      | none => s)
  | _ => s

/-- Every engine whose instruction is due by time `t` retires it. -/
def State.engSettle (s : State) (t : Nat) : State :=
  (s.eng.map (·.1)).foldl (fun s n => s.engRetire t n) s

end Sys2Proof.Machine
end

