-- ==== Sys2Proof/Machine/PinOps.lean ====
section
/-!
DEFINITION. The operations on pins, trigger channels and serial units that the reads of their registers share (chapter 15).
-/
namespace Sys2Proof.Machine

def TrigCh.idle : TrigCh := ⟨[], false, none, none, [], []⟩
/-- A UART whose CTS input permits sending: an input that is not enabled reads 0, which is clear to send. -/
def Uart.idle : Uart := ⟨[], [], none, true⟩

def State.trig (s : State) (c : Nat) : TrigCh := tget (fun _ => TrigCh.idle) s.pin.trig c
def State.uart (s : State) (u : Nat) : Uart := tget (fun _ => Uart.idle) s.pin.uart u

/-- A channel, with its COUNT brought up to date. -/
def State.setTrig (s : State) (c : Nat) (x : TrigCh) : State :=
  ({ s with pin := { s.pin with trig := tput (fun _ => TrigCh.idle) s.pin.trig c x } }).setFld
    (Reg.TRIG_CH_STATUS c) Fld.TRIG_CH_STATUS_COUNT x.queue.length

/-- A UART, with TX_FREE and RX_COUNT brought up to date. -/
def State.setUart (s : State) (u : Nat) (x : Uart) : State :=
  (({ s with pin := { s.pin with uart := tput (fun _ => Uart.idle) s.pin.uart u x } }).setFld
    (Reg.UART_STATUS u) Fld.UART_STATUS_TX_FREE (16 - x.tx.length)).setFld (Reg.UART_STATUS u) Fld.UART_STATUS_RX_COUNT x.rx.length

/-- The output of channel `c` at rc edge `t`. -/
def State.trigOut (s : State) (c t : Nat) : Bool := ((s.trig c).pulses ++ (s.trig c).past).any (fun p => decide (p.1 ≤ t ∧ t < p.2))

/-- TRIG_TS_HI and TRIG_TS_LO of a queue's head (R427, R432); zero when it is empty. -/
def Stamp.words (x : Stamp) : Word32 × Word32 :=
  let v := x.tick * 16 + x.fine
  (BitVec.ofNat 32 v, BitVec.ofNat 32 (2 ^ 31 + b2n x.rising * 2 ^ 30 + b2n x.lost * 2 ^ 29 + v / 2 ^ 32 % 2 ^ 20))
def State.stampWords (s : State) (c : Nat) : Word32 × Word32 :=
  match (s.trig c).queue with
  | x :: _ => x.words
  | [] => (0, 0)

/-- An 8-byte read removes the head entry. -/
def State.popStamp (s : State) (c : Nat) : State := s.setTrig c { s.trig c with queue := (s.trig c).queue.tail }

/-- A read of UART_DATA pops a byte (R430): VALID and BYTE. -/
def State.uartWord (s : State) (u : Nat) : Word32 :=
  match (s.uart u).rx with
  | b :: _ => BitVec.ofNat 32 (2 ^ 31 + b.toNat)
  | [] => 0
def State.popUart (s : State) (u : Nat) : State := s.setUart u { s.uart u with rx := (s.uart u).rx.tail }

/-! ### Pads (R408–R413, R418, R419) -/

def funcReset : Word32 := 0x07FF07FF
def elecReset : Word32 := 0x01300000

/-- PIN_FUNC and PIN_ELEC in force. -/
def State.drive (s : State) (p : Nat) : Word32 × Word32 := tget (fun _ => (funcReset, elecReset)) s.pin.drv p

/-- PIN_BANK(k).VIO of a pin: 0 absent, 3 1.8 V. -/
def State.vio (s : State) (p : Nat) : Nat := s.fld (Reg.PIN_BANK (p / 40)) Fld.PIN_BANK_VIO

/-- Pin `p` belongs to an LVDS pair (R409). -/
def State.lvds (s : State) (p : Nat) : Bool := s.fld (Reg.PIN_ELEC (p / 2 * 2)) Fld.PIN_ELEC_STD == 1

/-- A bit of PIN_OUT or PIN_OE. -/
def State.gpio (s : State) (a p : Nat) : Bool := (s.reg (a + p / 32 * 4)).getLsbD (p % 32)

/-- What a pin output port drives by its border policy, where region `r` has not run for 4 sc: nothing where it is released (R59, R98). -/
def State.parkedPort (s : State) (r k : Nat) : Option Bool :=
  if !s.running r && (s.region r).hold.all (fun h => decide (s.fabTime h.1 + 4 * scLen ≤ s.now)) then
    let x := s.borderOut r (.pin k)
    if x.2 then some x.1 else none
  else none

/-- TXD of UART `u` at the time `t` (R430): high when idle, the start bit, eight data bits from the lowest, the parity bit, and the stop bits.
PRESUMED: the levels and the order of a UART's bits (log entry 96). -/
def State.txd (s : State) (u t : Nat) : Bool :=
  match (s.uart u).shift with
  | none => true
  | some (b, e) =>
    let i := (t - e) / ((max 15 (s.fld (Reg.UART_CTL u) Fld.UART_CTL_DIV) + 1) * scLen)
    let parity := s.fld (Reg.UART_CTL u) Fld.UART_CTL_PARITY
    let odd := (List.range 8).countP (fun k => b.getLsbD k) % 2 == 1
    if t < e then true
    else if i = 0 then false
    else if i ≤ 8 then b.getLsbD (i - 1)
    else if i = 9 ∧ (parity = 1 ∨ parity = 2) then odd != (parity == 2)
    else true

/-- SCLK (0), MOSI (1) or a chip select (2 to 5) of SPI `u` at the time `t` (R430), MSB first; none where a transfer that has just ended, or an
idle MOSI, leaves it open. PRESUMED: CPOL and CPHA as every SPI has them, and chip selects that are low when asserted (log entry 96). -/
def State.spiLine (s : State) (u k t : Nat) : Option Bool :=
  let c := Reg.SPI_CTL u
  let cpol := s.bit c Fld.SPI_CTL_CPOL
  let mine := s.fld c Fld.SPI_CTL_CS == k - 2
  let idle := (tfind s.pin.spiAt u).all (fun e => decide (e + 8 * scLen ≤ s.now))
  match tfind s.pin.spi u with
  | some (e, w) =>
    if t < e then none
    else
      let h := (t - e) / ((s.fld c Fld.SPI_CTL_DIV + 1) * scLen)
      let l := s.fld c Fld.SPI_CTL_LEN
      let n := if l = 0 then 8 else if l = 1 then 16 else 32
      if k = 0 then some (if h < 2 * n then cpol != (h % 2 == (if s.bit c Fld.SPI_CTL_CPHA then 0 else 1)) else cpol)
      else if k = 1 then (if h < 2 * n then some (w.testBit (n - 1 - h / 2)) else none)
      else some (!mine)
  | none =>
    if !idle ∨ k = 1 then none
    else if k = 0 then some cpol
    else some (!(mine && s.bit c Fld.SPI_CTL_CS_HOLD && (tfind s.pin.spiAt u).isSome))

/-- Whether the device pulls chassis trigger line `l` low at the time `t` (R424). -/
def State.pullsLine (s : State) (l t : Nat) : Bool :=
  let a := Reg.TRIG_LINE_CFG l
  s.bit a Fld.TRIG_LINE_CFG_DRV_EN && s.trigOut (s.fld a Fld.TRIG_LINE_CFG_CH) t

/-- The star trigger output at the time `t` (R424). -/
def State.starOut (s : State) (t : Nat) : Bool :=
  s.bit Reg.TRIG_STAR_CFG Fld.TRIG_STAR_CFG_DRV_EN && s.trigOut (s.fld Reg.TRIG_STAR_CFG Fld.TRIG_STAR_CFG_CH) t

/-- What output selector `v` drives onto pin `p` at the time `t` (R410), where the block alone fixes it; none where nothing is driven, or the
level is a design's or the outside's. A pulse of a trigger channel comes through the crossbar 2 sc late (R428). -/
def State.signalAt (s : State) (v p t : Nat) : Option Bool :=
  if v < 0x600 then s.parkedPort (v / 12) (v % 12)
  else if v < 0x610 then some (s.trigOut (v - 0x600) (t - 2 * scLen))
  else if v < 0x618 then (if s.pullsLine (v - 0x610) t then some true else none)
  else if 0x640 ≤ v ∧ v < 0x650 ∧ v % 2 = 0 then
    let u := (v - 0x640) / 2
    if s.bit (Reg.UART_CTL u) Fld.UART_CTL_EN then some (s.txd u t) else none
  else if 0x660 ≤ v ∧ v < 0x6A0 ∧ v % 8 < 6 then
    let u := (v - 0x660) / 8
    if s.bit (Reg.SPI_CTL u) Fld.SPI_CTL_EN then s.spiLine u (v % 8) t else none
  else if v = 0x7FE then (if s.gpio (Reg.PIN_OE 0) p then some (s.gpio (Reg.PIN_OUT 0) p) else none)
  else none

/-- The level that the block gives the pad of a pin at the sample of R418, two sc before now: what its signals drive, where they have stood still
for 2 sc, through any register of R411; in DDR both signals count. -/
def State.drivenLevel (s : State) (p : Nat) : Option Bool :=
  let f := (s.drive p).1
  let at_ (k : Nat) : List (Option Bool) :=
    let t := s.now - 2 * scLen - k * fcLen
    s.signalAt (fieldGet f Fld.PIN_FUNC_OUT_SEL) p t ::
      (if fieldGet f Fld.PIN_FUNC_OMODE = 2 then [s.signalAt (fieldGet f Fld.PIN_FUNC_OUT_SEL2) p t] else [])
  match (List.range 5).flatMap at_ with
  | x :: l => if l.all (· == x) then x else none
  | [] => none

/-- The level that R98, R408–R411 and R418 fix for a pin: 0 without a supply or on the odd pin of a pair; what its signals drive, where its
setting has been in force since before the sample. -/
def State.knownLevel (s : State) (p : Nat) : Option Bool :=
  if s.vio p = 0 then some false
  else if s.lvds p ∧ p % 2 = 1 then some false
  else
    if (tfind s.pin.sw p).isNone ∧ (tget (fun _ => 0) s.pin.at_ p) + 4 * scLen ≤ s.now then s.drivenLevel p
    else none

/-- PIN_LEVEL(w); a level that only the outside knows is a free value. -/
def State.levelWord (s : State) (w : Nat) : Word32 :=
  BitVec.ofNat 32 ((List.range 32).foldl (fun v b =>
    v + (if (s.knownLevel (32 * w + b)).getD ((Config.freeWord s.fresh).getLsbD b) then 2 ^ b else 0)) 0)

end Sys2Proof.Machine
end

