-- ==== Sys2Proof/Machine/Crypto.lean ====
section
/-!
DEFINITION. The cryptographic functions that the spec names: AES-256, AES-256-GCM (R118), AES-XTS and CMAC (R343–R345), SHA-384 (R35,
R116) and ECDSA on P-384 (R116, R117). The spec names the functions and not their steps; the steps are those of the published
standards (PRESUMED, log entry 25). A block of 16 bytes is a list of 16 natural numbers below 256.
-/
namespace Sys2Proof.Machine

/-! ### AES-256 -/

/-- Multiplication by x in GF(2^8), polynomial 0x11B. -/
def xtime (a : Nat) : Nat := if a < 128 then 2 * a else (2 * a) ^^^ 0x11B

/-- Multiplication in GF(2^8). -/
def gmul : Nat → Nat → Nat → Nat
  | 0, _, _ => 0
  | fuel + 1, a, b => (if b % 2 = 1 then a else 0) ^^^ gmul fuel (xtime a) (b / 2)

def gf8 (a b : Nat) : Nat := gmul 8 a b

/-- The inverse in GF(2^8): the 254th power. -/
def gf8Inv (a : Nat) : Nat :=
  let a2 := gf8 a a
  let a4 := gf8 a2 a2
  let a8 := gf8 a4 a4
  let a16 := gf8 a8 a8
  let a32 := gf8 a16 a16
  let a64 := gf8 a32 a32
  let a128 := gf8 a64 a64
  gf8 a128 (gf8 a64 (gf8 a32 (gf8 a16 (gf8 a8 (gf8 a4 a2)))))

def rotl8 (a n : Nat) : Nat := (a * 2 ^ n) % 256 + a / 2 ^ (8 - n)

/-- The S-box: inverse, then the affine map. -/
def sboxOf (a : Nat) : Nat :=
  let v := gf8Inv a
  v ^^^ rotl8 v 1 ^^^ rotl8 v 2 ^^^ rotl8 v 3 ^^^ rotl8 v 4 ^^^ 0x63

def sboxTable : List Nat := (List.range 256).map sboxOf
def invSboxTable : List Nat := (List.range 256).map (fun v => (sboxTable.idxOf? v).getD 0)
def sbox (a : Nat) : Nat := sboxTable.getD a 0
def invSbox (a : Nat) : Nat := invSboxTable.getD a 0

def xorList (a b : List Nat) : List Nat := List.zipWith (· ^^^ ·) a b

/-- The round constants, by power of x. -/
def rcon : Nat → Nat
  | 0 => 1
  | n + 1 => xtime (rcon n)

/-- The next eight words of the key schedule from the last eight (each a list of four bytes). -/
def keyStep (n : Nat) (w : List (List Nat)) : List (List Nat) :=
  let last := w.getD 7 []
  let t := match last with
    | [a, b, c, d] => [sbox b ^^^ rcon n, sbox c, sbox d, sbox a]
    | _ => []
  let w0 := xorList (w.getD 0 []) t
  let w1 := xorList (w.getD 1 []) w0
  let w2 := xorList (w.getD 2 []) w1
  let w3 := xorList (w.getD 3 []) w2
  let w4 := xorList (w.getD 4 []) (w3.map sbox)
  let w5 := xorList (w.getD 5 []) w4
  let w6 := xorList (w.getD 6 []) w5
  let w7 := xorList (w.getD 7 []) w6
  [w0, w1, w2, w3, w4, w5, w6, w7]

def keyWords : Nat → Nat → List (List Nat) → List (List Nat)
  | 0, _, _ => []
  | fuel + 1, n, w => w ++ keyWords fuel (n + 1) (keyStep n w)

/-- The fifteen round keys of a 32-byte key. -/
def roundKeys (key : List Nat) : List (List Nat) :=
  (chunks 16 15 ((keyWords 8 0 (chunks 4 8 key)).flatten))

def shiftRows (b : List Nat) : List Nat := (List.range 16).map (fun i => b.getD ((i + 4 * (i % 4)) % 16) 0)
def invShiftRows (b : List Nat) : List Nat := (List.range 16).map (fun i => b.getD ((i + 12 * (i % 4)) % 16) 0)

def mixCol (c : List Nat) : List Nat :=
  match c with
  | [a, b, c, d] =>
    [gf8 a 2 ^^^ gf8 b 3 ^^^ c ^^^ d, a ^^^ gf8 b 2 ^^^ gf8 c 3 ^^^ d, a ^^^ b ^^^ gf8 c 2 ^^^ gf8 d 3,
     gf8 a 3 ^^^ b ^^^ c ^^^ gf8 d 2]
  | _ => []

def invMixCol (c : List Nat) : List Nat :=
  match c with
  | [a, b, c, d] =>
    [gf8 a 14 ^^^ gf8 b 11 ^^^ gf8 c 13 ^^^ gf8 d 9, gf8 a 9 ^^^ gf8 b 14 ^^^ gf8 c 11 ^^^ gf8 d 13,
     gf8 a 13 ^^^ gf8 b 9 ^^^ gf8 c 14 ^^^ gf8 d 11, gf8 a 11 ^^^ gf8 b 13 ^^^ gf8 c 9 ^^^ gf8 d 14]
  | _ => []

def mixColumns (b : List Nat) : List Nat := ((chunks 4 4 b).map mixCol).flatten
def invMixColumns (b : List Nat) : List Nat := ((chunks 4 4 b).map invMixCol).flatten

/-- AES-256 encryption of a block under round keys. -/
def aesRounds : List (List Nat) → List Nat → List Nat
  | [], b => b
  | [k], b => xorList (shiftRows (b.map sbox)) k
  | k :: ks, b => aesRounds ks (xorList (mixColumns (shiftRows (b.map sbox))) k)

def aesEncRk (rk : List (List Nat)) (b : List Nat) : List Nat :=
  match rk with
  | [] => b
  | k :: ks => aesRounds ks (xorList b k)

def aesEnc (key b : List Nat) : List Nat := aesEncRk (roundKeys key) b

/-- AES-256 decryption: the inverse rounds from the last key down. -/
def aesInvRounds : List (List Nat) → List Nat → List Nat
  | [], b => b
  | [k], b => xorList ((invShiftRows b).map invSbox) k
  | k :: ks, b => aesInvRounds ks (invMixColumns (xorList ((invShiftRows b).map invSbox) k))

def aesDecRk (rk : List (List Nat)) (b : List Nat) : List Nat :=
  match rk.reverse with
  | [] => b
  | k :: ks => aesInvRounds ks (xorList b k)

def aesDec (key b : List Nat) : List Nat := aesDecRk (roundKeys key) b

/-! ### GCM (R118) -/

/-- A number as `n` bytes, most significant first. -/
def beBytes (n v : Nat) : List Nat := (List.range n).map (fun i => v / 256 ^ (n - 1 - i) % 256)
/-- Bytes as a number, most significant first. -/
def beNat (l : List Nat) : Nat := l.foldl (fun acc b => acc * 256 + b) 0

/-- Multiplication in the field of GHASH; bit 0 of the standard is the top bit of the number. -/
def gcmMul : Nat → Nat → Nat → Nat → Nat
  | 0, z, _, _ => z
  | fuel + 1, z, v, x =>
    let z := if x / 2 ^ fuel % 2 = 1 then z ^^^ v else z
    gcmMul fuel z (if v % 2 = 1 then (v / 2) ^^^ (0xE1 * 2 ^ 120) else v / 2) x

/-- Zero bytes to a whole number of blocks. -/
def padBlock (l : List Nat) : List Nat := l ++ List.replicate ((16 - l.length % 16) % 16) 0

def ghash (h : Nat) (l : List Nat) : Nat :=
  (chunks 16 (l.length / 16 + 1) l).foldl (fun y b => gcmMul 128 0 h (y ^^^ beNat b)) 0

/-- The GCM tag of ciphertext `c` with additional data `aad`, under `key` and a 12-byte IV. -/
def gcmTag (key iv aad c : List Nat) : List Nat :=
  let rk := roundKeys key
  let h := beNat (aesEncRk rk (List.replicate 16 0))
  let s := ghash h (padBlock aad ++ padBlock c ++ beBytes 8 (8 * aad.length) ++ beBytes 8 (8 * c.length))
  beBytes 16 (s ^^^ beNat (aesEncRk rk (iv ++ beBytes 4 1)))

/-- The GCM key stream of bytes `off` to `off + len - 1`. -/
def gcmStream (key iv : List Nat) (off len : Nat) : List Nat :=
  if len = 0 then []
  else
    let rk := roundKeys key
    (((List.range ((off + len - 1) / 16 - off / 16 + 1)).map (fun j => aesEncRk rk (iv ++ beBytes 4 (off / 16 + j + 2)))).flatten.drop
      (off % 16)).take len

/-! ### SHA-384 (R35, R116) -/

/-- The integer `k`-th root of `v` below `2 ^ bits`, by bits. -/
def rootBits (k : Nat) : Nat → Nat → Nat → Nat
  | 0, _, r => r
  | b + 1, v, r => rootBits k b v (if (r + 2 ^ b) ^ k ≤ v then r + 2 ^ b else r)

def isPrime (n : Nat) : Bool := decide (2 ≤ n) && (List.range n).all (fun d => d < 2 || n % d != 0)
/-- The first 80 primes. -/
def primes80 : List Nat := (List.range 410).filter isPrime

/-- The first 64 bits of the fractional parts of the cube roots of the first 80 primes. -/
def shaK : List Nat := primes80.map (fun p => rootBits 3 68 (p * 2 ^ 192) 0 % 2 ^ 64)
/-- The initial hash value of SHA-384: the square roots of the ninth to sixteenth primes. -/
def shaInit : List Nat := ((primes80.drop 8).take 8).map (fun p => rootBits 2 68 (p * 2 ^ 128) 0 % 2 ^ 64)

def rotr64 (v n : Nat) : Nat := v / 2 ^ n + v % 2 ^ n * 2 ^ (64 - n)

/-- One more word of the message schedule, from the last sixteen, oldest first. -/
def shaNextW (w : List Nat) : Nat :=
  let a := w.getD 1 0
  let b := w.getD 14 0
  let s0 := rotr64 a 1 ^^^ rotr64 a 8 ^^^ a / 2 ^ 7
  let s1 := rotr64 b 19 ^^^ rotr64 b 61 ^^^ b / 2 ^ 6
  (w.getD 0 0 + s0 + w.getD 9 0 + s1) % 2 ^ 64

/-- The rounds of one block: the constants that are left, the last sixteen schedule words, and the working variables. -/
def shaRounds : List Nat → List Nat → List Nat → List Nat
  | [], _, h => h
  | k :: ks, w, h =>
    match h with
    | [a, b, c, d, e, f, g, hh] =>
      let s1 := rotr64 e 14 ^^^ rotr64 e 18 ^^^ rotr64 e 41
      let ch := (e &&& f) ^^^ ((2 ^ 64 - 1 - e) &&& g)
      let t1 := hh + s1 + ch + k + w.getD 0 0
      let s0 := rotr64 a 28 ^^^ rotr64 a 34 ^^^ rotr64 a 39
      let mj := (a &&& b) ^^^ (a &&& c) ^^^ (b &&& c)
      shaRounds ks (w.tail ++ [shaNextW w]) [(t1 + s0 + mj) % 2 ^ 64, a, b, c, (d + t1) % 2 ^ 64, e, f, g]
    | _ => h

def shaBlock (h : List Nat) (block : List Nat) : List Nat :=
  List.zipWith (fun a b => (a + b) % 2 ^ 64) h (shaRounds shaK ((chunks 8 16 block).map beNat) h)

/-- SHA-384 of a run of bytes. -/
def sha384 (m : List Nat) : List Nat :=
  let z := (240 - (m.length + 1) % 128) % 128
  let p := m ++ 0x80 :: List.replicate z 0 ++ beBytes 16 (8 * m.length)
  (((chunks 128 (p.length / 128) p).foldl shaBlock shaInit).take 6).flatMap (beBytes 8)

/-! ### ECDSA on P-384 (R116, R117) -/

def p384 : Nat := 2 ^ 384 - 2 ^ 128 - 2 ^ 96 + 2 ^ 32 - 1
def n384 : Nat := 0xffffffffffffffffffffffffffffffffffffffffffffffffc7634d81f4372ddf581a0db248b0a77aecec196accc52973
def b384 : Nat := 0xb3312fa7e23ee7e4988e056be3f82d19181d9c6efe8141120314088f5013875ac656398d8a2ed19d2a85c8edd3ec2aef
def g384 : Nat × Nat :=
  (0xaa87ca22be8b05378eb1c71ef320ad746e1d3b628ba79b9859f741e082542a385502f25dbf55296c3a545e3872760ab7,
   0x3617de4a96262c6f5d9e98bf9292dc29f8f41dbd289a147ce9da3113b5f0b8c00a60b1ce1d7e819d7a431d7c90ea0e5f)

/-- `b ^ e` modulo `m`, over the low bits of `e`. -/
def powMod : Nat → Nat → Nat → Nat → Nat
  | 0, _, _, _ => 1
  | fuel + 1, m, b, e => (if e % 2 = 1 then b else 1) * powMod fuel m (b * b % m) (e / 2) % m

/-- The inverse modulo a prime below 2^384. -/
def invMod (m a : Nat) : Nat := powMod 384 m (a % m) (m - 2)

def subMod (m a b : Nat) : Nat := (a + (m - b % m)) % m

/-- The sum of two points of the curve; none is the point at infinity. -/
def ecAdd : Option (Nat × Nat) → Option (Nat × Nat) → Option (Nat × Nat)
  | none, q => q
  | p, none => p
  | some (x1, y1), some (x2, y2) =>
    if x1 = x2 ∧ (y1 + y2) % p384 = 0 then none
    else
      let l := if x1 = x2 then subMod p384 (3 * x1 * x1 % p384) 3 * invMod p384 (2 * y1) % p384
        else subMod p384 y2 y1 * invMod p384 (subMod p384 x2 x1) % p384
      let x3 := subMod p384 (l * l % p384) ((x1 + x2) % p384)
      some (x3, subMod p384 (l * subMod p384 x1 x3 % p384) y1)

/-- A multiple of a point. -/
def ecMul : Nat → Nat → Option (Nat × Nat) → Option (Nat × Nat)
  | 0, _, _ => none
  | fuel + 1, k, p => ecAdd (if k % 2 = 1 then p else none) (ecMul fuel (k / 2) (ecAdd p p))

/-- Whether a point lies on the curve. -/
def onCurve (x y : Nat) : Bool :=
  decide (x < p384) && decide (y < p384) && y * y % p384 == subMod p384 ((x * x * x + b384) % p384) (3 * x % p384)

/-- ECDSA verification of (r, s) over a hash of 48 bytes under the public key (x, y). -/
def ecdsaOk (hash : List Nat) (x y r s : Nat) : Bool :=
  onCurve x y && decide (0 < r ∧ r < n384 ∧ 0 < s ∧ s < n384) &&
  (let w := invMod n384 s
   match ecAdd (ecMul 384 (beNat hash * w % n384) (some g384)) (ecMul 384 (r * w % n384) (some (x, y))) with
   | some (px, _) => px % n384 == r
   | none => false)

/-! ### CMAC (R345) and XTS (R343) -/

/-- Doubling in GF(2^128), most significant bit first (CMAC). -/
def cmacDouble (v : Nat) : Nat := if v < 2 ^ 127 then 2 * v else (2 * v) % 2 ^ 128 ^^^ 0x87

/-- AES-256 CMAC of a run of bytes: 16 bytes. -/
def cmac (key m : List Nat) : List Nat :=
  let rk := roundKeys key
  let k1 := cmacDouble (beNat (aesEncRk rk (List.replicate 16 0)))
  let n := if m.isEmpty then 1 else (m.length + 15) / 16
  let head := (chunks 16 (n - 1) m)
  let last := m.drop (16 * (n - 1))
  let lastB := if last.length = 16 then beNat last ^^^ k1
    else beNat (padBlock (last ++ [0x80])) ^^^ cmacDouble k1
  let x := head.foldl (fun x b => beNat (aesEncRk rk (beBytes 16 (x ^^^ beNat b)))) 0
  aesEncRk rk (beBytes 16 (x ^^^ lastB))

/-- A block as a number, least significant byte first. -/
def leNat (l : List Nat) : Nat := l.reverse.foldl (fun acc b => acc * 256 + b) 0
def leBytes : Nat → Nat → List Nat
  | 0, _ => []
  | n + 1, v => v % 256 :: leBytes n (v / 256)

/-- Doubling of an XTS tweak. -/
def xtsDouble (v : Nat) : Nat := if v < 2 ^ 127 then 2 * v else (2 * v) % 2 ^ 128 ^^^ 0x87

/-- The blocks of a data unit, from the tweak of the first on; `f` is the block cipher or its inverse. -/
def xtsBlocks (f : List Nat → List Nat) : Nat → List (List Nat) → List (List Nat)
  | _, [] => []
  | t, b :: bs => xorList (f (xorList b (leBytes 16 t))) (leBytes 16 t) :: xtsBlocks f (xtsDouble t) bs

/-- XTS-AES-256 of a data unit of whole blocks, encrypting or decrypting. -/
def xts (enc : Bool) (dataKey tweakKey : List Nat) (unit : Nat) (m : List Nat) : List Nat :=
  let t := leNat (aesEnc tweakKey (leBytes 16 unit))
  let rk := roundKeys dataKey
  (xtsBlocks (if enc then aesEncRk rk else aesDecRk rk) t (chunks 16 (m.length / 16) m)).flatten

end Sys2Proof.Machine
end

