-- ==== Sys2Proof/Machine/ScratchOps.lean ====
section
/-!
DEFINITION. Owner codes and handover states (R237, R239), and what passes with time alone at the scratch banks (R241–R243): a drain ends, and a
handover completes.
-/
namespace Sys2Proof.Machine

/-! ### Owner codes (R237) -/

def ownUnowned : Nat := 0x00
def ownHost : Nat := 0x01
/-- An initiator that has no code (SCR_OWNLOG.IDENT). -/
def ownNone : Nat := 0x02
def ownEngine (n : Nat) : Nat := 0x40 + n
def ownRegion (r : Nat) : Nat := 0x80 + r
def ownDma (d : Nat) : Nat := 0x10 + d

/-- The owner code of an initiator. -/
def ownerCode (src : Nat) : Nat :=
  if src < 0x40 then ownEngine src
  else if src < 0xC0 then ownRegion (src - 0x40)
  else if src = 0xC0 then ownHost
  else if 0xD0 ≤ src ∧ src < 0xE0 then ownDma (src - 0xD0)
  else ownNone

/-! ### Handover states (R239, R250) -/

def hoDone : Nat := 0x0
def hoNotOwner : Nat := 0x1
def hoBusy : Nat := 0x2
def hoBadOwner : Nat := 0x3
def hoConflict : Nat := 0x4
def hoInUse : Nat := 0x5
def hoTimeout : Nat := 0x6
def hoInProgress : Nat := 0x7
def hoNoBank : Nat := 0x8

def scrSettled : Nat := 0
def scrDraining : Nat := 1
def scrClearing : Nat := 2

def State.owner (s : State) (b : Nat) : Nat := s.fld (Reg.SCR_OWN b) Fld.SCR_OWN_OWNER
def State.scrState (s : State) (b : Nat) : Nat := s.fld (Reg.SCR_OWN b) Fld.SCR_OWN_STATE
def State.setScrState (s : State) (b v : Nat) : State := s.setFld (Reg.SCR_OWN b) Fld.SCR_OWN_STATE v
def State.setLast (s : State) (b v : Nat) : State := s.setFld (Reg.SCR_OWN b) Fld.SCR_OWN_LAST v

/-- An engine's xq.sacq or xq.srel with the edge `h` ends with `status`, known at the sc edge `e`: it retires at the first nc edge after `e` + 1 sc
(R222, R243). An engine that has been reset no longer waits for it (R231). -/
def State.endScrWait (s : State) (eng : Option Nat) (h e status : Nat) : State :=
  match eng with
  | none => s
  | some n =>
    match (s.engine n).busy with
    | .scratch rd k => if k ≠ h then s else s.mapEngine n (fun g => { g with busy := .due (ncAfter (e + scLen)) rd (BitVec.ofNat 32 status) false })
    | _ => s

/-! ### What waits at a bank -/

def State.waitAt (s : State) (b : Nat) : List ScrWait := tget (fun _ => []) s.scr.wait b
def State.setWait (s : State) (b : Nat) (l : List ScrWait) : State :=
  { s with scr := { s.scr with wait := tput (fun _ => []) s.scr.wait b l } }
def State.portAt (s : State) (b p : Nat) : Option ScrWait := tfind s.scr.port (2 * b + p)

/-- The ports of bank `b` look at what waits, once every request of the nc edge `e` has reached it. -/
def State.scrWake (s : State) (b e : Nat) : State :=
  if s.agenda.any (fun a => a.2 == .scratchEdge b) then s else s.later (e + 1) (.scratchEdge b)

/-- The nc edge of now, or the next. -/
def State.ncEdge (s : State) : Nat := (s.now + ncLen - 1) / ncLen * ncLen

/-- Parts wait at bank `b`, behind those that have reached it before. -/
def State.scrJoin (s : State) (b : Nat) (l : List ScrWait) : State :=
  if l.isEmpty then s else (s.setWait b (s.waitAt b ++ l)).scrWake b s.ncEdge

/-- The edge D of a handover of bank `b`: what has been held is served before all that comes later (R243, R244). -/
def State.completeHandover (s : State) (b new h d : Nat) (eng : Option Nat) : State :=
  let held := tget (fun _ => []) s.scr.held b
  let s := { s with scr := { s.scr with hov := tdel s.scr.hov b, held := tdel s.scr.held b } }
  let s := s.setReg (Reg.SCR_OWN b) (BitVec.ofNat 32 new)
  let s := (s.setReg (Reg.SCR_CFG b) 0).endScrWait eng h d hoDone
  s.scrJoin b (held.map (fun x => ⟨x.1, x.2, 0, 0, [], false⟩))

/-- A drain of bank `b` that has ended: the handover completes, or the clear begins (R241). -/
def State.drainEnd (s : State) (b : Nat) : State :=
  match tfind s.scr.hov b with
  | none => s
  | some h =>
    match h.drained with
    | none => s
    | some d =>
      if s.now < d ∨ h.clearAt.isSome then s
      else if h.clear then
        ({ s with scr := { s.scr with hov := tins s.scr.hov b { h with clearAt := some d } } }).setScrState b scrClearing
      else s.completeHandover b h.new h.h d h.eng

end Sys2Proof.Machine
end

