-- ==== Sys2Proof/Machine/TallyOps.lean ====
section
/-!
DEFINITION. The operations of the tally scheduler and of speculation (chapters 05 and 06): records and handles, templates,
ingress queues, the order of candidates, placement, loss, squash, and the task port's inputs.
-/
namespace Sys2Proof.Machine

/-! ### Records (R146–R150) -/

def recZero : TallyRec :=
  ⟨0, 0, 0, 0, 0, 0, 0, false, 0, false, 0, 0, 0, 0, 0, 0, 0, false, false, 0, false, 0, 0, 0⟩

def State.trec (s : State) (i : Nat) : TallyRec := tget (fun _ => recZero) s.sch.recs i
def State.setRec (s : State) (i : Nat) (x : TallyRec) : State :=
  { s with sch := { s.sch with recs := tput (fun _ => recZero) s.sch.recs i x } }
def State.mapRec (s : State) (i : Nat) (f : TallyRec → TallyRec) : State := s.setRec i (f (s.trec i))

/-- Record states (R150). -/
def tsFree : Nat := 0
def tsWaiting : Nat := 1
def tsReady : Nat := 2
def tsRunning : Nat := 3
def tsSuspended : Nat := 4
def tsXfer : Nat := 5
def tsSpilled : Nat := 6
def tsSpec : Nat := 7

/-- The handle of record `i` in generation `g` (R146). -/
def mkHandle (i g : Nat) : Nat := i * 256 + g % 256
def handleIdx (h : Nat) : Nat := h / 256 % 2 ^ 20
def handleGen (h : Nat) : Nat := h % 256
def State.handleOf (s : State) (i : Nat) : Nat := mkHandle i (s.trec i).gen

/-- A handle is current while its generation equals its record's and the record is not FREE (R147). -/
def State.current (s : State) (h : Nat) : Bool :=
  (s.trec (handleIdx h)).gen == handleGen h && (s.trec (handleIdx h)).state != tsFree

def State.storeReady (s : State) : Bool := s.bit Reg.TALLY_STATUS Fld.TALLY_STATUS_STORE_READY

/-- Operand slot `k` of a record. -/
def TallyRec.op (x : TallyRec) (k : Nat) : Word64 :=
  match k with
  | 0 => x.op0
  | 1 => x.op1
  | 2 => x.op2
  | _ => x.op3

/-- A value and its poison bit fill slot `k`. -/
def TallyRec.fill (x : TallyRec) (k : Nat) (v : Word64) (psn : Bool) : TallyRec :=
  let x := { x with full := x.full ||| 2 ^ k, poison := if psn then x.poison ||| 2 ^ k else x.poison }
  match k with
  | 0 => { x with op0 := v }
  | 1 => { x with op1 := v }
  | 2 => { x with op2 := v }
  | _ => { x with op3 := v }

/-- The operands of a record, and its poison mask. -/
def TallyRec.ops (x : TallyRec) : List Word64 := [x.op0, x.op1, x.op2, x.op3]

/-! ### Templates (R151–R153, R179) -/

def State.tEn (s : State) (t : Nat) : Bool := s.bit (Reg.TALLY_TMPL_CTL t) Fld.TALLY_TMPL_CTL_EN
def State.tKindEngine (s : State) (t : Nat) : Bool := s.bit (Reg.TALLY_TMPL_CTL t) Fld.TALLY_TMPL_CTL_KIND
def State.tPreempt (s : State) (t : Nat) : Bool := s.bit (Reg.TALLY_TMPL_CTL t) Fld.TALLY_TMPL_CTL_PREEMPT
def State.tSpec (s : State) (t : Nat) : Bool := s.bit (Reg.TALLY_TMPL_CTL t) Fld.TALLY_TMPL_CTL_SPEC
def State.tFixed (s : State) (t : Nat) : Bool := s.fld (Reg.TALLY_TMPL_CTL t) Fld.TALLY_TMPL_CTL_BANK_MODE == 1
def State.tNops (s : State) (t : Nat) : Nat := s.fld (Reg.TALLY_TMPL_CTL t) Fld.TALLY_TMPL_CTL_NOPS
def State.tBank (s : State) (t : Nat) : Nat := s.fld (Reg.TALLY_TMPL_CTL t) Fld.TALLY_TMPL_CTL_BANK
def State.tPlane (s : State) (t : Nat) : Nat := s.fld (Reg.TALLY_TMPL_CTL t) Fld.TALLY_TMPL_CTL_PLANE
def State.tSpecCtl (s : State) (t : Nat) : Nat := s.fld (Reg.TALLY_TMPL_CTL t) Fld.TALLY_TMPL_CTL_SPEC_CTL
def specMode (c : Nat) : Nat := c / 64
def specSlotOf (c : Nat) : Nat := c / 16 % 4
def specWindow (c : Nat) : Nat := c % 16
/-- TARGETS bit `u` of template `t`. -/
def State.tTarget (s : State) (t u : Nat) : Bool := (s.reg (Reg.TALLY_TMPL_TARGETS t (u / 32))).getLsbD (u % 32)
def State.tTargets (s : State) (t : Nat) : Nat :=
  (List.range 4).foldl (fun acc w => acc + (s.reg (Reg.TALLY_TMPL_TARGETS t w)).toNat * 2 ^ (32 * w)) 0
def State.tSpecValue (s : State) (t : Nat) : Word64 :=
  s.reg (Reg.TALLY_TMPL_SPEC t 1) ++ s.reg (Reg.TALLY_TMPL_SPEC t 0)

/-- The templates with EN = 1. -/
def State.enabledTemplates (s : State) : List Nat :=
  s.regs.filterMap (fun p =>
    if 0x140000 ≤ p.1 ∧ p.1 < 0x160000 ∧ (p.1 - 0x140000) % 32 = 0 ∧ fieldGet p.2 Fld.TALLY_TMPL_CTL_EN = 1
    then some ((p.1 - 0x140000) / 32) else none)

/-- A bank named by an enabled FIXED template is reserved in every region that the template makes eligible (R153). -/
def State.reserved (s : State) (r b : Nat) : Bool :=
  s.enabledTemplates.any (fun t => s.tFixed t && s.tBank t == b && s.tTarget t r)

/-- LOCKED of a template: EN = 1, or a tally of it is not FREE (R151). -/
def State.tLocked (s : State) (t : Nat) : Bool :=
  s.tEn t || s.sch.recs.any (fun p => p.2.state != tsFree && p.2.template == t)

/-- LIVE: the records that are not FREE (R178). -/
def State.liveCount (s : State) : Nat := (s.sch.recs.filter (fun p => p.2.state != tsFree)).length

/-! ### Region side -/

def SchRegion.idle : SchRegion :=
  ⟨none, 0, none, none, 0, 0, [], 0, false, none, false, none, none, none, [], false, [], [], [], none, none⟩

def State.sreg (s : State) (r : Nat) : SchRegion := tget (fun _ => SchRegion.idle) s.sch.region r
def State.setSreg (s : State) (r : Nat) (x : SchRegion) : State :=
  { s with sch := { s.sch with region := tput (fun _ => SchRegion.idle) s.sch.region r x } }
def State.mapSreg (s : State) (r : Nat) (f : SchRegion → SchRegion) : State := s.setSreg r (f (s.sreg r))

/-- Whether TP_SPEC of a region is high (R186). -/
def State.tpSpec (s : State) (r : Nat) : Bool := (s.sreg r).tpSpec

/-- The record in state `st` placed in region `r`. -/
def State.placedIn (s : State) (r st : Nat) : Option Nat :=
  (s.sch.recs.find? (fun p => p.2.state == st && p.2.placed && !p.2.engine && p.2.unit == r)).map (·.1)
def State.runningIn (s : State) (r : Nat) : Option Nat := s.placedIn r tsRunning
def State.specIn (s : State) (r : Nat) : Option Nat := s.placedIn r tsSpec

/-- Whether bank `b` of region `r` holds the state of a tally (R178 TALLY_REGION.HELD). -/
def State.bankHeld (s : State) (r b : Nat) : Bool :=
  s.sch.recs.any (fun p => p.2.placed && !p.2.engine && p.2.unit == r && p.2.bank == b &&
    (p.2.state == tsRunning || p.2.state == tsSuspended || p.2.state == tsXfer || p.2.state == tsSpec))

/-! ### Freeing, faults and refusals -/

def faultLost : Nat := 0
def faultSpill : Nat := 1
def faultRestore : Nat := 2

/-- TALLY_FAULT_LOG and its interrupt bit (R178). The spec ranks faults of one edge nowhere: the log keeps the one that the model comes
to first, by bank and then by record (DESIGN CHOICE: log entry 85). -/
def State.logFault (s : State) (reason region handle : Nat) : State :=
  s.logEvent Reg.TALLY_FAULT_LOG s.now 0 (BitVec.ofNat 32 (reason * 2 ^ 7 + region))
    [(Reg.TALLY_FAULT_HANDLE, BitVec.ofNat 32 handle)] (some (Reg.TALLY_INT_STATUS, Fld.TALLY_INT_STATUS_FAULT))

def refStale : Nat := 0
def refSlot : Nat := 1
def refDup : Nat := 2

/-- A refused token is counted and logged (R157). -/
def State.refuseToken (s : State) (code src : Nat) (k : Token) : State :=
  let s := s.bumpWrap Reg.TALLY_CNT_REFUSED Fld.TALLY_CNT_REFUSED_COUNT 1
  s.logSc Reg.TALLY_REFLOG src (BitVec.ofNat 32 (code * 2 ^ 10 + src))
    [(Reg.TALLY_REFLOG_HANDLE, BitVec.ofNat 32 (k.slot * 2 ^ 30 + k.handle))] (some (Reg.TALLY_INT_STATUS, Fld.TALLY_INT_STATUS_REFUSED))

/-- A token that fills a slot of record `i` at this edge or later, while the record is freed: it does not fill the slot and is refused STALE
(R157). -/
def State.unfill (s : State) (i : Nat) : State :=
  let hit := s.sch.fills.filter (fun f => f.1 == i && decide (s.scNow ≤ f.2.1))
  let s := { s with sch := { s.sch with fills := s.sch.fills.filter (fun f => !(f.1 == i)) } }
  hit.foldl (fun s f =>
    let k := f.2.2.2
    let x := (s.trec i).fill k.slot 0 false
    let s := if f.2.1 = s.scNow then
        s.setRec i { x with full := x.full - 2 ^ k.slot, poison := x.poison &&& (15 ^^^ 2 ^ k.slot) } else s
    s.refuseToken refStale f.2.2.1 k) s

/-- Every record that a taken token was to fill is about to be freed. -/
def State.unfillAll (s : State) : State := (s.sch.fills.map (·.1)).foldl (fun s i => s.unfill i) s

/-- Whether every slot that the template asks for is full. -/
def State.recFull (s : State) (x : TallyRec) : Bool := (List.range (s.tNops x.template + 1)).all (fun k => x.full.testBit k)

/-- The tokens taken an sc ago fill their slots; a record whose last empty slot is filled becomes READY, and a speculative one is resolved at the
same edge (R157, R190). What has filled a slot is kept until the edge is over. -/
def State.fillSlots (s : State) : State :=
  let due := s.sch.fills.filter (fun f => f.2.1 == s.scNow)
  let s := { s with sch := { s.sch with fills := s.sch.fills.filter (fun f => decide (s.scNow ≤ f.2.1)) } }
  due.foldl (fun s f =>
    let k := f.2.2.2
    let x := (s.trec f.1).fill k.slot k.value k.poison
    let s := s.setRec f.1 { x with fillAt := s.scNow, state := if x.state = tsWaiting ∧ s.recFull x then tsReady else x.state }
    if x.state = tsSpec ∧ k.slot = x.specSlot then s.later (s.scNow * scLen + 1) .resolveSpecs else s) s

/-- The slice that holds the line of record `i` (R317), and whether its records are lost for good (R332): no such index is issued. -/
def recSlice (i : Nat) : Nat := fold6 (0xC0000 + i / 4)
def State.indexDead (s : State) (i : Nat) : Bool := s.cache.dead.contains (recSlice i)

/-- The lowest index never issued that may be. -/
def State.nextLive (s : State) : Option Nat :=
  (List.range 512).findSome? (fun k => if s.sch.next + k < 2 ^ 20 ∧ !s.indexDead (s.sch.next + k) then some (s.sch.next + k) else none)

/-- A record is freed: its generation increases, and its index goes on top of the free list (R147–R149). -/
def State.freeRec (s : State) (i : Nat) : State :=
  if (s.trec i).state = tsFree then s
  else
    let s := s.unfill i
    let x := s.trec i
    let s := s.setRec i { x with state := tsFree, gen := (x.gen + 1) % 256 }
    if s.indexDead i then s else { s with sch := { s.sch with free := i :: s.sch.free } }

/-- A spill slot of a region is given back. -/
def State.releaseSlot (s : State) (r slot : Nat) : State :=
  s.mapSreg r (fun x => { x with slots := x.slots.filter (fun p => p.1 != slot) })

/-! ### Ingress queues (R155, R156) -/

def queueMax : Nat := 64
def State.tokens (s : State) (src : Nat) : List Token := tget (fun _ => []) s.sch.queue src
def State.setTokens (s : State) (src : Nat) (l : List Token) : State :=
  { s with sch := { s.sch with queue := tput (fun _ => []) s.sch.queue src l } }
def State.queueFull (s : State) (src : Nat) : Bool := decide (queueMax ≤ (s.tokens src).length)
def State.pushToken (s : State) (src : Nat) (k : Token) : State := s.setTokens src (s.tokens src ++ [k])

/-- An event source posts its token: into the queue, or as its one pending token; an event that finds its token still pending
is dropped and counted (R156). `ev` numbers the event source within the ingress source. -/
def State.postEvent (s : State) (src ev : Nat) (k : Token) : State :=
  if (tfind s.sch.pend (src * 64 + ev)).isSome then s.bumpWrap Reg.TALLY_CNT_DROP Fld.TALLY_CNT_DROP_COUNT 1
  else if s.queueFull src then { s with sch := { s.sch with pend := tins s.sch.pend (src * 64 + ev) k } }
  else s.pushToken src k

/-- When a queue has room, a pending event of its source enters it (R156), the lowest of several (DESIGN CHOICE: log entry 85). -/
def State.pullEvent (s : State) (src : Nat) : State :=
  if s.queueFull src then s
  else match s.sch.pend.find? (fun p => p.1 / 64 == src) with
    | some (key, k) => ({ s with sch := { s.sch with pend := tdel s.sch.pend key } }).pushToken src k
    | none => s

/-! ### Poison consumption (R300–R302, R196) -/

def consEngine : Nat := 0
def consRegion : Nat := 1
def consHost : Nat := 2

/-- A consumption is counted for its kind and logged, ranked engine, region, host, then by number (R302). -/
def State.consume (s : State) (kind path bank id : Nat) : State :=
  let s := if kind = consEngine then s.bump Reg.DEV_PSN_CNT_ENG Fld.DEV_PSN_CNT_ENG_COUNT 1
    else if kind = consRegion then s.bump Reg.DEV_PSN_CNT_FAB Fld.DEV_PSN_CNT_FAB_COUNT 1
    else s.bump Reg.DEV_PSN_CNT_HOST Fld.DEV_PSN_CNT_HOST_COUNT 1
  s.logSc Reg.DEV_PSN_LOG (kind * 128 + id)
    (BitVec.ofNat 32 (kind * 2 ^ 12 + path * 2 ^ 10 + bank * 2 ^ 8 + id)) [] none

/-- A region's consumption: reported, or recorded while TP_SPEC is high (R196). PATH: 0 NoC response, 1 deck RAM, 2 task port. -/
def State.regionConsume (s : State) (r path : Nat) : State :=
  if s.tpSpec r then s.mapSreg r (fun x => { x with withheld := x.withheld ++ [path] })
  else s.consume consRegion path (s.bankPtr r) r

/-! ### Order of candidates (R163) -/

/-- Deadline d1 is earlier than d2. -/
def earlier (d1 d2 : Nat) : Bool :=
  let d := (d2 + 2 ^ 48 - d1 % 2 ^ 48) % 2 ^ 48
  decide (1 ≤ d ∧ d ≤ 2 ^ 47 - 1)

/-- Candidate (i, x) comes before candidate (j, y): earlier deadline, lower template, lower index. -/
def candBefore (a b : Nat × TallyRec) : Bool :=
  if earlier a.2.deadline b.2.deadline then true
  else if earlier b.2.deadline a.2.deadline then false
  else if a.2.template ≠ b.2.template then decide (a.2.template < b.2.template)
  else decide (a.1 < b.1)

def candInsert (a : Nat × TallyRec) : List (Nat × TallyRec) → List (Nat × TallyRec)
  | [] => [a]
  | b :: t => if candBefore a b then a :: b :: t else b :: candInsert a t

def candSort (l : List (Nat × TallyRec)) : List (Nat × TallyRec) := l.foldl (fun acc a => candInsert a acc) []

/-- A READY, SUSPENDED or SPILLED tally that became so at an earlier edge, and is not held for a region (R164, R170). -/
def State.isCandidate (s : State) (p : Nat × TallyRec) : Bool :=
  (p.2.state == tsReady && decide (p.2.fillAt < s.scNow) && !s.sch.region.any (fun q => q.2.waiting == some p.1)) ||
  p.2.state == tsSuspended || p.2.state == tsSpilled

/-- A speculative candidate (R181). -/
def State.isSpecCandidate (s : State) (p : Nat × TallyRec) : Bool :=
  let x := p.2
  x.state == tsWaiting && s.tSpec x.template && decide (x.fillAt < s.scNow) && !x.nospec &&
  s.bit Reg.TALLY_SPEC_CTL Fld.TALLY_SPEC_CTL_EN && !x.full.testBit x.specSlot &&
  (List.range (s.tNops x.template + 1)).all (fun k => k == x.specSlot || x.full.testBit k)

/-! ### Placement (R165, R170, R184, R199) -/

/-- What a decision takes as its target. -/
inductive SchTarget where
  | region (r : Nat)
  | engine (n : Nat)
  deriving DecidableEq, Repr

/-- The conditions of step 1 of R165 on the region alone, and that no decision for it is under way (R164). -/
def State.regionOpen (s : State) (r : Nat) : Bool :=
  s.scheduled r && s.domState r == dsOn &&
  (s.running r || (s.rstate r == rsIsolated && !s.stale r)) &&
  !s.bit (Reg.TALLY_REGION r) Fld.TALLY_REGION_QUIESCE &&
  decide ((s.sreg r).busyUntil ≤ s.now) && (s.sreg r).disp.isNone && (s.sreg r).squash.isNone

/-- The bank that a new tally of template `t` would take in region `r` (step 1 of R165, R153). `ex` is a bank that counts as
holding no tally state: a displaced speculative tally's (R199). -/
def State.bankFor (s : State) (r t : Nat) (ex : Option Nat) : Option Nat :=
  let free (b : Nat) : Bool := !s.bankHeld r b || ex == some b
  if s.tFixed t then (if free (s.tBank t) then some (s.tBank t) else none)
  else (List.range 4).find? (fun b => free b && !s.reserved r b)

/-- The bank that candidate `x` would run in: a suspended tally has its own. -/
def State.bankOf (s : State) (r : Nat) (x : TallyRec) (ex : Option Nat) : Option Nat :=
  if x.state = tsSuspended then some x.bank else s.bankFor r x.template ex

/-- Whether region `r` may take the candidate at all: eligible, or for a suspended or spilled tally its own region. -/
def State.mayRun (s : State) (r : Nat) (x : TallyRec) : Bool :=
  if x.state = tsSuspended ∨ x.state = tsSpilled then x.unit == r else s.tTarget x.template r

/-- INIT of the dispatch: 1 for a FRESH new tally (R166). -/
def State.initFor (s : State) (x : TallyRec) : Bool := x.state != tsSuspended && !s.tFixed x.template

/-- The decision: the record becomes RUNNING, or SPECULATIVE, at Q, its PLACE is written, and the dispatch sets out for the
beam (R166, R185). -/
def State.decide_ (s : State) (r i b : Nat) (spec : Bool) (victim : Option Nat) : State :=
  let x := s.trec i
  let d : Dispatch := ⟨s.now, i, s.tPlane x.template, b, spec || s.initFor x, x.state == tsSuspended, spec, victim, false⟩
  let s := s.setRec i { x with
    state := if spec then tsSpec else tsRunning, unit := r, engine := false, bank := b,
    placed := true, specE1 := if spec then (s.tallyNow + 2) % 2 ^ 48 else x.specE1 }
  let s := s.mapSreg r (fun y => { y with disp := some d, busyUntil := s.now / scLen * scLen + 2 * scLen })
  s.bumpWrap Reg.TALLY_CNT_DISPATCH Fld.TALLY_CNT_DISPATCH_COUNT 1

/-- Preemption: the running tally becomes SUSPENDED at Q; it stays bound until the E0 of the switch (R168). -/
def State.suspend (s : State) (r j : Nat) : State :=
  let s := s.mapRec j (fun x => { x with state := tsSuspended })
  let s := s.mapSreg r (fun y => { y with leaving := some (j, s.now / scLen * scLen + scLen + fcLen) })
  s.bumpWrap Reg.TALLY_CNT_PREEMPT Fld.TALLY_CNT_PREEMPT_COUNT 1

/-- Squash bookkeeping of the record and the registers (R198). A record whose last slot has been filled is READY. -/
def State.squashRec (s : State) (r i reason newState : Nat) : State :=
  let s := s.mapRec i (fun x => { x with
    state := if newState = tsWaiting ∧ s.recFull x then tsReady else newState, nospec := true, squashed := true, lastReason := reason,
    squashes := min (x.squashes + 1) 255 })
  let s := s.bumpWrap (Reg.TALLY_SPEC_CNT_SQUASH r) Fld.TALLY_SPEC_CNT_SQUASH_COUNT 1
  s.logSc Reg.TALLY_SPEC_LOG r (BitVec.ofNat 32 (reason * 2 ^ 8 + r)) [] none

def sqMismatch : Nat := 0
def sqPoisoned : Nat := 1
def sqWindow : Nat := 2
def sqDisplaced : Nat := 3
def sqCancel : Nat := 4
def sqLoss : Nat := 5
def sqQuiesce : Nat := 6

/-- The squash request that the scheduler sends to the region at Z = `z`: it takes effect at E0, the later of Z + 1 sc + 1 fc and the
E1 of the dispatch; no decision before its E1 (R198). -/
def State.sendSquash (s : State) (r reason z : Nat) : State :=
  let e1 := match (s.sreg r).disp with
    | some d => d.q / scLen * scLen + 2 * scLen
    | none => 0
  let e0 := max (z + scLen + fcLen) e1
  s.mapSreg r (fun y => { y with squash := some ⟨z, e0, reason⟩, busyUntil := e0 + fcLen, commitAt := none })

/-- The resolution of the SPECULATIVE tally of record `i` at the edge at which its slot is filled (R190). -/
def State.resolveSpec (s : State) (i : Nat) : State :=
  let x := s.trec i
  let r := x.unit
  let z := x.fillAt * scLen
  if x.specLate ∨ (x.op x.specSlot = s.tSpecValue x.template ∧ !x.poison.testBit x.specSlot) then
    let e1 := match (s.sreg r).disp with
      | some d => d.q / scLen * scLen + 2 * scLen
      | none => 0
    let s := s.setRec i { x with state := tsRunning }
    let s := s.bumpWrap (Reg.TALLY_SPEC_CNT_COMMIT r) Fld.TALLY_SPEC_CNT_COMMIT_COUNT 1
    s.mapSreg r (fun y => { y with commitAt := some (max (z + scLen) e1) })
  else
    let reason := if x.poison.testBit x.specSlot then sqPoisoned else sqMismatch
    (s.squashRec r i reason tsReady).sendSquash r reason z

/-- Speculative tallies whose slot has been filled are resolved. -/
def State.resolveSpecs (s : State) : State :=
  (s.sch.recs.filter (fun p => p.2.state == tsSpec && p.2.full.testBit p.2.specSlot)).foldl (fun s p => s.resolveSpec p.1) s

/-- The regions in which step 2 of R165 may preempt for candidate `x`, latest deadline of the running tally first, lowest region
on equal deadlines. -/
def State.preemptOrder (s : State) (x : TallyRec) (rs : List Nat) : List Nat :=
  let ok := rs.filter (fun r => match s.runningIn r with
    | some j => s.tPreempt (s.trec j).template && earlier x.deadline (s.trec j).deadline
    | none => false)
  let later (a b : Nat) : Bool :=
    match s.runningIn a, s.runningIn b with
    | some i, some j => earlier (s.trec j).deadline (s.trec i).deadline
    | _, _ => false
  let ins (a : Nat) (l : List Nat) : List Nat := (l.takeWhile (fun b => !later a b)) ++ a :: (l.dropWhile (fun b => !later a b))
  ok.foldl (fun acc a => ins a acc) []

/-- The spill victim in region `r` for a candidate with deadline `d` (R170): the SUSPENDED tally there with the latest deadline,
lowest index on equal deadlines, that holds an unreserved bank and has a later deadline than the candidate. -/
def State.spillVictim (s : State) (r d : Nat) : Option Nat :=
  let l := s.sch.recs.filter (fun p => p.2.state == tsSuspended && p.2.placed && !p.2.engine && p.2.unit == r &&
    !s.reserved r p.2.bank && earlier d p.2.deadline)
  (l.foldl (fun acc p => match acc with
    | none => some p
    | some q => if earlier q.2.deadline p.2.deadline then some p else some q) none).map (·.1)

/-- The lowest free spill slot of region `r` (R170, R171). -/
def State.freeSlot (s : State) (r : Nat) : Option Nat :=
  (List.range (s.fld (Reg.TALLY_SPILL_CFG r) Fld.TALLY_SPILL_CFG_SLOTS)).find? (fun k => !(s.sreg r).slots.any (fun p => p.1 == k))

/-- A spill or restore request is posted to the engine of the rod (R171), or waits for the acknowledgement of the one before it (R172). -/
def State.postJob (s : State) (j : SpillJob) : State :=
  let n := j.region % 64
  if (tfind s.sch.jobs n).isSome then { s with sch := { s.sch with jobWait := s.sch.jobWait ++ [j] } }
  else
  let w := BitVec.ofNat 32 (2 ^ 31 + b2n j.dir * 2 ^ 30 + (j.region / 64) * 2 ^ 29 + j.bank * 2 ^ 24 + j.slot * 2 ^ 16)
  ({ s with sch := { s.sch with jobs := tins s.sch.jobs n j } }).setReg (Reg.TALLY_SPILL_REQ n) w

/-- A spill is chosen: the victim goes to XFER and the candidate is held for the region (R170). -/
def State.startSpill (s : State) (r v i slot : Nat) : State :=
  let x := s.trec v
  let s := s.setRec v { x with state := tsXfer }
  let s := s.mapSreg r (fun y => { y with slots := y.slots ++ [(slot, v)], waiting := some i })
  s.postJob ⟨r, v, x.bank, slot, false⟩

/-- What became of a candidate: placed on a target, held behind a spill, or passed over. -/
inductive Placed where
  | placed (s : State) (t : SchTarget)
  | held (s : State)
  | no
  deriving Repr

/-- A free or unreserved bank for a restore (R165). -/
def State.restoreBank (s : State) (r : Nat) : Option Nat :=
  (List.range 4).find? (fun b => !s.bankHeld r b && !s.reserved r b)

/-- Step 2 of R165 over the regions in its order: preempt where a bank is available, or hold the candidate behind a spill. -/
def State.tryPreempt (s : State) (i : Nat) (x : TallyRec) : List Nat → Placed
  | [] => .no
  | r :: rs =>
    match s.runningIn r with
    | none => s.tryPreempt i x rs
    | some j =>
      match s.bankOf r x none with
      | some b => .placed ((s.suspend r j).decide_ r i b false (some j)) (.region r)
      | none =>
        if x.state = tsReady ∧ s.bit (Reg.TALLY_SPILL_CFG r) Fld.TALLY_SPILL_CFG_EN then
          match s.spillVictim r x.deadline, s.freeSlot r with
          | some v, some k => .held (s.startSpill r v i k)
          | _, _ => s.tryPreempt i x rs
        else s.tryPreempt i x rs

/-- Place one candidate (R162, R165, R184, R199); `used` are the targets of the decisions already made at this edge. -/
def State.place (s : State) (used : List SchTarget) (spec : Bool) (i : Nat) : Placed :=
  let x := s.trec i
  if s.tKindEngine x.template then
    match (List.range 64).find? (fun n => s.tTarget x.template n && !used.contains (.engine n) &&
        (tfind s.sch.offer n).isNone && (match tfind s.sch.waits n with | some w => decide (w ≤ s.scNow) | none => false)) with
    | some n =>
      let s := s.setRec i { x with state := tsRunning, unit := n, engine := true, bank := 0, placed := true }
      let s := s.bumpWrap Reg.TALLY_CNT_DISPATCH Fld.TALLY_CNT_DISPATCH_COUNT 1
      .placed { s with sch := { s.sch with offer := tins s.sch.offer n i } } (.engine n)
    | none => .no
  else
    let rs := (List.range 128).filter (fun r => s.mayRun r x && s.regionOpen r && !used.contains (.region r))
    if x.state = tsSpilled then
      match rs.find? (fun r => (s.specIn r).isNone && (tfind s.sch.jobs (r % 64)).isNone && (s.restoreBank r).isSome) with
      | some r =>
        let b := (s.restoreBank r).getD 0
        let s := s.setRec i { x with state := tsXfer, bank := b }
        .placed (s.postJob ⟨r, i, b, x.spillSlot, true⟩) (.region r)
      | none => .no
    else
      let rs := rs.filter (fun r => s.pstate r (s.tPlane x.template) == psValid)
      let step1 := rs.find? (fun r => (s.runningIn r).isNone && (s.specIn r).isNone && (s.bankOf r x none).isSome &&
        (!spec || (s.bit (Reg.TALLY_SPEC_REGION r) Fld.TALLY_SPEC_REGION_ALLOW && (s.sreg r).buf.isEmpty)))
      match step1 with
      | some r => .placed (s.decide_ r i ((s.bankOf r x none).getD 0) spec none) (.region r)
      | none =>
        if spec then .no
        else
          let displace := rs.find? (fun r => (s.runningIn r).isNone && (match s.specIn r with
            | some j => (s.bankOf r x (some (s.trec j).bank)).isSome
            | none => false))
          match displace with
          | some r =>
            let j := (s.specIn r).getD 0
            let b := (s.bankOf r x (some (s.trec j).bank)).getD 0
            .placed (((s.squashRec r j sqDisplaced tsWaiting).mapSreg r (fun y => { y with commitAt := none })).decide_ r i b false (some j)) (.region r)
          | none => s.tryPreempt i x (s.preemptOrder x (rs.filter (fun r => (s.specIn r).isNone)))

/-- Whether a cancel that takes effect at this edge names the current handle of record `i` (R175). -/
def State.cancelled (s : State) (i : Nat) : Bool :=
  s.sch.cancels.any (fun c => c.k == s.now / scLen * scLen && c.handle == s.handleOf i)

/-- The first candidate that can be placed, in order; candidates that cannot are passed over, and so is one that a spill chosen on the way has
taken (R164, R170). A selection that a cancel of this edge names is void (R175). Answers what was selected and its target. -/
def State.firstPlaced (used : List SchTarget) : List (Nat × Bool) → State → State × Option (Nat × SchTarget)
  | [], s => (s, none)
  | (i, spec) :: l, s =>
    if !(s.isCandidate (i, s.trec i) || s.isSpecCandidate (i, s.trec i)) then State.firstPlaced used l s
    else match s.place used spec i with
      | .placed s' t => (if s.cancelled i then s else s', some (i, t))
      | .held s' => State.firstPlaced used l (if s.cancelled i then s else s')
      | .no => State.firstPlaced used l s

/-- The candidates of an sc edge in order: the non-speculative ones, then the speculative ones (R163, R184). -/
def State.candidates (s : State) : List (Nat × Bool) :=
  (candSort (s.sch.recs.filter s.isCandidate)).map (fun p => (p.1, false)) ++
  (candSort (s.sch.recs.filter s.isSpecCandidate)).map (fun p => (p.1, true))

/-- Whether the operating mode lets the scheduler decide (R467, R469, R471). -/
def State.decisionsAllowed (s : State) : Bool :=
  s.bit Reg.TALLY_CTL Fld.TALLY_CTL_EN && s.mode != modeQuiesce && s.mode != modeStandby && s.mode != modeSecureHalt

/-! ### Task port inputs (R160, R185, R186) -/

/-- The task port inputs while no tally is bound: zero. -/
def SchRegion.clearTp (y : SchRegion) : SchRegion :=
  { y with
    bound := none, tpTemplate := 0, tpHandle := 0, tpOps := [], tpPoison := 0, tpResume := false, tpStart := none,
    tpSpec := false, tpResolved := none, commitAt := none }

/-- From the E1 of a dispatch or resume (R160, R185): the tally is bound and its inputs are presented. A speculative dispatch
presents SPEC_VALUE or zero in the missing slot, unless its commit has come by this E1. -/
def State.tpPresent (s : State) (r : Nat) (d : Dispatch) (e1 : Nat) : State :=
  let x := s.trec d.idx
  let committed := d.spec && (s.sreg r).commitAt.any (fun m => decide (m ≤ e1))
  let spec := d.spec && !committed
  let ops := if spec then
      (List.range 4).map (fun k => if k = x.specSlot then (if x.specLate then 0 else s.tSpecValue x.template) else x.op k)
    else x.ops
  let psn := if spec then x.poison &&& (15 ^^^ 2 ^ x.specSlot) else x.poison
  s.mapSreg r (fun y => { y with
    bound := some d.idx, leaving := none, tpTemplate := x.template,
    tpHandle := s.handleOf d.idx, tpOps := ops, tpPoison := psn, tpResume := d.resume, tpStart := some e1,
    tpSpec := spec, tpResolved := if committed then some e1 else none, commitAt := if committed then none else y.commitAt,
    disp := none })

/-- The dispatch that the beam refuses at its E0 is counted; a preempted tally stays bound, and the record returns at the next sc edge (R167,
R185). -/
def State.dispatchRefused (s : State) (r : Nat) : State :=
  let s := s.bumpWrap Reg.TALLY_CNT_REDISPATCH Fld.TALLY_CNT_REDISPATCH_COUNT 1
  (s.mapSreg r (fun y => { y with leaving := y.leaving.map (fun l => (l.1, s.scNext)), commitAt := none })).later s.scNext (.dispatchBack r)

/-- The record of a refused dispatch returns: WAITING or READY, or SUSPENDED for a resume; a preempted tally goes on RUNNING (R167, R185). -/
def State.dispatchBack (s : State) (r : Nat) : State :=
  match (s.sreg r).disp with
  | none => s
  | some d =>
    let x := s.trec d.idx
    let back := if d.resume then tsSuspended else if x.state = tsSpec ∧ !s.recFull x then tsWaiting else tsReady
    let s := if (x.state = tsRunning ∨ x.state = tsSpec) ∧ x.unit = r then s.setRec d.idx { x with state := back, fillAt := s.scNow } else s
    let s := match d.victim with
      | some j => if (s.trec j).state = tsSuspended ∧ (s.sreg r).bound = some j then
          s.mapRec j (fun y => { y with state := tsRunning }) else s
      | none => s
    s.mapSreg r (fun y => { y with disp := none, leaving := none, busyUntil := s.now })

/-! ### Loss (R176, R198, R200) -/

/-- The state of a tally held in bank `b` of region `r` is lost: RUNNING and SUSPENDED tallies are freed and logged LOST, a
SPECULATIVE one is squashed with LOSS and keeps its record. -/
def State.loseBank (s : State) (r b : Nat) : State :=
  let hit := s.sch.recs.filter (fun p => p.2.placed && !p.2.engine && p.2.unit == r && p.2.bank == b)
  hit.foldl (fun s p =>
    if p.2.state = tsRunning ∨ p.2.state = tsSuspended then
      let h := s.handleOf p.1
      (s.freeRec p.1).logFault faultLost r h
    else if p.2.state = tsSpec then s.squashRec r p.1 sqLoss tsWaiting
    else s) s

/-- The drain markers among entries that leave the commit buffer unperformed are placed: a marker is never dropped (R241). -/
def State.placeMarkers (s : State) (r : Nat) (l : List BufEntry) : State :=
  l.foldl (fun s e => match e with
    | .marker bank st b h => s.placeMarker (srcRegion r) bank st b h
    | _ => s) s

/-- The commit buffer is emptied, held responses and recorded consumptions dropped, and the task port inputs zero: what a squash
does at its E0 and a loss at its edge (R198). -/
def State.emptyBuffer (s : State) (r : Nat) : State :=
  let buf := (s.sreg r).buf
  let s := s.mapSreg r (fun y => { y.clearTp with
    buf := [], draining := false, withheld := [], heldOn := [], squash := none })
  s.placeMarkers r buf

/-- A SPECULATIVE tally of a region that leaves RUNNING is squashed with LOSS (R198). -/
def State.loseSpec (s : State) (r : Nat) : State :=
  match s.specIn r with
  | some i =>
    let s := if s.tpSpec r then s.dropBank r (s.trec i).bank else s
    (s.squashRec r i sqLoss tsWaiting).emptyBuffer r
  | none => s

/-- Every tally whose state lies in region `r` is lost (R176): the region enters RESET or OFF, or its rod is retired. -/
def State.loseRegion (s : State) (r : Nat) : State :=
  let s := [0, 1, 2, 3].foldl (fun s b => s.loseBank r b) s
  let y := s.sreg r
  let s := s.mapSreg r (fun y => { y.clearTp with
    disp := none, leaving := none, squash := none,
    buf := if y.draining then y.buf else [], withheld := [], heldOn := [] })
  if y.draining then s else s.placeMarkers r y.buf

/-- A RUNNING engine task whose engine is reset is lost (R176). -/
def State.loseEngine (s : State) (n : Nat) : State :=
  let hit := s.sch.recs.filter (fun p => p.2.placed && p.2.engine && p.2.unit == n && p.2.state == tsRunning)
  let s := hit.foldl (fun s p => (s.freeRec p.1).logFault faultLost n (s.handleOf p.1)) s
  { s with sch := { s.sch with offer := tdel s.sch.offer n, waits := tdel s.sch.waits n } }

end Sys2Proof.Machine
end

