-- ==== Sys2Proof/Machine/Planes.lean ====
section
/-!
DEFINITION. The switch, the release and the isolation of a region (R79–R97), the bank transfer (R76–R78), the discard of banks
(R75), responses at the NoC port of a region (R100–R102, R195), and the commands of chapter 03.
-/
namespace Sys2Proof.Machine


/-! ### Outcome codes (R89) -/

def wsApplied : Nat := 0
def wsPending : Nat := 1
def refInvalid : Nat := 2
def refLoading : Nat := 3
def refBankBusy : Nat := 4
def refSched : Nat := 5
def refConflict : Nat := 6
def refState : Nat := 7
def refStaleRegion : Nat := 8

/-- Rod `n` is retired (R485). -/
def State.rodRetired (s : State) (n : Nat) : Bool :=
  if n < 32 then (s.reg Reg.STACK_ROD_RET_LO).getLsbD n else (s.reg Reg.STACK_ROD_RET_HI).getLsbD (n - 32)

/-- The lane quad of region `r`'s rod (R16, R60). -/
def quadOf (r : Nat) : Option Nat := [1, 2, 5, 6, 23, 47, 62, 61, 58, 57, 40, 16].idxOf? (r % 64)

/-- The region to which lane `l` is bound (R361). -/
def State.laneRegion (s : State) (l : Nat) : Nat :=
  [1, 2, 5, 6, 23, 47, 62, 61, 58, 57, 40, 16].getD (l / 4) 1 + 64 * s.fld (Reg.LANE_CFG l) Fld.LANE_CFG_UPPER

/-! ### Checks (R83, R89, R96, R97, R547) -/

/-- The checks of the target plane and bank. -/
def State.targetCheck (s : State) (r p b : Nat) : Nat :=
  if s.pstate r p = psLoading then refLoading
  else if s.pstate r p ≠ psValid then refInvalid
  else if s.bstate r b = bsXfer then refBankBusy
  else wsApplied

/-- The checks of a release, in the order of R97. -/
def State.releaseCheck (s : State) (r p b : Nat) : Nat :=
  if s.rstate r ≠ rsIsolated ∨ s.domState r ≠ dsOn then refState
  else if s.stale r then refStaleRegion
  else s.targetCheck r p b

def SwSrc.isStrobe : SwSrc → Bool
  | .strobe _ => true
  | _ => false

/-- The outcome that a request meets at its edge, apart from the requests of the same edge (R89; log entry 12). -/
def State.reqCheck (s : State) (r : Nat) (q : SwReq) : Nat :=
  if s.beamReset ∨ s.rodRetired (r % 64) then refState
  else match q.act with
    | .ptr p b _ =>
      if s.scheduled r then refSched
      else if s.rstate r = rsIsolated then (if q.src.isStrobe then refState else wsApplied)
      else if s.running r then s.targetCheck r (p.getD (s.planePtr r)) (b.getD (s.bankPtr r))
      else refState
    | .release => if s.scheduled r then refSched else s.releaseCheck r (s.planePtr r) (s.bankPtr r)
    | .isolate => if s.scheduled r then refSched else if s.running r then wsApplied else refState
    | .setMode _ => if s.rstate r = rsIsolated then wsApplied else refState
    | .conflict => refConflict
    | .dispatch p b _ _ _ =>
      if !s.scheduled r then refState
      else if s.running r then s.targetCheck r p b
      else s.releaseCheck r p b
    | .strobeEn _ => wsApplied
    | .strobeCfg _ _ => wsApplied
    | .discard _ => wsApplied
    | .xferGo _ _ => wsApplied

/-! ### The cycle (R73, R79, R82, R96) -/

/-- LAST_SRC of a source (PLANE_STATUS). -/
def SwSrc.code : SwSrc → Nat
  | .reg => 1
  | .engine _ _ => 2
  | .sched => 3
  | .strobe k => 4 + k

/-- A switch cycle begins at the E0 `e`: the pointers have moved, and its E1 is to come (R79). -/
def State.beginCycle (s : State) (r e : Nat) (left : Option Nat) (init start : Bool) : State :=
  (s.setRegion r { s.region r with
    cyc := some ⟨e + fcLen, init, left, start, none⟩, keptInit := false, runFrom := s.fabF e + 2 }).later (e + fcLen) (.regionE1 r)

/-- The inputs of the dispatch that has been applied in region `r` are presented from its E1 on (R160); its operands are consumed there (R300). -/
def State.present (s : State) (r e1 : Nat) : State :=
  match (s.sreg r).disp with
  | some d => (s.tpPresent r d e1).later (e1 + 1) (.operands r)
  | none => s

/-- A dispatch that has raised TP_START consumes poisoned operands, unless it resumes (R300). -/
def State.useOperands (s : State) (r : Nat) : State :=
  let y := s.sreg r
  if (y.tpStart.any (fun e => e + 1 == s.now)) && !y.tpResume && y.tpPoison != 0 then s.regionConsume r 2 else s

/-- E1 of region `r`'s cycle, where it has come by `e`: the bank is initialised where R73 asks for it and becomes LIVE, the border cells latch the
new plane's settings, a released region runs, and a dispatch presents its inputs. What stood before is kept for an isolation at this edge. -/
def State.endCycle (s : State) (r e : Nat) : State :=
  match s.cycleOn r with
  | none => s
  | some c =>
    if e < c.e1 then s
    else
      let s := s.settleAround r c.e1
      let b := s.bankPtr r
      let did := c.init || s.bstate r b == bsUninit
      let w : SwBefore := ⟨did, b, s.bstate r b, s.bankData r b, (List.range 64).map (s.borderSet r)⟩
      let s := s.setRegion r { s.region r with cyc := some { c with before := some w } }
      let s := if did then (s.setBstate r b bsLive).setBankData r b (.image (s.initImage r (s.planePtr r))) else s
      let s := s.latchBorder r (s.planePtr r)
      let s := if c.left.isNone then s.setRstate r rsRunning else s
      if c.start then s.present r c.e1 else s

/-- An applied switch or release is counted, and its source recorded. -/
def State.countSwitch (s : State) (r : Nat) (src : SwSrc) : State :=
  (s.bumpWrap (Reg.PLANE_SWITCH_CNT r) Fld.PLANE_SWITCH_CNT_COUNT 1).setFld (Reg.PLANE_STATUS r)
    Fld.PLANE_STATUS_LAST_SRC src.code

/-- What the E1 of a region's last cycle found, if that E1 is the edge `e`. -/
def State.e1At (s : State) (r e : Nat) : Option (SwCycle × SwBefore) :=
  match (s.region r).cyc with
  | some c => if c.e1 = e then c.before.map (fun w => (c, w)) else none
  | none => none

/-- The region's bound bank takes its edges up to `e`, and its border cells latch its outputs as they stood before `e` (R79, R96); at the E1
of an earlier cycle they keep what they hold (R82). -/
def State.lastEdge (s : State) (r e : Nat) : State :=
  let s := s.settleAround r e
  if (s.e1At r e).isSome then s else s.latchHold r e

/-- A switch of a RUNNING region applied at E0 = `e` (R79): the old bank takes its last edge, unless E0 is the E1 of an earlier
switch (R82), and the pointers move. -/
def State.switchAt (s : State) (r e : Nat) (src : SwSrc) (p b : Nat) (init start : Bool) : State :=
  let s := s.lastEdge r e
  ((s.setPtrs r p b).countSwitch r src).beginCycle r e (some (s.planePtr r)) init start

/-- A release applied at L = `e` (R97): the region runs from L + 1 fc. -/
def State.releaseAt (s : State) (r e : Nat) (src : SwSrc) (p b : Nat) (init start : Bool) : State :=
  let kept := (s.region r).keptInit
  ((s.setPtrs r p b).countSwitch r src).beginCycle r e none (init || kept) start

/-- A request to move the pointers of a RUNNING region, of which R81 leaves out the one without effect. -/
def State.moveTo (s : State) (r e : Nat) (src : SwSrc) (p b : Nat) (init start : Bool) : State :=
  if p = s.planePtr r ∧ b = s.bankPtr r ∧ !init then s else s.switchAt r e src p b init start

/-- The pointers of an ISOLATED region set with no switch cycle; the INIT flag is kept for the release (R84). -/
def State.moveIsolated (s : State) (r p b : Nat) (init : Bool) : State :=
  if p = s.planePtr r ∧ b = s.bankPtr r ∧ !init then s
  else (s.setPtrs r p b).setRegion r { s.region r with keptInit := init }

/-- The E1 of `c` does not occur (R96): the bank and the border settings are as they stood before it, and the INIT flag is kept. -/
def State.undoE1 (s : State) (r : Nat) (c : SwCycle) (w : SwBefore) : State :=
  let s := if w.did then (s.setBstate r w.bank w.was).setBankData r w.bank w.data else s
  let s := { s with fab := { s.fab with
    border := w.border.zipIdx.foldl (fun t (p : BitVec 128 × Nat) => tput borderReset t (64 * r + p.2) p.1) s.fab.border } }
  s.setRegion r { s.region r with keptInit := c.init }

/-- The isolation of a RUNNING region at the edge I = `e` (R96): its bank takes its last edge, and a SPECULATIVE tally in it is
squashed with LOSS (R198). A region in another state does not change. -/
def State.isolateAt (s : State) (r e : Nat) : State :=
  let s := s.endCycle r e
  if !s.running r then s
  else
    let s := (s.lastEdge r e).loseSpec r
    let s := match s.e1At r e with
      | some x => s.undoE1 r x.1 x.2
      | none => s.setRegion r { s.region r with keptInit := false }
    let s := s.setRstate r rsIsolated
    let s := s.setRegion r { s.region r with cyc := none }
    if (s.sreg r).tpStart = some e then s.mapSreg r (fun y => { y with tpStart := none }) else s

/-! ### Requests at their edge (R89–R91) -/

/-- A strobe dropped or refused with `code` (R90, R91). -/
def State.loseStrobe (s : State) (r k code : Nat) : State :=
  ((s.bump (Reg.PLANE_STROBE_LOST r) Fld.PLANE_STROBE_LOST_COUNT 1).setFld (Reg.PLANE_STROBE_LOST r)
    Fld.PLANE_STROBE_LOST_LAST_REASON code).setFld (Reg.PLANE_STROBE_LOST r) Fld.PLANE_STROBE_LOST_LAST_SLOT k

/-- The outcome of a request goes to where R89 says. -/
def State.report (s : State) (r : Nat) (src : SwSrc) (code : Nat) : State :=
  match src with
  | .reg => (s.setFld (Reg.PLANE_STATUS r) Fld.PLANE_STATUS_WRSTAT code).setFld (Reg.PLANE_STATUS r) Fld.PLANE_STATUS_PENDING 0
  | .engine n due => { s with fab := { s.fab with psel := tins s.fab.psel n (due, code) } }
  | .strobe k => if code = wsApplied then s else s.loseStrobe r k code
  | .sched =>
    if code = wsApplied then s
    else if (s.sreg r).disp.isSome then s.dispatchRefused r else s

/-- A request that met no objection takes effect at the edge `e`. -/
def State.applyReq (s : State) (r e : Nat) (q : SwReq) : State :=
  match q.act with
  | .ptr p b init =>
    let p := p.getD (s.planePtr r)
    let b := b.getD (s.bankPtr r)
    if s.running r then s.moveTo r e q.src p b init false else s.moveIsolated r p b init
  | .release => s.releaseAt r e q.src (s.planePtr r) (s.bankPtr r) false false
  | .isolate => s.isolateAt r e
  | .setMode m => s.setFld (Reg.PLANE_CTL r) Fld.PLANE_CTL_SCHED (b2n m)
  | .conflict => s
  | .dispatch p b init _ _ =>
    match (s.sreg r).disp with
    | none => s
    | some _ =>
      let s := if s.tpSpec r then (s.dropBank r (s.bankPtr r)).emptyBuffer r else s
      if !s.running r then s.releaseAt r e .sched p b init true
      else if p = s.planePtr r ∧ b = s.bankPtr r ∧ !init then s.later (e + fcLen) (.present r)
      else s.switchAt r e .sched p b init true
  | .strobeEn _ => s
  | .strobeCfg _ _ => s
  | .discard _ => s
  | .xferGo _ _ => s

/-- The rank of a request among those of one edge (R90). -/
def SwReq.rank (q : SwReq) : Nat :=
  match q.src with
  | .strobe k => k
  | .engine _ _ => 4
  | .sched => 5
  | .reg => 6

def insRank (q : SwReq) : List SwReq → List SwReq
  | [] => [q]
  | a :: l => if q.rank < a.rank then q :: a :: l else a :: insRank q l

/-- The requests of one edge in their order: one is applied, those before it meet their own refusal, those behind it REF_CONFLICT. -/
def State.resolveList (r e : Nat) : List SwReq → Bool → State → State
  | [], _, s => s
  | q :: l, won, s =>
    if won then State.resolveList r e l true (s.report r q.src refConflict)
    else
      let c := s.reqCheck r q
      if c = wsApplied then State.resolveList r e l true ((s.applyReq r e q).report r q.src wsApplied)
      else State.resolveList r e l false (s.report r q.src c)

/-- Whether the request is no request to move the pointers (R543): it takes effect at its edge whatever else does. -/
def SwAct.isConfig : SwAct → Bool
  | .strobeEn _ => true
  | .strobeCfg _ _ => true
  | .discard _ => true
  | .xferGo _ _ => true
  | _ => false

/-- Every request of region `r` whose edge is `e` is decided. -/
def State.resolveAt (s : State) (r e : Nat) : State :=
  let s := s.endCycle r e
  let mine (q : SwReq) : Bool := q.edge == e && !q.act.isConfig
  let due := (s.region r).reqs.filter mine
  let s := s.setRegion r { s.region r with reqs := (s.region r).reqs.filter (fun q => !mine q) }
  State.resolveList r e (due.foldl (fun l q => insRank q l) []) false s

/-- The earliest edge that has come among the requests of a region. -/
def State.dueEdge (s : State) (r : Nat) : Option Nat :=
  (s.region r).reqs.foldl (fun acc q =>
    if q.edge ≤ s.now ∧ !q.act.isConfig then (match acc with
      | none => some q.edge
      | some e => some (min e q.edge))
    else acc) none

/-- Every edge that has come is decided, in order. -/
def State.resolveDue (r : Nat) : Nat → State → State
  | 0, s => s
  | n + 1, s =>
    match s.dueEdge r with
    | none => s
    | some e => State.resolveDue r n (s.resolveAt r e)

def State.resolve (s : State) (r : Nat) : State := State.resolveDue r (s.region r).reqs.length s

/-- An isolation that another cause brings at the edge `e`: the requests of that edge lose to it with REF_STATE (R96). Those of an earlier edge
have been decided before it. -/
def State.isolateOver (s : State) (r e : Nat) : State :=
  let due := (s.region r).reqs.filter (fun q => q.edge == e && !q.act.isConfig)
  let s := s.setRegion r { s.region r with reqs := (s.region r).reqs.filter (fun q => q.edge != e || q.act.isConfig) }
  let s := due.foldl (fun s q => s.report r q.src refState) s
  s.isolateAt r e

/-- A request joins those on their way to the beam. -/
def State.addSwReq (s : State) (r : Nat) (q : SwReq) : State :=
  s.setRegion r { s.region r with reqs := (s.region r).reqs ++ [q] }

/-- A write performed at the sc edge of now reaches the beam 3 sc later and acts one fc after that (R543). -/
def State.addWrite (s : State) (r : Nat) (a : SwAct) : State :=
  let x := s.now / scLen * scLen + 3 * scLen
  let s := s.addSwReq r ⟨x, x + fcLen, .reg, a⟩
  if a.isConfig then s.later (x + fcLen) (.beamWrites r) else s

/-- The requests that have reached the beam and whose edge has not come show as PENDING (R543). -/
def State.showPending (s : State) (r : Nat) : State :=
  if (s.region r).reqs.any (fun q => q.src == .reg && decide (q.beamAt ≤ s.now ∧ s.now < q.edge) && (match q.act with
      | .strobeCfg _ _ => false
      | .discard _ => false
      | .xferGo _ _ => false
      | _ => true)) then
    (s.setFld (Reg.PLANE_STATUS r) Fld.PLANE_STATUS_WRSTAT wsPending).setFld (Reg.PLANE_STATUS r) Fld.PLANE_STATUS_PENDING 1
  else s

/-! ### Register writes of the PLANE span (R84, R96, R97, R543) -/

/-- The word of a register write as its fields. -/
def wbit (v n : Nat) : Bool := v.testBit n

/-- A write to PLANE_PTR (R84). -/
def State.planePtrWrite (s : State) (r v : Nat) : State :=
  s.addWrite r (.ptr (if wbit v 12 then none else some (v % 8)) (if wbit v 13 then none else some (v / 16 % 4)) (wbit v 14))

/-- A write to PLANE_CTL: a single request bit asks for its action, and STROBE_EN takes the value written; two request bits are
refused whole (R97). -/
def State.planeCtlWrite (s : State) (r v : Nat) : State :=
  if 1 < weight 4 v then s.addWrite r .conflict
  else
    let s := s.addWrite r (.strobeEn (wbit v 8))
    if wbit v 0 then s.addWrite r .release
    else if wbit v 1 then s.addWrite r .isolate
    else if wbit v 2 then s.addWrite r (.setMode true)
    else if wbit v 3 then s.addWrite r (.setMode false)
    else s

/-! ### Strobes (R87, R88, R91) -/

/-- Whether slot `k` may fire: armed, with a target, from a source that exists. -/
def State.strobeArmed (s : State) (r k : Nat) : Bool :=
  let a := Reg.PLANE_STROBE r k
  let num := s.fld a Fld.PLANE_STROBE_SRC_NUM
  let kind := s.fld a Fld.PLANE_STROBE_SRC_KIND
  s.bit (Reg.PLANE_CTL r) Fld.PLANE_CTL_STROBE_EN && s.bit a Fld.PLANE_STROBE_EN &&
  (s.bit a Fld.PLANE_STROBE_MOVE_PLANE || s.bit a Fld.PLANE_STROBE_MOVE_BANK) &&
  (if kind = 0 then decide (num < 4)
   else if kind = 1 then decide (num < 16)
   else if kind = 2 then decide (num ≤ 9)
   else match quadOf r with
     | some q => s.laneRegion (4 * q + num / 16) == r
     | none => false)

/-- The source of slot `k` rises at the fc edge S of now (R87, R91). At the edge at which a write of the slot takes effect its source is high
already: the slot waits for a later rising edge (R543). -/
def State.strobeFire (s : State) (r k : Nat) : State :=
  let a := Reg.PLANE_STROBE r k
  if !s.strobeArmed r k || decide (s.now < tget (fun _ => 0) (s.region r).armed k + fcLen) then s
  else if !s.running r then s.loseStrobe r k refState
  else s.addSwReq r ⟨s.now, s.now + fcLen, .strobe k, .ptr
    (if s.bit a Fld.PLANE_STROBE_MOVE_PLANE then some (s.fld a Fld.PLANE_STROBE_PLANE) else none)
    (if s.bit a Fld.PLANE_STROBE_MOVE_BANK then some (s.fld a Fld.PLANE_STROBE_BANK) else none)
    (s.bit a Fld.PLANE_STROBE_INIT)⟩

/-! ### Discard and transfer (R75–R78) -/

/-- The banks of `mask` that R75 lets be discarded become UNINIT, and tallies held in them are lost (R176). -/
def State.discard (s : State) (r mask : Nat) : State :=
  if s.beamReset then s
  else [0, 1, 2, 3].foldl (fun s b =>
    if !mask.testBit b ∨ (s.running r ∧ s.bankPtr r = b) ∨ s.bstate r b = bsXfer then s
    else (s.loseBank r b).uninitBank r b) s

/-- Byte `i` of a transfer image for the byte `v` of a bank, or the other way round: the first product stage is written under an unknown mask,
and the bits that R78 leaves nothing stay zero. -/
def stageByte (i : Nat) (v : Byte) : Byte :=
  let j := (i - 3200) % 48
  if 3200 ≤ i ∧ 16 ≤ j ∧ j < 24 then v ^^^ BitVec.ofNat 8 (Config.stageMask.toNat / 256 ^ (j - 16)) else v &&& BitVec.ofNat 8 (imageMask i)

/-- The image of a parked response: 144 bytes (R78). -/
def parkedImage (p : Parked) : List Byte :=
  (p.bytes ++ List.replicate (128 - p.bytes.length) 0) ++ toBytes 2 p.mask ++
  [BitVec.ofNat 8 p.code, BitVec.ofNat 8 p.stream, BitVec.ofNat 8 (p.len - 1)] ++ List.replicate 11 0

/-- The transfer image of a bank: 11,008 bytes (R78). -/
def State.bankImage (s : State) (r b : Nat) : List Byte :=
  let q := s.parked r b
  let parts := (q.map parkedImage).flatten
  (List.range 6272).map (fun i => stageByte i ((s.bankData r b).byte i)) ++ BitVec.ofNat 8 q.length :: List.replicate 127 0 ++
  parts ++ List.replicate (4608 - parts.length) 0

/-- The parked response in a restored image. -/
def parkedOf (l : List Byte) : Parked :=
  ⟨l.take ((l.getD 132 0).toNat % 128 + 1), ofBytes ((l.drop 128).take 2), (l.getD 130 0).toNat % 16, (l.getD 131 0).toNat % 8,
    (l.getD 132 0).toNat % 128 + 1⟩

/-- The address of the transfer image, on this device (R76). -/
def State.xferAddr (s : State) (r : Nat) : Nat :=
  s.reg48 (Reg.PLANE_XFER_ADDR_LO r) (Reg.PLANE_XFER_ADDR_HI r) + s.fld Reg.DEV_BOARD Fld.DEV_BOARD_DEVNUM * 2 ^ 48

/-- The tag of flit `i` of a transfer of bank `b`. -/
def xferTag (b i : Nat) : Nat := 2000 + 100 * b + i

/-- The 86 flits of a transfer are accepted by the region's interface (R76); a save waits until the bank is owed nothing (R77). -/
def State.startXfer (s : State) (r : Nat) : State :=
  match (s.region r).xfer with
  | none => s
  | some x =>
    if x.started ∨ (!x.dir ∧ s.bankOutstanding r x.bank ≠ 0) then s
    else
      let img := if x.dir then [] else s.bankImage r x.bank
      let s := s.setRegion r { s.region r with xfer := some { x with started := true } }
      (List.range 86).foldl (fun s i =>
        s.accept (srcRegion r) xferLane 0 (if x.dir then .read else .write) (s.xferAddr r + 128 * i) 128
          ((img.drop (128 * i)).take 128) (List.replicate 16 false) none (xferTag x.bank i)) s

/-- The end of a transfer or its refusal: DONE with OUTCOME and CODE. -/
def State.xferEnd (s : State) (r outcome code : Nat) : State :=
  let a := Reg.PLANE_XFER_CTL r
  ((s.setFld a Fld.PLANE_XFER_CTL_DONE 1).setFld a Fld.PLANE_XFER_CTL_OUTCOME outcome).setFld a Fld.PLANE_XFER_CTL_CODE code

/-- PLANE_XFER_CTL.GO takes effect, with the refusals of R76 and R547 in their order. CODE is 0 unless a transfer fails (DESIGN CHOICE for a
refusal and a completed transfer: log entry 87). -/
def State.xferGo (s : State) (r b : Nat) (dir : Bool) : State :=
  let a := Reg.PLANE_XFER_CTL r
  if s.beamReset then s.xferEnd r 6 0
  else if s.running r ∧ s.bankPtr r = b then s.xferEnd r 1 0
  else if (s.region r).xfer.isSome then s.xferEnd r 3 0
  else if !dir ∧ s.bstate r b = bsUninit then s.xferEnd r 2 0
  else if s.xferAddr r % 128 ≠ 0 then s.xferEnd r 4 0
  else
    let s := (s.setBstate r b bsXfer).setFld a Fld.PLANE_XFER_CTL_BUSY 1
    (s.setRegion r { s.region r with xfer := some ⟨b, dir, false, none, []⟩ }).startXfer r

/-- A write of PLANE_XFER_CTL with GO = 1: BANK and DIR are written, and the GO sets out for the beam (R543). -/
def State.xferWrite (s : State) (r b : Nat) (dir : Bool) : State :=
  let a := Reg.PLANE_XFER_CTL r
  ((s.setFld a Fld.PLANE_XFER_CTL_BANK b).setFld a Fld.PLANE_XFER_CTL_DIR (b2n dir)).addWrite r (.xferGo (b % 4) dir)

/-- One flit of a restore is answered (R77). -/
def State.xferAnswer (s : State) (r : Nat) (d : Delivered) : State :=
  match (s.region r).xfer with
  | none => s
  | some x =>
    let bad := isErr d.code || d.code == rPoison
    s.setRegion r { s.region r with xfer := some { x with
      code := if x.code.isSome then x.code else if bad then some d.code else none
      got := tins x.got (d.tag % 100) d.bytes } }

/-- Whether flits of the region's transfer are still in the network. -/
def State.xferOut (s : State) (r : Nat) : Bool :=
  s.noc.reqs.any (fun q => q.src == srcRegion r && q.bank == xferLane) ||
  s.noc.inbox.any (fun d => d.src == srcRegion r && d.bank == xferLane)

/-- The end of a transfer whose every flit has been answered (R77). A parked count above 32 in a restored image is none that R78 gives: it is
taken as 32 (DESIGN CHOICE: log entry 87). A tally that was held in a bank whose restore fails is lost (R176). -/
def State.xferDone (s : State) (r : Nat) : State :=
  let s := s.startXfer r
  match (s.region r).xfer with
  | none => s
  | some x =>
    if !x.started ∨ s.xferOut r then s
    else
      let s := s.setRegion r { s.region r with xfer := none }
      let s := s.setFld (Reg.PLANE_XFER_CTL r) Fld.PLANE_XFER_CTL_BUSY 0
      if !x.dir then (s.setBstate r x.bank bsLive).xferEnd r 0 0
      else match x.code with
        | some c => ((s.loseBank r x.bank).uninitBank r x.bank).xferEnd r 5 c
        | none =>
          let img := ((List.range 86).map (fun i => (tfind x.got i).getD [])).flatten
          let n := min 32 (img.getD 6272 0).toNat
          let l := ((img.take 6272).zipIdx).map (fun p => stageByte p.2 p.1 &&& BitVec.ofNat 8 (cellMask p.2))
          let s := (s.setBankData r x.bank (.image l)).setBstate r x.bank bsLive
          let s := s.setParked r x.bank ((List.range n).map (fun i => parkedOf ((img.drop (6400 + 144 * i)).take 144)))
          s.xferEnd r 0 0

/-! ### Writes that act in the beam (R543) -/

/-- A write of STROBE_EN, PLANE_STROBE(k), DISCARD or GO takes effect. -/
def State.applyConfig (s : State) (r : Nat) (q : SwReq) : State :=
  match q.act with
  | .strobeEn v => (s.setFld (Reg.PLANE_CTL r) Fld.PLANE_CTL_STROBE_EN (b2n v)).report r .reg wsApplied
  | .strobeCfg k v =>
    (s.setReg (Reg.PLANE_STROBE r k) v).setRegion r { s.region r with armed := tput (fun _ => 0) (s.region r).armed k q.edge }
  | .discard m => s.discard r m
  | .xferGo b dir => s.xferGo r b dir
  | _ => s

/-- The writes of region `r` whose edge has come take effect, in the order in which they were performed. -/
def State.beamWrites (s : State) (r : Nat) : State :=
  let mine (q : SwReq) : Bool := decide (q.edge ≤ s.now) && q.act.isConfig
  let due := (s.region r).reqs.filter mine
  due.foldl (fun s q => s.applyConfig r q) (s.setRegion r { s.region r with reqs := (s.region r).reqs.filter (fun q => !mine q) })

/-! ### Responses at the NoC port (R100–R102, R195, R300) -/

/-- Whether the response may be presented now while a speculative task runs (R195): no error code, and its stream holds nothing. -/
def State.mayPresent (s : State) (r stream code : Nat) : Bool :=
  !(s.tpSpec r && (isErr code || (s.sreg r).heldOn.contains stream))

/-- A parked response: its stream is held from it on where R195 says so. -/
def State.holdStream (s : State) (r stream code : Nat) : State :=
  if s.tpSpec r ∧ isErr code ∧ !(s.sreg r).heldOn.contains stream then
    s.mapSreg r (fun y => { y with heldOn := y.heldOn ++ [stream] })
  else s

/-- A response flit is accepted at NOC_RSP: a flit with a poison bit is one consumption (R300). -/
def State.presentRsp (s : State) (r : Nat) (p : Parked) : State :=
  let d : Delivered := ⟨0, srcRegion r, s.bankPtr r, p.stream, .read, 0, 0, p.len, p.code, p.bytes,
    (List.range 16).map (fun i => p.mask.testBit i)⟩
  let s := s.setRegion r { s.region r with rsp := some d }
  if p.mask ≠ 0 then s.regionConsume r 0 else s

/-- Marks as a mask: bit w for word w. -/
def marksMask (l : List Bool) : Nat := (l.zipIdx.map (fun p => if p.1 then 2 ^ p.2 else 0)).foldl (fun a b => a + b) 0

/-- The flits of a response (R260): 128 bytes of payload each, and one flit for a response without data. -/
def rspFlits (d : Delivered) : List Parked :=
  if d.bytes.isEmpty then [⟨[], 0, d.code, d.stream, d.len⟩]
  else ((chunks 128 2 d.bytes).zipIdx).map (fun p =>
    ⟨p.1, marksMask ((d.marks.drop (16 * p.2)).take 16), d.code, d.stream, p.1.length⟩)

/-- Whether the region's switch cycle still runs: no handshake completes up to its E1 (R80). -/
def State.inCycle (s : State) (r : Nat) : Bool :=
  match (s.region r).cyc with
  | some c => decide (s.now ≤ c.e1)
  | none => false

/-- A response flit for bank `b` of region `r` joins the bank's queue. There it is parked while the bank is not bound or the region does not run
(R100), or held (R195), or stands at NOC_RSP with NOC_RSP_VALID until NOC_RSP_ACCEPT is high, the oldest first (R57; log entry 88). -/
def State.regionRsp (s : State) (r b : Nat) (p : Parked) : State :=
  let s := s.setParked r b (s.parked r b ++ [p])
  if s.running r ∧ s.bankPtr r = b then s.holdStream r p.stream p.code else s

/-- A response for a region: a transfer's flit, an answer to a discarded request, or a response for its bank (R76, R100, R102). -/
def State.regionDelivery (s : State) (d : Delivered) : State :=
  let r := d.src - 0x40
  if d.bank = xferLane then s.xferAnswer r d
  else if d.tag = tagDiscard then s
  else
    let s := (rspFlits d).foldl (fun s p => s.regionRsp r d.bank p) s
    s.startXfer r

/-- Whether NOC_RSP_VALID is high: a response of the bound bank stands at the port, outside a switch cycle (R57, R100). -/
def State.rspValid (s : State) (r : Nat) : Bool :=
  s.running r && !s.inCycle r && (s.parked r (s.bankPtr r)).any (fun p => s.mayPresent r p.stream p.code)

/-- NOC_RSP_ACCEPT is high: the first response of the bound bank that may be presented is delivered (R57, R101, R195). -/
def State.deliverParked (s : State) (r : Nat) : State :=
  let b := s.bankPtr r
  if !s.running r || s.inCycle r then s
  else
    let s := (s.parked r b).foldl (fun s p => s.holdStream r p.stream p.code) s
    match (s.parked r b).findIdx? (fun p => s.mayPresent r p.stream p.code) with
    | none => s
    | some i =>
      match (s.parked r b)[i]? with
      | none => s
      | some p => (s.setParked r b ((s.parked r b).eraseIdx i)).presentRsp r p

end Sys2Proof.Machine
end

