-- ==== Sys2Proof/Machine/PowerOps.lean ====
section
/-!
DEFINITION. The operations on power domains that other families share: the wake queue (R456), the policy of a domain that is not ON
(R454), and the answers of regions that are retired or in reset (R460, R485).
-/
namespace Sys2Proof.Machine

/-! ### Domains (R449) -/

def domEngine (n : Nat) : Nat := 128 + n
def domQuad (q : Nat) : Nat := 192 + q
def domChannel (c : Nat) : Nat := 204 + c
def domPort (p : Nat) : Nat := 208 + p

/-- 5 µs in rc: the length of a ramp (R456). -/
def rampLen : Nat := 24000

/-- A domain joins the wake queue: it is WAKING, and ramps at once if fewer than 16 ramp (R456). -/
def State.joinWake (s : State) (d : Nat) : State :=
  let s := s.setDomState d dsWaking
  if s.pwr.ramps.length < 16 then
    { s with pwr := { s.pwr with ramps := s.pwr.ramps ++ [(d, s.now + rampLen)] } }
  else { s with pwr := { s.pwr with queue := s.pwr.queue ++ [d] } }

def State.heldFor (s : State) (d : Nat) : List (Nat × Nat) := tget (fun _ => []) s.pwr.held d

def State.setHeld (s : State) (d : Nat) (l : List (Nat × Nat)) : State :=
  let s := { s with pwr := { s.pwr with held := tput (fun _ => []) s.pwr.held d l } }
  s.setFld (Reg.PWR_DOM_STATUS d) Fld.PWR_DOM_STATUS_HELD l.length

/-- A request part is held under WAKE (R454): up to 16; the first sets WAKE_PENDING, and the domain wakes at once if it is OFF. -/
def State.holdRequest (s : State) (d id p : Nat) : State :=
  let l := s.heldFor d
  if l.contains (id, p) ∨ 16 ≤ l.length then s
  else
    let s := (s.arriveAt id p).setHeld d (l ++ [(id, p)])
    if l.isEmpty then
      let s := s.setFld (Reg.PWR_DOM_STATUS d) Fld.PWR_DOM_STATUS_WAKE_PENDING 1
      let s := s.setFld Reg.PWR_INT_STATUS Fld.PWR_INT_STATUS_WAKE_REQ 1
      if s.domState d = dsOff then s.joinWake d else s
    else s

/-- What becomes of a request part that reaches a domain as its target. -/
inductive Gate where
  /-- The block serves it. -/
  | open_
  /-- It stays where it is, behind requests held before it. -/
  | wait
  /-- The interface of the domain has dealt with it. -/
  | done (s : State)

/-- Whether a request part had reached domain `d` before the domain's power-down began: it is served (R452). -/
def State.servedBefore (s : State) (d id p : Nat) : Bool :=
  (tfind s.pwr.down d).any (fun x => (s.findReq id).any (fun r => (r.parts[p]?).any (fun q => q.arrivedAt.any (fun a => decide (a < x.1)))))

/-- The policy of domain `d` for a request part that reaches it (R454); `wake` treats it under WAKE whatever the policy (R455). The interface
of a memory channel whose gate is not RUNNING holds it (R446). -/
def State.domainGate (s : State) (d id p : Nat) (wake : Bool) : Gate :=
  if 204 ≤ d ∧ d ≤ 207 ∧ s.gateState (d - 124) ≠ 0 then .done (s.arriveAt id p)
  else if s.domState d = dsOn then
    (match s.heldFor d with
      | [] => .open_
      | h :: _ => if h = (id, p) then .open_ else .wait)
  else if s.servedBefore d id p then .open_
  else if wake || s.bit (Reg.PWR_DOM_CTL d) Fld.PWR_DOM_CTL_POLICY then .done (s.holdRequest d id p)
  else .done (s.respond id p (codeAnswer rDomainOff))

/-- A held request is taken up. -/
def State.unhold (s : State) (d id p : Nat) : State :=
  let l := s.heldFor d
  if l.contains (id, p) then s.setHeld d (l.filter (fun h => h != (id, p))) else s

/-- A reset that holds region `r`: warm, of its die, or of its rod part. -/
def State.regionHeld (s : State) (r : Nat) : Bool :=
  s.pwr.warmAt.isSome || s.bit (Reg.RST_DIE (if r < 64 then 1 else 3)) Fld.RST_DIE_ACTIVE ||
  (s.reg (Reg.RST_ROD (r % 64))).getLsbD (8 + r / 64)

/-- A request part that reaches a target in region `r` (R454, R460, R485). -/
def State.regionGate (s : State) (r id p : Nat) : Gate :=
  if s.rodRetired (r % 64) then .done (s.respond id p (codeAnswer rRetired))
  else match s.domainGate r id p false with
    | .open_ => if s.rstate r = rsReset ∨ s.regionHeld r then .done (s.respond id p (codeAnswer rReset)) else .open_
    | g => g

end Sys2Proof.Machine
end

