-- ==== Sys2Proof/Machine/Fabric.lean ====
section
/-!
DEFINITION. User clocks (R61–R63), deck RAM ports (R51–R53, R55, R56, R188) and the deck RAM window (R54), and the commands of
chapter 02.
-/
namespace Sys2Proof.Machine


/-! ### User clocks (R63) -/

def State.uclkQueue (s : State) (r k : Nat) : List (UClk × Nat) := tget (fun _ => []) s.fab.uclkNew (4 * r + k)

def State.setUclkQueue (s : State) (r k : Nat) (l : List (UClk × Nat)) : State :=
  { s with fab := { s.fab with uclkNew := tput (fun _ => []) s.fab.uclkNew (4 * r + k) l } }

def State.setUclk (s : State) (r k : Nat) (u : UClk) : State :=
  { s with fab := { s.fab with uclk := tput (fun _ => ⟨false, 0, 0⟩) s.fab.uclk (4 * r + k) u } }

/-- The control latency from the rod's control node to a region, in sc (R22, R63). -/
def ctlLatency (r : Nat) : Nat := if r < 64 then 2 else 4

/-- A write to PLANE_FAB_UCLK(k): the register reads as written, and the setting sets out for the region (R63, R66). -/
def State.uclkWrite (s : State) (r k v : Nat) : State :=
  let w := BitVec.ofNat 32 v &&& 0x8000FFFF
  let a := (s.now / scLen + ctlLatency r) * scLen
  (s.setReg (Reg.PLANE_FAB_UCLK r k) w).setUclkQueue r k (s.uclkQueue r k ++ [(uclkOf w, a)])

/-- The first setting that is applied by now: a setting that reached the region before the edge that would have applied an
earlier one takes its place (R63). Answers the setting, what is left of the queue, and the edge that applies it. -/
def State.uclkDue (s : State) (u : UClk) : List (UClk × Nat) → Option (UClk × List (UClk × Nat) × Nat)
  | [] => none
  | (v, a) :: l =>
    let e := s.fabTime (u.nextEdge (s.fabF a))
    match l with
    | (_, a') :: _ => if a' < e then s.uclkDue u l else if e ≤ s.now then some (v, l, e) else none
    | [] => if e ≤ s.now then some (v, [], e) else none

/-- The waiting setting of user clock `k` is applied, where its edge has come (R63). -/
def State.uclkApply (s : State) (r k : Nat) : State :=
  if s.epoch.isNone then s
  else match s.uclkDue (s.uclk r k) (s.uclkQueue r k) with
    | some (v, l, e) => ((s.settleRod (r % 64) e).setUclk r k v).setUclkQueue r k l
    | none => s

/-! ### Rows of a block (R51, R52, R55) -/

def ramBlock (r k : Nat) : Nat := 48 * r + k
def ramKey (r k row : Nat) : Nat := ramBlock r k * 512 + row

/-- A row, if it has been written since the domain came on. -/
def State.ramRow (s : State) (r k row : Nat) : Option Word72 := tfind s.fab.ram (ramKey r k row)

/-- A row as a write finds it: a row never written holds an unpredictable word. -/
def State.ramOld (s : State) (r k row : Nat) : Word72 := (s.ramRow r k row).getD (Config.freeWord72 s.fresh)

def State.setRam (s : State) (r k row : Nat) (w : Word72) : State :=
  { s with fab := { s.fab with ram := tins s.fab.ram (ramKey r k row) w } }

/-- A row written through `port`: what it held is kept for accesses of the same fc, and a merge under way for the row is
discarded (R53, R54). -/
def State.writeRam (s : State) (r k row port : Nat) (w : Word72) : State :=
  let old := s.ramOld r k row
  let s := if (s.ramRow r k row).isNone then s.draw else s
  let s := s.setRam r k row w
  { s with fab := { s.fab with
    ramLast := tins s.fab.ramLast (ramBlock r k) (s.now / fcLen, row, port, old)
    win := s.fab.win.map (fun x => if x.region = r then { x with merge := x.merge.filter (fun p => p.2.1 != k * 512 + row) } else x) } }

/-- What the other port wrote to this row in this same fc, as the row before that write. -/
def State.sameCycle (s : State) (r k row port : Nat) : Option Word72 :=
  match tfind s.fab.ramLast (ramBlock r k) with
  | some (f, row', port', old) => if f = s.now / fcLen ∧ row' = row ∧ port' ≠ port then some old else none
  | none => none

/-- A read found a correction or BAD (R66, R67). PATH: 0 port A, 1 port B, 2 window. -/
def State.countRam (s : State) (r k row path : Nat) (corr bad : Bool) : State :=
  let s := if corr then s.bump (Reg.PLANE_FAB_RAM_ERR r) Fld.PLANE_FAB_RAM_ERR_CORR 1 else s
  if bad then
    (s.bump (Reg.PLANE_FAB_RAM_ERR r) Fld.PLANE_FAB_RAM_ERR_UNCORR 1).logEvent (Reg.PLANE_FAB_RAM_UELOG r) (s.now / fcLen)
      ((k * 3 + path) * 512 + row) (BitVec.ofNat 32 (k * 2 ^ 16 + path * 2 ^ 12 + row)) [] none
  else s

/-- A row as a read presents it: the 72 bits with the data corrected, CORR and BAD (R52, R53, R55). A row never written gives an
unpredictable word and an unpredictable status. -/
def State.readRam (s : State) (r k row port : Nat) (ecc : Bool) : Word72 × Bool × Bool :=
  let w := (s.sameCycle r k row port).getD (s.ramOld r k row)
  if ecc then
    let d := decodeWord w
    (packWord (wordCheck w) d.2, d.1 == .corrected, d.1.bad)
  else if (s.ramRow r k row).isNone then
    (w, Config.freeNat s.fresh % 3 == 1, Config.freeNat s.fresh % 3 == 2)
  else (w, false, false)

/-! ### Fabric ports (R51–R53, R188) -/

/-- The width code's addresses per row and bits per address (R51). -/
def widthOf (c : Nat) : Nat × Nat :=
  match c with
  | 0 => (8, 9)
  | 1 => (4, 18)
  | 2 => (2, 36)
  | 3 => (1, 72)
  | _ => (1, 64)

/-- `n` bits of `w` from bit `lo`. -/
def getBits (w : Word72) (lo n : Nat) : Word72 := (w >>> lo) &&& BitVec.ofNat 72 (2 ^ n - 1)

/-- `w` with `n` bits from bit `lo` replaced. -/
def putBits (w : Word72) (lo n : Nat) (v : Nat) : Word72 :=
  (w &&& ~~~ (BitVec.ofNat 72 (2 ^ n - 1) <<< lo)) ||| (BitVec.ofNat 72 (v % 2 ^ n) <<< lo)

def State.setOut (s : State) (r k port : Nat) (o : PortOut) : State :=
  { s with fab := { s.fab with out := tins s.fab.out (ramBlock r k * 2 + port) o } }

/-- A design read of fabric address `a` through `port` (R51–R53, R300). Where WIDTH is 0b100 on one port alone, the other port keeps its own
division of rows and reads the row's 64 data bits (DESIGN CHOICE: log entry 86). -/
def State.portRead (s : State) (r k port a : Nat) : State :=
  let c := s.ramCfg r k
  let wd := widthOf (if port = 0 then c.widthA else c.widthB)
  let row := a / wd.1 % 512
  let x := s.readRam r k row port c.ecc
  let s := if (s.ramRow r k row).isNone then s.draw else s
  let word := if c.ecc then getBits x.1 0 64 else getBits x.1 (wd.2 * (a % wd.1)) wd.2
  let s := s.setOut r k port ⟨word, x.2.1, x.2.2, s.now⟩
  let s := if c.ecc then s.countRam r k row port x.2.1 x.2.2 else s
  if x.2.2 then s.regionConsume r 1 else s

/-- A design write of fabric address `a` through `port` (R51–R53). Port B's write is lost to port A's of the same row and fc; its echo shows
what it would have shown without port A's write (DESIGN CHOICE: log entry 86). -/
def State.portWrite (s : State) (r k port a v : Nat) : State :=
  let c := s.ramCfg r k
  let wd := widthOf (if port = 0 then c.widthA else c.widthB)
  let row := a / wd.1 % 512
  let base := (s.sameCycle r k row port).getD (s.ramOld r k row)
  let new := if c.ecc then encodeWord (BitVec.ofNat 64 v) else putBits base (wd.2 * (a % wd.1)) wd.2 v
  let lost := decide (port = 1) && (s.sameCycle r k row port).isSome
  let show_ (w : Word72) : Word72 := if c.ecc then getBits w 0 64 else getBits w (wd.2 * (a % wd.1)) wd.2
  let echo := if port = 0 then c.echoA else c.echoB
  let s' := if lost then s else s.writeRam r k row port new
  if echo = 0 then s'.setOut r k port ⟨show_ base, false, false, s.now⟩
  else if echo = 1 then s'.setOut r k port ⟨show_ new, false, false, s.now⟩
  else s'

/-- Whether clock line `l` has an edge now in column `c` of region `r` (R61, R62, R546). -/
def State.clockNow (s : State) (r c l : Nat) : Bool :=
  s.epoch.any (fun e => decide (e ≤ s.now ∧ (s.now - e) % fcLen = 0)) && (s.design r).edge (s.fabF s.now) c l

/-- Whether the design's ports of block `k` take an edge now: the region runs outside a switch cycle, and the block's clock line has one
(R51, R61, R79, R95). -/
def State.portEdge (s : State) (r k : Nat) : Bool :=
  s.running r && !s.inCycle r && s.clockNow r (ramColumn k) (s.ramCfg r k).clk

/-- The place of a port among those of the device. -/
def portKey (r k port : Nat) : Nat := ramBlock r k * 2 + port

/-- Whether a port has been used in this fc. -/
def State.portUsed (s : State) (r k port : Nat) : Bool := tfind s.fab.portUse (portKey r k port) == some (s.now / fcLen + 1)

def State.usePort (s : State) (r k port : Nat) : State :=
  { s with fab := { s.fab with portUse := tins s.fab.portUse (portKey r k port) (s.now / fcLen + 1) } }

/-- An access of a design port, where the configuration gives the port the direction (R51); while TP_SPEC is high a write is
suppressed, and a port that reads presents the word (R188). -/
def State.portAccess (s : State) (r k port a : Nat) (w : Option Nat) : State :=
  let c := s.ramCfg r k
  if !s.portEdge r k || c.mode == 0 then s
  else
    let s := s.usePort r k port
    match w with
    | none => if c.mode = 2 ∧ port = 0 then s else s.portRead r k port a
    | some v =>
      if c.mode = 2 ∧ port ≠ 0 then s
      else if s.tpSpec r then
        let s := s.setFld (Reg.TALLY_SPEC_REGION r) Fld.TALLY_SPEC_REGION_DRAM_WR 1
        if c.mode = 2 then s else s.portRead r k port a
      else s.portWrite r k port a v

/-! ### The window (R54) -/

def deckBase : Nat := 0x00A0_0000_0000

/-- The window words of a request part, counted from the start of the region's window. -/
def winWords (q : Part) : List Nat := (wordSpan (q.addr % 2 ^ 48 - deckBase) q.len).map (· % 0x8000)

/-- A request reaches the window of its region (R54, R102, R454, R460). -/
def State.windowAccess (s : State) (id p : Nat) : State :=
  match s.servable id p with
  | none => s
  | some (_, q) =>
    let a := q.addr % 2 ^ 48
    let r := (a - deckBase) / 0x40000
    if a < deckBase ∨ 128 ≤ r ∨ s.fab.win.any (fun x => x.id == id && x.part == p) then s
    else match s.regionGate r id p with
      | .open_ =>
        let s := (s.unhold r id p).arriveAt id p
        { s with fab := { s.fab with win := s.fab.win ++ [⟨r, id, p, s.now, winWords q, [], [], [], false⟩] } }
      | .wait => s
      | .done s => s

def State.setWin (s : State) (x : WinAcc) : State :=
  { s with fab := { s.fab with win := s.fab.win.map (fun y => if y.id = x.id ∧ y.part = x.part then x else y) } }

def State.dropWin (s : State) (id p : Nat) : State :=
  { s with fab := { s.fab with win := s.fab.win.filter (fun y => !(y.id == id && y.part == p)) } }

/-- Whether the window uses `port` of a block for a read or a write (R54): `aUsed` says whether port A is used in this fc, which alone lets a
write of a true dual-port block take port B. -/
def winPort (c : RamCfg) (write aUsed : Bool) (port : Nat) : Bool :=
  if c.mode = 0 then port == 0
  else if write then port == 0 || (c.mode == 1 && aUsed)
  else port == 1

/-- The answer to a window access whose last word has been served (R54, R292). -/
def State.windowAnswer (s : State) (x : WinAcc) : State :=
  match s.findReq x.id with
  | none => s.dropWin x.id x.part
  | some rq =>
    match rq.parts[x.part]? with
    | none => s.dropWin x.id x.part
    | some q =>
      let s := s.dropWin x.id x.part
      if rq.kind = .read then
        let word (w : Nat) : Word64 × Bool × Bool := (tfind x.got (w % 0x8000)).getD (0, false, false)
        let a := q.addr % 2 ^ 48 - deckBase
        let code := (winWords q).foldl (fun c w =>
          worseCode c (if (word w).2.2 then rPoison else if (word w).2.1 then rCorrected else rOK)) rOK
        s.respond x.id x.part ⟨code, bytesOfWords a q.len (fun w => (word w).1), (winWords q).map (fun w => (word w).2.2), false⟩
      else s.respond x.id x.part (codeAnswer rOK)

/-- One word of a window access is served through `port` of block `k` (R54): a read; a whole row; or one of the two cycles of a
partial ECC write. -/
def State.serveWord (s : State) (x : WinAcc) (rq : Request) (q : Part) (k port w : Nat) : State :=
  let r := x.region
  let row := w % 512
  let c := s.ramCfg r k
  let a := q.addr % 2 ^ 48 - deckBase
  let word := w + (a / 0x40000) * 0x8000
  let fresh := (s.ramRow r k row).isNone
  if rq.kind = .read then
    let v := s.readRam r k row port c.ecc
    let s := if fresh then s.draw else s
    let s := if c.ecc then s.countRam r k row 2 v.2.1 v.2.2 else s
    let x := { x with
      todo := x.todo.filter (· != w), got := tins x.got w (wordData v.1, v.2.1, v.2.2), last := tins x.last k (s.now / fcLen + 1) }
    if x.todo.isEmpty then (s.setWin x).windowAnswer x else s.setWin x
  else
    let be := byteEnables a q.len word
    let new := wordOfBytes a (partData rq q) word
    let mark := (partMarks rq q).getD (word - a / 8) false
    let lost := decide (port = 1) && (s.sameCycle r k row port).isSome
    let base := (s.sameCycle r k row port).getD (s.ramOld r k row)
    let held := (tfind x.merge k).filter (fun m => m.1 == w)
    if c.ecc && be != 0xFF && held.isNone then
      let d := decodeWord base
      let s := s.countRam r k row 2 (d.1 == .corrected) d.1.bad
      s.setWin { x with merge := tins x.merge k (w, base), last := tins x.last k (s.now / fcLen + 1) }
    else
      let old := (held.map (·.2)).getD base
      let v := if c.ecc then (writeWord old be new mark).1
        else packWord (wordCheck base) (mergeWord (wordData base) be new)
      let x := { x with
        todo := x.todo.filter (· != w), merge := tdel x.merge k, last := tins x.last k (s.now / fcLen + 1), wrote := true }
      let s := (s.setWin x)
      let s := if lost then s else s.writeRam r k row port v
      if x.todo.isEmpty then s.windowAnswer x else s

/-- The oldest window access that has a word to serve in block `k` of region `r`, and that word. -/
def State.nextWord (s : State) (r k : Nat) : Option (WinAcc × Nat) :=
  s.fab.win.findSome? (fun x => if x.region = r then (x.todo.find? (fun w => w / 512 == k)).map (fun w => (x, w)) else none)

/-- An idle cycle of `port` of block `k` (R54): the port serves one row, and the block one row of an access, in an fc. -/
def State.rowServe (s : State) (r k port : Nat) : State :=
  match s.nextWord r k with
  | none => s
  | some (x, w) =>
    match s.findReq x.id with
    | none => s.dropWin x.id x.part
    | some rq =>
      match rq.parts[x.part]? with
      | none => s.dropWin x.id x.part
      | some q =>
        if winPort (s.ramCfg r k) (rq.kind == .write) (s.portUsed r k 0) port && !s.portUsed r k port &&
            tfind x.last k != some (s.now / fcLen + 1) then
          (s.usePort r k port).serveWord x rq q k port w
        else s

/-- The target limit in rc (R274). -/
def State.tgtLimit (s : State) : Nat := s.fld Reg.NOC_TGT_LIMIT Fld.NOC_TGT_LIMIT_LIMIT * scLen

/-- A window access that has found no idle cycle within the target limit is answered ERR_TIMEOUT; rows already written stay
(R54). -/
def State.windowTimeout (s : State) (id p : Nat) : State :=
  match s.fab.win.find? (fun x => x.id == id && x.part == p) with
  | none => s
  | some x => if x.at_ + s.tgtLimit ≤ s.now then (s.dropWin id p).respond id p (codeAnswer rTimeout) else s

end Sys2Proof.Machine
end

