-- ==== Sys2Proof/Machine/Tally.lean ====
section
/-!
DEFINITION. The commands of chapters 05 and 06: creation, tokens, decisions, dispatch, done, spills, cancels, quiesce, templates,
and the resolution of speculative tallies at their region.
-/
namespace Sys2Proof.Machine


/-! ### Creation (R148, R154) -/

/-- The next record on the free list (R148): the last index freed, or the lowest index never issued. -/
def State.nextFree (s : State) : Option Nat :=
  match s.sch.free with
  | i :: _ => some i
  | [] => s.nextLive

/-- That record taken from the list. -/
def State.popFree (s : State) : State :=
  match s.sch.free with
  | _ :: l => { s with sch := { s.sch with free := l } }
  | [] => { s with sch := { s.sch with next := s.nextLive.getD s.sch.next + 1 } }

/-- CSTAT of a creation (R154). -/
def cstatFull : Nat := 1
def cstatDisabled : Nat := 2

/-- A tally of template `tm` is created: the state after, and the 64-bit answer (R149, R154, R182). -/
def State.create (s : State) (tm : Nat) : State × Nat :=
  if !s.tEn tm || !s.storeReady then (s, cstatDisabled * 2 ^ 60)
  else match s.nextFree with
    | none => (s.setFld Reg.TALLY_INT_STATUS Fld.TALLY_INT_STATUS_FULL 1, cstatFull * 2 ^ 60)
    | some i =>
      let g := (s.trec i).gen
      let d := (s.tallyNow + (s.reg (Reg.TALLY_TMPL_DEADLINE tm)).toNat) % 2 ^ 48
      let c := s.tSpecCtl tm
      let x : TallyRec := { recZero with
        state := tsWaiting, template := tm, gen := g, deadline := d, created := s.tallyNow, fillAt := s.scNow,
        specSlot := if s.tSpec tm then specSlotOf c else 0, specLate := s.tSpec tm && specMode c == 2 }
      (s.popFree.setRec i x, mkHandle i g)

/-- The create window's template for a control offset (R154). -/
def createTemplate (off : Nat) : Option Nat :=
  if 0x160000 ≤ off ∧ off < 0x168000 then some ((off - 0x160000) / 8) else none

/-- A read of the create window is performed: eight bytes create, four bytes read zero (R154). -/
def State.createRead (s : State) (id p : Nat) : State :=
  match s.servable id p with
  | none => s
  | some (rq, q) =>
    match createTemplate (q.addr % 2 ^ 48 - ctlBase) with
    | none => s
    | some tm =>
      if rq.kind ≠ .read ∨ q.addr % 2 ^ 48 < ctlBase ∨ !s.isLocal q.addr then s
      else if q.len = 8 then
        let c := s.create tm
        c.1.respond id p ⟨rOK, toBytes 8 c.2, [false], false⟩
      else s.respond id p ⟨rOK, toBytes q.len 0, [false], false⟩

/-! ### Tokens (R155–R159) -/

/-- The sources whose head token may be taken at this edge: not empty, not waiting for a fetch, not served yet at this edge. -/
def State.mayTake (s : State) (src : Nat) : Bool :=
  !(s.tokens src).isEmpty && (tfind s.sch.fetch src).isNone &&
  !(s.sch.taken == s.scNow && (s.sch.takenOf.contains src || s.sch.passed.contains src))

/-- The queue whose turn it is: ascending source number, starting after the last queue served (R157). -/
def State.nextSource (s : State) : Option Nat :=
  match (List.range 270).find? (fun n => decide (s.sch.served < n) && s.mayTake n) with
  | some n => some n
  | none => (List.range 270).find? (fun n => decide (n ≤ s.sch.served) && s.mayTake n)

/-- A window expiry that falls at this edge precedes the fill of a token taken at it (R193): V − 1 sc has come. -/
def State.windowOver (s : State) (i : Nat) : Bool :=
  let x := s.trec i
  let v := x.specE1 + 2 ^ (specWindow (s.tSpecCtl x.template) - 1)
  x.state == tsSpec && x.specLate && !x.full.testBit x.specSlot && decide ((s.tallyNow + 1 + 2 ^ 48 - v) % 2 ^ 48 < 2 ^ 47)

/-- The tally is squashed with WINDOW (R193). -/
def State.expire (s : State) (i : Nat) : State :=
  let r := (s.trec i).unit
  (s.squashRec r i sqWindow tsWaiting).sendSquash r sqWindow (s.now / scLen * scLen)

/-- The head token of queue `src` is checked against its record, and fills its slot at the next sc edge (R157). -/
def State.matchToken (s : State) (src : Nat) : State :=
  match s.tokens src with
  | [] => s
  | k :: l =>
    let s := (s.setTokens src l).pullEvent src
    if !s.current k.handle then s.refuseToken refStale src k
    else
      let i := handleIdx k.handle
      if s.tNops (s.trec i).template + 1 ≤ k.slot then s.refuseToken refSlot src k
      else if (s.trec i).full.testBit k.slot ∨ s.sch.fills.any (fun f => f.1 == i && f.2.2.2.slot == k.slot) then s.refuseToken refDup src k
      else
        let s := if s.windowOver i then s.expire i else s
        ({ s with sch := { s.sch with fills := s.sch.fills ++ [(i, s.scNow + 1, src, k)] } }).later s.scNext .fills

/-- The matching store takes the token whose turn it is, up to four at one edge (R157); one that misses the record cache starts a
fetch, of which sixteen may be outstanding: a further miss waits at the head of its own queue (R158, R159). -/
def State.takeToken (s : State) (miss : Bool) : State :=
  if !s.storeReady || (s.sch.taken == s.scNow && decide (4 ≤ s.sch.takenOf.length)) then s
  else match s.nextSource with
    | none => s
    | some src =>
      let s := if s.sch.taken = s.scNow then s else { s with sch := { s.sch with taken := s.scNow, takenOf := [], passed := [] } }
      if miss ∧ 16 ≤ s.sch.fetch.length then { s with sch := { s.sch with passed := s.sch.passed ++ [src] } }
      else
        let s := { s with sch := { s.sch with takenOf := s.sch.takenOf ++ [src], served := src } }
        if miss then { s with sch := { s.sch with fetch := tins s.sch.fetch src s.scNow } } else s.matchToken src

/-- A record fetch has ended, at least 12 sc after it began (R159): the token that waits for it is matched. -/
def State.fetchDone (s : State) (src : Nat) : State :=
  match tfind s.sch.fetch src with
  | none => s
  | some a =>
    if s.scNow < a + 12 then s
    else ({ s with sch := { s.sch with fetch := tdel s.sch.fetch src } }).matchToken src

/-! ### What a region issues (R101, R160, R187, R191, R194) -/

def bufMax : Nat := 64

/-- The entries of a commit buffer that count against its 64: tokens and requests. -/
def bufCount (l : List BufEntry) : Nat := l.countP (fun e => match e with | .marker _ _ _ _ => false | _ => true)

/-- Whether a request of a region with these properties goes into the commit buffer (R187, R191). -/
def State.buffers (s : State) (r stream : Nat) (kind : Option ReqKind) (addr : Nat) : Bool :=
  let y := s.sreg r
  (y.draining && !y.buf.isEmpty) ||
  (y.tpSpec && (kind != some .read || decide (ctlBase ≤ addr % 2 ^ 48 ∧ addr % 2 ^ 48 < ctlBase + 0x100_0000) ||
    y.buf.any (fun e => match e with
      | .request _ st k _ _ _ _ => st == stream || k == .fence
      | .bad _ st _ _ => st == stream
      | _ => false)))

/-- A request enters the network interface of region `r`, tagged with bank `b`: a fence, or any other kind. -/
def State.regionAccept (s : State) (r b stream : Nat) (kind : ReqKind) (addr len : Nat) (data : List Byte) (marks : List Bool) :
    State :=
  if kind = .fence then s.acceptFence (srcRegion r) b stream allStreams [stream] true 0
  else s.accept (srcRegion r) b stream kind addr len data marks none 0

/-- Whether the interface takes a request of bank `b` now (R101). -/
def State.roomFor (s : State) (r b : Nat) (kind : ReqKind) (len : Nat) : Bool :=
  !kind.nonPosted || decide (s.bankOutstanding r b + (s.parked r b).length + kind.rspFlits len ≤ 32)

/-- A request issued at the NoC port of a RUNNING region, outside its switch cycles (R57, R80), where no other has been accepted and no
capture unit has written at this fc edge (R375): taken by the commit buffer or by the interface, or not accepted yet. -/
def State.regionRequest (s : State) (r stream : Nat) (kind : ReqKind) (addr len : Nat) (data : List Byte) (marks : List Bool) :
    State :=
  if !s.running r || s.inCycle r || s.domState r != dsOn || !s.portFree r then s
  else
    let b := s.bankPtr r
    if !s.roomFor r b kind len then s
    else if s.buffers r stream (some kind) addr then
      if bufMax ≤ bufCount (s.sreg r).buf then s
      else (s.takePort r).mapSreg r (fun y => { y with buf := y.buf ++ [.request b stream kind addr len data marks] })
    else (s.takePort r).regionAccept r b stream kind addr len data marks

/-- A request of a kind that the table of R259 does not list, at the NoC port of a region (R187, R191, R259). -/
def State.regionBad (s : State) (r stream addr len : Nat) : State :=
  let b := s.bankPtr r
  if !s.running r || s.inCycle r || s.domState r != dsOn || !s.portFree r || !s.roomFor r b .read 1 then s
  else if s.buffers r stream none addr then
    if bufMax ≤ bufCount (s.sreg r).buf then s
    else (s.takePort r).mapSreg r (fun y => { y with buf := y.buf ++ [.bad b stream addr len] })
  else (s.takePort r).acceptBadKind (srcRegion r) b stream addr len 0

/-- A token at the token output of a RUNNING region (R160, R187, R191): into the commit buffer, or into the region's queue. -/
def State.regionToken (s : State) (r : Nat) (k : Token) : State :=
  let y := s.sreg r
  if !s.running r || s.inCycle r then s
  else if y.tpSpec || !y.buf.isEmpty then
    if bufMax ≤ bufCount y.buf then s else s.setSreg r { y with buf := y.buf ++ [.token k] }
  else if s.queueFull (64 + r) then s
  else s.pushToken (64 + r) k

/-! ### Decisions (R162–R166, R170, R175) -/

/-- The decisions of one sc edge, at most two (R164). A selection that a cancel of the same edge names is void, and its decision is
lost (R175); what the first has selected, the second does not. -/
def State.decisions (s : State) : State :=
  if !s.decisionsAllowed || s.sch.decided == s.scNow + 1 then s
  else
    let s := { s with sch := { s.sch with decided := s.scNow + 1 } }
    let a := State.firstPlaced [] s.candidates s
    (State.firstPlaced (a.2.map (·.2)).toList (a.1.candidates.filter (fun c => a.2.all (fun x => x.1 != c.1))) a.1).1

/-- A decision reaches the beam at Q + 1 sc (R166). -/
def State.dispatchAtBeam (s : State) (r : Nat) : State :=
  match (s.sreg r).disp with
  | none => s
  | some d =>
    let x := d.q / scLen * scLen + scLen
    if d.atBeam ∨ s.now < x then s
    else
      let s := s.mapSreg r (fun y => { y with disp := some { d with atBeam := true } })
      s.addSwReq r ⟨x, x + fcLen, .sched, .dispatch d.plane d.bank d.init d.resume (s.handleOf d.idx)⟩

/-! ### Done (R161, R168, R192) -/

/-- The tally whose done may be accepted in region `r` now. -/
def State.doneTally (s : State) (r : Nat) : Option Nat :=
  let y := s.sreg r
  match y.leaving with
  | some (j, e0) => if s.now ≤ e0 ∧ (s.trec j).state = tsSuspended ∧ y.bound = some j then some j else none
  | none =>
    match y.bound with
    | some i => if (s.trec i).state = tsRunning ∧ (s.trec i).placed ∧ !(s.trec i).engine ∧ (s.trec i).unit = r then some i else none
    | none => none

/-- TP_DONE is accepted (R161, R192): the task is no longer bound, and its record is freed at the first sc edge after. -/
def State.taskDone (s : State) (r : Nat) : State :=
  if !s.running r || s.inCycle r || !(s.sreg r).buf.isEmpty || s.bankOutstanding r (s.bankPtr r) != 0 then s
  else match s.doneTally r with
    | none => s
    | some i =>
      (s.mapSreg r (fun y => { y.clearTp with leaving := none })).later s.scNext (.taskEnd r (s.handleOf i))

/-- Whether the scheduler is to isolate region `r` (R177, R469). -/
def State.quiescing (s : State) (r : Nat) : Bool :=
  s.bit (Reg.TALLY_REGION r) Fld.TALLY_REGION_QUIESCE || s.mode == modeQuiesce

/-- At this sc edge the scheduler decides to isolate region `r`, if no tally runs in it; the isolation takes effect at I = Q + 1 sc + 1 fc, and
no decision is made for the region until the E1 that a decision would have (R164, R177). -/
def State.quiesceAt (s : State) (r : Nat) : State :=
  let y := s.sreg r
  if !s.quiescing r || !s.scheduled r || !s.running r || (s.runningIn r).isSome || y.isoAt.isSome then s
  else if s.now < y.busyUntil then s.later ((y.busyUntil + scLen - 1) / scLen * scLen) (.quiesce r)
  else s.mapSreg r (fun y => { y with isoAt := some (s.now + scLen + fcLen), busyUntil := s.now + 2 * scLen })

/-- The record of a task that is done is freed (R161, R168). -/
def State.taskEnd (s : State) (r h : Nat) : State :=
  if s.current h then (s.freeRec (handleIdx h)).quiesceAt r else s

/-! ### Spills (R171–R173) -/

/-- TALLY_SPILL_ACK(n) with ACK = 1: the request is no longer posted, and its effect comes at the next sc edge (R172). -/
def State.spillAck (s : State) (n outcome : Nat) : State :=
  match tfind s.sch.jobs n with
  | none => s
  | some j =>
    (({ s with sch := { s.sch with jobs := tdel s.sch.jobs n } }).setFld (Reg.TALLY_SPILL_REQ n) Fld.TALLY_SPILL_REQ_VALID 0).later s.scNext
      (.spillEnd j outcome)

/-- The next request that waits for engine `n` is posted, if none is (R172). -/
def State.nextJob (s : State) (n : Nat) : State :=
  match s.sch.jobWait.find? (fun j => j.region % 64 == n) with
  | some j => if (tfind s.sch.jobs n).isSome then s else ({ s with sch := { s.sch with jobWait := s.sch.jobWait.erase j } }).postJob j
  | none => s

/-- What an acknowledged spill or restore does to its tally, its slot and the candidate held for the region (R172, R173). -/
def State.spillDone (s : State) (j : SpillJob) (outcome : Nat) : State :=
    let live := (s.trec j.idx).state = tsXfer
    let s := s.mapSreg j.region (fun y => { y with waiting := none })
    if j.dir then
      let s := s.releaseSlot j.region j.slot
      if !live then s
      else if outcome = 0 then s.mapRec j.idx (fun x => { x with state := tsSuspended, bank := j.bank })
      else
        let h := s.handleOf j.idx
        (s.freeRec j.idx).logFault faultRestore j.region h
    else if !live then s.releaseSlot j.region j.slot
    else if outcome = 0 then
      (s.mapRec j.idx (fun x => { x with state := tsSpilled, spillSlot := j.slot })).bumpWrap Reg.TALLY_CNT_SPILL Fld.TALLY_CNT_SPILL_COUNT 1
    else
      let s := (s.mapRec j.idx (fun x => { x with state := tsSuspended })).releaseSlot j.region j.slot
      (s.setFld (Reg.TALLY_SPILL_CFG j.region) Fld.TALLY_SPILL_CFG_EN 0).logFault faultSpill j.region (s.handleOf j.idx)

/-- At the sc edge after the acknowledgement. -/
def State.spillEnd (s : State) (j : SpillJob) (outcome : Nat) : State := (s.spillDone j outcome).nextJob (j.region % 64)

/-! ### Cancels (R174, R175, R201) -/

def cancCancelled : Nat := 0
def cancStale : Nat := 1
def cancLate : Nat := 2

/-- A cancel sets out for its edge K. -/
def State.addCancel (s : State) (o : CancelBy) (h k : Nat) : State :=
  { s with sch := { s.sch with cancels := s.sch.cancels ++ [⟨o, h % 2 ^ 28, k⟩] } }

/-- The cancelled tally no longer waits for a bank (R170). -/
def State.unwait (s : State) (i : Nat) : State :=
  match s.sch.region.find? (fun q => q.2.waiting == some i) with
  | some (r, _) => s.mapSreg r (fun y => { y with waiting := none })
  | none => s

/-- A cancel of handle `h` takes effect at the sc edge of now: the state after, and the outcome (R174, R201). -/
def State.cancel (s : State) (h : Nat) : State × Nat :=
  if !s.current h then (s, cancStale)
  else
    let i := handleIdx h
    let x := s.trec i
    if x.state = tsWaiting ∨ x.state = tsReady then ((s.freeRec i).unwait i, cancCancelled)
    else if x.state = tsSuspended then
      ((s.freeRec i).discard x.unit (2 ^ x.bank), cancCancelled)
    else if x.state = tsSpilled then ((s.freeRec i).releaseSlot x.unit x.spillSlot, cancCancelled)
    else if x.state = tsSpec ∧ x.full.testBit x.specSlot ∧ x.fillAt = s.scNow then
      let z := s.now / scLen * scLen
      (((s.squashRec x.unit i sqCancel tsSpec).freeRec i).sendSquash x.unit sqCancel z, cancCancelled)
    else (s, cancLate)

/-- The oldest cancel whose edge K has come is evaluated, and its outcome goes to where it came from (R174). -/
def State.evaluateCancel (s : State) : State :=
  match s.sch.cancels.find? (fun c => decide (c.k ≤ s.now)) with
  | none => s
  | some c =>
    if !s.storeReady then s
    else
      let s := { s with sch := { s.sch with cancels := s.sch.cancels.erase c } }
      let x := s.cancel c.handle
      match c.origin with
      | .reg => (x.1.setFld Reg.TALLY_CANCEL_STAT Fld.TALLY_CANCEL_STAT_DONE 1).setFld Reg.TALLY_CANCEL_STAT
          Fld.TALLY_CANCEL_STAT_OUTCOME x.2
      | o => { x.1 with sch := { x.1.sch with answers := x.1.sch.answers ++ [(o, x.2, c.k)] } }

/-! ### Quiesce and isolation (R177, R200) -/

/-- A SPECULATIVE tally of region `r` is squashed with QUIESCE (R200). -/
def State.quiesceSpec (s : State) (r : Nat) : State :=
  match s.specIn r with
  | some i => (s.squashRec r i sqQuiesce tsWaiting).sendSquash r sqQuiesce (s.now / scLen * scLen)
  | none => s

/-- A write to TALLY_REGION(r). -/
def State.quiesceWrite (s : State) (r : Nat) (v : Bool) : State :=
  let s := s.setFld (Reg.TALLY_REGION r) Fld.TALLY_REGION_QUIESCE (b2n v)
  if v then (s.quiesceSpec r).later s.scNext (.quiesce r) else s

/-- The isolation that the scheduler has decided takes effect at its edge I, whatever has become of QUIESCE since (R177). -/
def State.schedIsolate (s : State) (r : Nat) : State :=
  match (s.sreg r).isoAt with
  | some e =>
    if s.now < e then s
    else
      let s := s.mapSreg r (fun y => { y with isoAt := none })
      if s.scheduled r ∧ s.running r then s.isolateOver r e else s
  | none => s

/-! ### Templates (R151–R153, R180) -/

def tmEnabled : Nat := 0
def tmNoTarget : Nat := 1
def tmBadMode : Nat := 2
def tmBankClash : Nat := 3
def tmSpec : Nat := 4

/-- The speculation fields of a template are refused (R180). -/
def State.specBad (s : State) (tm : Nat) : Bool :=
  let c := s.tSpecCtl tm
  let mode := specMode c
  if s.tSpec tm then
    s.tKindEngine tm || s.tFixed tm || mode == 0 || mode == 3 || decide (s.tNops tm < specSlotOf c) ||
    (mode == 1 && specWindow c != 0) || (mode == 2 && specWindow c == 0)
  else c != 0

/-- The checks of a write that sets EN, in their order (R152). -/
def State.enableCheck (s : State) (tm : Nat) : Nat :=
  let tg := s.tTargets tm
  let bm := s.fld (Reg.TALLY_TMPL_CTL tm) Fld.TALLY_TMPL_CTL_BANK_MODE
  if tg = 0 ∨ (s.tKindEngine tm ∧ 2 ^ 64 ≤ tg) then tmNoTarget
  else if 2 ≤ bm ∨ (s.tKindEngine tm ∧ (s.tPreempt tm ∨ bm ≠ 0)) then tmBadMode
  else if s.tFixed tm ∧ s.enabledTemplates.any (fun u =>
      u != tm && s.tFixed u && s.tBank u == s.tBank tm && decide (s.tTargets u &&& tg ≠ 0)) then tmBankClash
  else if s.specBad tm then tmSpec
  else tmEnabled

/-- The bits of word 0 that LOCKED guards (R151). -/
def tmplMask : Word32 := 0x7F37FF00

/-- A write to word 0 of template `tm` (R151, R152). -/
def State.templateWrite (s : State) (tm v : Nat) : State :=
  let a := Reg.TALLY_TMPL_CTL tm
  let w := BitVec.ofNat 32 v
  let en := s.tEn tm
  let s := if s.tLocked tm then s else s.setReg a ((s.reg a &&& 0x80000000) ||| (w &&& tmplMask))
  if !w.getLsbD 31 then s.setFld a Fld.TALLY_TMPL_CTL_EN 0
  else if en then s
  else
    let c := s.enableCheck tm
    let s := (s.setFld Reg.TALLY_TMPL_RESULT Fld.TALLY_TMPL_RESULT_TEMPLATE tm).setFld Reg.TALLY_TMPL_RESULT
      Fld.TALLY_TMPL_RESULT_OUTCOME c
    if c = tmEnabled then s.setFld a Fld.TALLY_TMPL_CTL_EN 1 else s

/-! ### Speculation at the region (R185, R191, R193, R195, R196, R198) -/

/-- Commit reaches the region at M (R191): TP_SPEC falls, a LATE slot takes its value, the buffer begins to drain, and what was
withheld is reported. -/
def State.commitAtRegion (s : State) (r : Nat) : State :=
  match (s.sreg r).commitAt, (s.sreg r).bound with
  | some m, some i =>
    if s.now < m ∨ !(s.sreg r).tpSpec then s
    else
      let x := s.trec i
      let late := x.specLate && x.poison.testBit x.specSlot
      let paths := (s.sreg r).withheld ++ (if late then [2] else [])
      let s := s.mapSreg r (fun y => { y with
        tpSpec := false, tpResolved := some m, commitAt := none, tpOps := if x.specLate then x.ops else y.tpOps,
        tpPoison := if x.specLate then x.poison else y.tpPoison, draining := !y.buf.isEmpty, withheld := [], heldOn := [] })
      paths.foldl (fun s p => s.regionConsume r p) s
  | _, _ => s

/-- The commit buffer releases its oldest entry, if it can go (R191). -/
def State.bufferRelease (s : State) (r : Nat) : State :=
  let y := s.sreg r
  let pop (s : State) : State := s.mapSreg r (fun y => { y with buf := y.buf.tail, draining := !y.buf.tail.isEmpty })
  if !y.draining then s
  else match y.buf with
    | [] => s
    | .token k :: _ => if s.queueFull (64 + r) then s else pop (s.pushToken (64 + r) k)
    | .marker bank st b h :: _ => pop (s.placeMarker (srcRegion r) bank st b h)
    | .request b st kind addr len data marks :: _ => pop (s.regionAccept r b st kind addr len data marks)
    | .bad b st addr len :: _ => pop (s.acceptBadKind (srcRegion r) b st addr len 0)

/-- The window of a LATE tally in region `r` is over (R193). -/
def State.windowExpiry (s : State) (r : Nat) : State :=
  match s.specIn r with
  | some i => if s.windowOver i then s.expire i else s
  | none => s

/-- The squash of a speculative task takes effect at its E0 (R198). -/
def State.squashSwitch (s : State) (r : Nat) : State :=
  match (s.sreg r).squash with
  | none => s
  | some q =>
    if s.now < q.e0 then s
    else
      let b := s.bankPtr r
      let s := (s.dropBank r b).emptyBuffer r
      if s.running r ∧ !s.beamReset then s.switchAt r q.e0 .sched (s.planePtr r) b true false else s

end Sys2Proof.Machine
end

