-- ==== Sys2Proof/Machine/Links.lean ====
section
/-!
DEFINITION. Links, routers and routes (R251–R273): the flit at a router input, retry, the leaky bucket, retirement and death, the
route computation, the flip, and the commands of chapter 09 on them.
-/
namespace Sys2Proof.Machine


/-! ### The torus (R14, R251) -/

def dirN : Nat := 0
def dirE : Nat := 1
def dirS : Nat := 2
def dirW : Nat := 3

/-- The router behind port `p` (N, E, S, W) of router `n`. -/
def neighbour (n p : Nat) : Nat :=
  let x := n % 8
  let y := n / 8 % 8
  match p with
  | 0 => (y + 1) % 8 * 8 + x
  | 1 => y * 8 + (x + 1) % 8
  | 2 => (y + 7) % 8 * 8 + x
  | _ => y * 8 + (x + 7) % 8

/-- The port at the other end of a link, and the opposite direction. -/
def opposite (p : Nat) : Nat := (p + 2) % 4

/-- Whether the link of port `p` of router `n` is a wrap link (R251). -/
def isWrap (n p : Nat) : Bool :=
  match p with
  | 0 => n / 8 % 8 == 7
  | 1 => n % 8 == 7
  | 2 => n / 8 % 8 == 0
  | _ => n % 8 == 0

/-- Link states (NOC_LINK.STATE). -/
def lkActive : Nat := 0
def lkRetired : Nat := 1
def lkDead : Nat := 2
def State.linkState (s : State) (n p : Nat) : Nat := s.fld (Reg.NOC_LINK n p) Fld.NOC_LINK_STATE

/-! ### Link ends (R264) -/

/-- The key of port `p` of router `n`: 0–3 the network ports, 4 + c the attachment of local port code c. -/
def linkKey (n p : Nat) : Nat := 16 * n + p

def txIdle : LinkTx := ⟨0, [], []⟩
def rxIdle : LinkRx := ⟨0, 0, 0, false, []⟩

def State.ltx (s : State) (n p : Nat) : LinkTx := tget (fun _ => txIdle) s.noc.tx (linkKey n p)
def State.setLtx (s : State) (n p : Nat) (x : LinkTx) : State :=
  { s with noc := { s.noc with tx := tput (fun _ => txIdle) s.noc.tx (linkKey n p) x } }
def State.lrx (s : State) (n p : Nat) : LinkRx := tget (fun _ => rxIdle) s.noc.rx (linkKey n p)
def State.setLrx (s : State) (n p : Nat) (x : LinkRx) : State :=
  { s with noc := { s.noc with rx := tput (fun _ => rxIdle) s.noc.rx (linkKey n p) x } }

/-! ### Flits (R257, R261, R262) -/

end Sys2Proof.Machine
namespace Sys2Proof
open Machine

def Flit.header (f : Flit) : BitVec 128 := (f.segs.headD 0).setWidth 128

/-- Bits `hi:lo` of a header. -/
def hdrBits (h : BitVec 128) (hi lo : Nat) : Nat := h.toNat / 2 ^ lo % 2 ^ (hi + 1 - lo)

/-- A header with bits `hi:lo` replaced. -/
def hdrPut (h : BitVec 128) (hi lo v : Nat) : BitVec 128 :=
  BitVec.ofNat 128 (h.toNat - hdrBits h hi lo * 2 ^ lo + v % 2 ^ (hi + 1 - lo) * 2 ^ lo)

def Flit.kind (f : Flit) : Nat := hdrBits f.header 42 40
def Flit.seq (f : Flit) : Nat := hdrBits f.header 39 32

def kindWriteFull : Nat := 2
def kindFence : Nat := 3
def kindMarker : Nat := 4
def kindToken : Nat := 5
def kindCont : Nat := 6

/-- A flit with another header; the check bits of segment 0 are fresh. -/
def Flit.withHeader (f : Flit) (h : BitVec 128) : Flit := { f with segs := encodeSeg h false false :: f.segs.tail }

/-- The ROUTE field, and the header with another (R261). WRITE_FULL holds 36 bits of it. -/
def Flit.route (f : Flit) : Nat :=
  if f.kind = kindWriteFull then hdrBits f.header 127 92 else hdrBits f.header 127 80

def Flit.withRoute (f : Flit) (r : Nat) : Flit :=
  f.withHeader (if f.kind = kindWriteFull then hdrPut f.header 127 92 r else hdrPut f.header 127 80 r)

/-- Word `w` of the payload, 0–15. -/
def Flit.word (f : Flit) (w : Nat) : Nat := (f.segs.getD (1 + w / 2) 0).toNat / 2 ^ (64 * (w % 2)) % 2 ^ 64

/-- The 128 payload bytes. -/
def Flit.payload (f : Flit) : List Byte := (List.range 16).flatMap (fun w => toBytes 8 (f.word w))

/-- The header as the CRC covers it: ROUTE, SEQ and CRC zero (R262). -/
def Flit.crcHeader (f : Flit) : List Byte :=
  let h := (f.withRoute 0).header
  toBytes 16 (hdrPut (hdrPut h 39 32 0) 31 0 0).toNat

/-- The CRC of a one-flit packet, or of both flits of a two-flit packet (R262). -/
def packetCrc (f : Flit) (cont : Option Flit) : Nat :=
  crc32c (f.crcHeader ++ f.payload ++ (match cont with
    | some c => c.payload
    | none => []))

/-- The 52-bit address of a request packet (R261). -/
def Flit.addr (f : Flit) : Nat :=
  if f.kind = kindWriteFull then hdrBits f.header 58 55 * 2 ^ 48 + hdrBits f.header 91 59 * 128 else f.word 15 % 2 ^ 52

/-- VC[2]: the class. -/
def Flit.response (f : Flit) : Bool := f.vc / 4 % 2 == 1

/-- Whether a CONT follows this flit: a DATA or WRITE_FULL packet of more than 128 bytes (R260). -/
def Flit.hasCont (f : Flit) : Bool :=
  if f.response then f.kind == 0 && decide (128 ≤ hdrBits f.header 67 60) else f.kind == kindWriteFull && hdrBits f.header 31 0 == 0

end Sys2Proof
namespace Sys2Proof.Machine

/-! ### Discards (R262, R265, R271, R273) -/

def dcDead : Nat := 0
def dcRoute : Nat := 1
def dcMisroute : Nat := 2
def dcCrc : Nat := 3

/-- The request to whose initiator a response packet goes: the one that `lost` names, or the oldest with an answer on its way from the target
and on the stream that the header names. -/
def State.answered_ (s : State) (f : Flit) (lost : Option (Nat × Nat)) : Option Request :=
  (lost.bind (fun x => s.findReq x.1)) <|>
  s.noc.reqs.find? (fun r => r.parts.any (fun p => p.router == hdrBits f.header 55 50 && p.port == hdrBits f.header 49 47 &&
    p.stream == hdrBits f.header 46 44 && p.answer.isSome && !p.returned))

/-- A packet is discarded at router `n` (R273); SRC of a response is the initiator that it was going to, which its header does not name. -/
def State.discardPacket (s : State) (n reason : Nat) (f : Flit) (lost : Option (Nat × Nat)) : State :=
  let s := s.bump Reg.NOC_DISCARD_CNT Fld.NOC_DISCARD_CNT_COUNT 1
  let s := if reason = dcCrc then s.setFld Reg.NOC_INT_STATUS Fld.NOC_INT_STATUS_CRC 1
    else s.setFld Reg.NOC_INT_STATUS Fld.NOC_INT_STATUS_DISCARD 1
  let src := if f.response then (match s.answered_ f lost with
      | some r => r.src
      | none => Config.freeNat s.fresh % 256) else hdrBits f.header 54 47
  let who := if reason = dcCrc then 0 else f.kind * 2 ^ 19 + hdrBits f.header 46 44 * 2 ^ 15 + src
  s.draw.logEvent Reg.NOC_DISCARD_LOG (s.now / ncLen) n
    (BitVec.ofNat 32 (reason * 2 ^ 28 + n * 2 ^ 22 + b2n f.response * 2 ^ 18 + who)) [] none

/-- A request part whose packet, or whose answer, has been discarded: it is not performed, and no answer comes (R271). -/
def State.losePart (s : State) (id p : Nat) : State :=
  (s.mapPart id p (fun q => { q with performed := true, answer := none, ended := false })).sweep

/-! ### Retirement (R269, R270) -/

/-- A route computation is requested (R267): it starts, or waits, or one waits already. -/
def State.requestRecompute (s : State) : State :=
  if !s.bit Reg.NOC_STATUS Fld.NOC_STATUS_RECOMP_BUSY then
    { s.setFld Reg.NOC_STATUS Fld.NOC_STATUS_RECOMP_BUSY 1 with noc := { s.noc with recomp := some 0 } }
  else s.setFld Reg.NOC_STATUS Fld.NOC_STATUS_RECOMP_QUEUED 1

/-- A link retires in both directions (R270). -/
def State.retireLink (s : State) (n p : Nat) : State :=
  if s.linkState n p ≠ lkActive then s
  else
    let m := neighbour n p
    let s := (s.setFld (Reg.NOC_LINK n p) Fld.NOC_LINK_STATE lkRetired).setFld (Reg.NOC_LINK m (opposite p)) Fld.NOC_LINK_STATE lkRetired
    let s := s.setFld Reg.NOC_INT_STATUS Fld.NOC_INT_STATUS_RETIRED 1
    if s.bit Reg.NOC_CTL Fld.NOC_CTL_AUTO_REROUTE then s.requestRecompute else s

/-- Whether one unit of the bucket of port `p` of router `n` is due to leak by the present sc (R269). -/
def State.leakDue (s : State) (n p : Nat) : Bool :=
  let leak := s.fld Reg.NOC_LINK_POLICY Fld.NOC_LINK_POLICY_LEAK
  leak != 0 && s.fld (Reg.NOC_LINK n p) Fld.NOC_LINK_BUCKET != 0 && decide (tget (fun _ => 0) s.noc.leakAt (4 * n + p) + leak * scLen < s.scNext)

/-- The next leak is counted from the present one on. -/
def State.leaked (s : State) (n p : Nat) : State :=
  let at_ := tget (fun _ => 0) s.noc.leakAt (4 * n + p)
  { s with noc := { s.noc with leakAt := tins s.noc.leakAt (4 * n + p) (at_ + s.fld Reg.NOC_LINK_POLICY Fld.NOC_LINK_POLICY_LEAK * scLen) } }

/-- A retry starts on the link direction that transmits at port `p` of router `n` (R269): its bucket fills, unless a leak of the same sc
cancels it. -/
def State.fillBucket (s : State) (n p : Nat) : State :=
  if s.leakDue n p then s.leaked n p
  else
    let s := if s.fld (Reg.NOC_LINK n p) Fld.NOC_LINK_BUCKET = 0 then
      { s with noc := { s.noc with leakAt := tins s.noc.leakAt (4 * n + p) s.now } } else s
    let s := s.bump (Reg.NOC_LINK n p) Fld.NOC_LINK_BUCKET 1
    if s.fld Reg.NOC_LINK_POLICY Fld.NOC_LINK_POLICY_THRESH < s.fld (Reg.NOC_LINK n p) Fld.NOC_LINK_BUCKET then s.retireLink n p else s

/-- One unit leaks every LEAK sc while the bucket is above zero (R269). -/
def State.bucketLeak (s : State) (n p : Nat) : State :=
  if s.leakDue n p then (s.setFld (Reg.NOC_LINK n p) Fld.NOC_LINK_BUCKET (s.fld (Reg.NOC_LINK n p) Fld.NOC_LINK_BUCKET - 1)).leaked n p
  else s

/-! ### A router (R258, R263–R265, R298) -/

/-- What a router does with a packet: move it out of a port, or deliver it locally, or discard it. -/
inductive Hop where
  | move (dir route phase : Nat) (turned : Bool)
  | eject
  | bad
  deriving DecidableEq, Repr

/-- A step of R265. `arr` is the network port by which the packet arrived, if any; `ph` its phase bit. -/
def nextHop (arr : Option Nat) (route ph : Nat) : Hop :=
  let step (route ph : Nat) (turned : Bool) : Hop :=
    match route % 8 with
    | 0 => .eject
    | 1 => if arr = some dirN then .bad else .move dirN (route / 8) ph turned
    | 2 => if arr = some dirE ∨ (!turned ∧ (arr = some dirN ∨ arr = some dirS)) then .bad else .move dirE (route / 8) ph turned
    | 3 => if arr = some dirS then .bad else .move dirS (route / 8) ph turned
    | 4 => if arr = some dirW ∨ (!turned ∧ (arr = some dirN ∨ arr = some dirS)) then .bad else .move dirW (route / 8) ph turned
    | _ => .bad
  if route % 8 = 5 then (if ph = 1 then .bad else step (route / 8) 1 true) else step route ph false

/-- The virtual channel after a move (R258). -/
def nextVc (vc n dir ph : Nat) (turned : Bool) (arr : Option Nat) : Nat :=
  let same := !turned && (match arr with
    | some a => a % 2 == dir % 2
    | none => true)
  let line := if isWrap n dir then 1 else if same then vc % 2 else 0
  vc / 4 % 2 * 4 + ph * 2 + line

/-- A flit goes out of port `p` of router `n` with the next SEQ, into the replay buffer or, while that is full, behind it (R264). -/
def State.sendFlit (s : State) (n p : Nat) (f : Flit) : State :=
  let x := s.ltx n p
  if 32 ≤ x.replay.length then s.setLtx n p { x with wait := x.wait ++ [f] }
  else
    let f := f.withHeader (hdrPut f.header 39 32 x.next)
    s.setLtx n p { x with next := (x.next + 1) % 256, replay := x.replay ++ [(x.next, f, 0)] }

/-- The local port of an initiator (R256): forwards of the stacked cache leave by AUX, its fills and write-backs by CACHE. -/
def Request.homePort (r : Request) : Nat :=
  if r.src < 0x40 then portENG
  else if isRegionSrc r.src then regionPort (r.src - 0x40)
  else if r.src = srcCache ∧ r.kind ≠ .forward then portCACHE
  else portAUX

/-- The local port that an EJECT at router `n` delivers to; none is a misroute (R259, R265, R288). A response reaches its initiator's port by
the rod's response decode. -/
def State.ejectPort (s : State) (n : Nat) (f : Flit) (lost : Option (Nat × Nat)) : Option Nat :=
  if f.response then some (((s.answered_ f lost).map Request.homePort).getD portAUX)
  else if f.kind = kindFence ∨ f.kind = kindMarker then
    (let c := hdrBits f.header 62 55 % 8
     if c < 6 then some c else none)
  else if f.kind = kindToken then (if n = 27 then some portAUX else none)
  else match s.decodeAddr (hdrBits f.header 54 47) f.addr with
    | .target _ r p => if r = n then some p else none
    | .self _ => none

/-- A packet whose flits have all reached the destination interface: its CRC is checked (R262). -/
def State.checkCrc (s : State) (n : Nat) (f : Flit) (cont : Option Flit) (lost : Option (Nat × Nat)) : State × Bool :=
  let field := hdrBits ((cont.getD f).header) 31 0
  if field = packetCrc f cont then (s, true)
  else
    let s := s.discardPacket n dcCrc f lost
    (match lost with
      | some x => s.losePart x.1 x.2
      | none => s, false)

/-- An accepted flit is routed (R265). `lost` names the request part whose packet it is, should it be discarded. -/
def State.routeFlit (s : State) (n p : Nat) (f : Flit) (lost : Option (Nat × Nat)) : State :=
  let arr := if p < 4 then some p else none
  let drop (s : State) (reason : Nat) : State :=
    let s := s.discardPacket n reason f lost
    match lost with
    | some x => s.losePart x.1 x.2
    | none => s
  if f.kind = kindCont then
    match tfind (s.lrx n p).part f.vc with
    | none => s
    | some (out, first) =>
      let s := s.setLrx n p { s.lrx n p with part := tdel (s.lrx n p).part f.vc }
      if out < 4 then s.sendFlit n out { f with vc := first.vc }
      else
        let c := s.checkCrc n first (some f) lost
        if c.2 then (c.1.sendFlit n out first).sendFlit n out f else c.1
  else if f.kind = 7 then drop s dcRoute
  else match nextHop arr f.route (f.vc / 2 % 2) with
    | .bad => drop s dcRoute
    | .move dir route ph turned =>
      let g := { f.withRoute route with vc := nextVc f.vc n dir ph turned arr }
      if s.linkState n dir = lkDead then drop s dcDead
      else
        let s := if f.hasCont then s.setLrx n p { s.lrx n p with part := tins (s.lrx n p).part f.vc (dir, g) } else s
        s.sendFlit n dir g
    | .eject =>
      match s.ejectPort n f lost with
      | none => drop s dcMisroute
      | some c =>
        if f.hasCont then s.setLrx n p { s.lrx n p with part := tins (s.lrx n p).part f.vc (4 + c, f) }
        else
          let r := s.checkCrc n f none lost
          if r.2 then r.1.sendFlit n (4 + c) f else r.1

/-- The segments as the input passes them on, the number corrected, and whether none starts a retry (R263, R298). -/
def checkSegs : Bool → List (BitVec 137) → List (BitVec 137) × Nat × Bool
  | _, [] => ([], 0, true)
  | hdr, g :: l =>
    let x := checkSegs false l
    match checkSeg hdr g with
    | .retry => (g :: x.1, x.2.1, false)
    | .forward => (g :: x.1, x.2.1, x.2.2)
    | .correct g' => (g' :: x.1, x.2.1 + 1, x.2.2)

/-- A retry starts at input `p` of router `n`: a NAK names the expected SEQ, and the bucket of the transmitter fills (R263, R269). -/
def State.startRetry (s : State) (n p : Nat) : State :=
  let s := s.setLrx n p { s.lrx n p with nakSent := true }
  if p < 4 then s.fillBucket (neighbour n p) (opposite p) else s

/-- A flit reaches input `p` of router `n` (R263). While a NAK awaits its resend, a flit of another SEQ is discarded. -/
def State.flitArrival (s : State) (n p : Nat) (f : Flit) (lost : Option (Nat × Nat)) : State :=
  let x := s.lrx n p
  let c := checkSegs true (f.segs.take 9)
  let s := if p < 4 ∧ 0 < c.2.1 then s.bump (Reg.NOC_LINK_CNT n p) Fld.NOC_LINK_CNT_CORR c.2.1 else s
  let f := { f with segs := c.1 }
  if f.seq ≠ x.expect ∧ checkSeg true (f.segs.headD 0) ≠ .retry then (if x.nakSent then s else s.startRetry n p)
  else if !c.2.2 then s.startRetry n p
  else
    let s := s.setLrx n p { x with expect := (x.expect + 1) % 256, sinceAck := x.sinceAck + 1, lastAt := s.now, nakSent := false }
    s.routeFlit n p f lost

/-- Flits that waited enter the replay buffer while it has room. -/
def State.refill (n p : Nat) : Nat → State → State
  | 0, s => s
  | k + 1, s =>
    let x := s.ltx n p
    match x.wait with
    | [] => s
    | f :: l => if 32 ≤ x.replay.length then s else State.refill n p k ((s.setLtx n p { x with wait := l }).sendFlit n p f)

/-- The replay buffer before the flit with SEQ `q`, and from it on. -/
def replaySplit (q : Nat) (l : List (Nat × Flit × Nat)) : List (Nat × Flit × Nat) × List (Nat × Flit × Nat) := l.span (fun e => e.1 != q)

/-- A NAK reaches the transmitter at port `p` of router `n` (R264): every flit from the named one on is resent, and counts once. -/
def State.linkNak (s : State) (n p q : Nat) : State :=
  let x := s.ltx n p
  let l := replaySplit q x.replay
  if l.2.isEmpty then s
  else
    let s := if p < 4 then s.bump (Reg.NOC_LINK_CNT n p) Fld.NOC_LINK_CNT_RETRY l.2.length else s
    s.setLtx n p { x with replay := l.1 ++ l.2.map (fun e => (e.1, e.2.1, e.2.2 + 1)) }

/-- A cumulative acknowledgement, which names the last SEQ accepted, reaches the transmitter (R264). -/
def State.linkAck (s : State) (n p q : Nat) : State :=
  let x := s.ltx n p
  match (replaySplit q x.replay).2 with
  | [] => s
  | _ :: l => State.refill n p x.wait.length (s.setLtx n p { x with replay := l })

/-- The receiver sends its acknowledgement: after 16 flits, or after 8 nc without a new flit (R264). -/
def State.linkAckSend (s : State) (n p : Nat) : State :=
  let x := s.lrx n p
  if 16 ≤ x.sinceAck ∨ (0 < x.sinceAck ∧ x.lastAt + 8 * ncLen ≤ s.now) then s.setLrx n p { x with sinceAck := 0 } else s

/-- The flits of a list that stand for a packet: the first flits, and each CONT whose first flit is not in the list. -/
def packetHeads : List Nat → List Flit → List Flit
  | _, [] => []
  | seen, f :: l =>
    if f.kind = kindCont ∧ seen.contains f.vc then packetHeads (seen.erase f.vc) l
    else f :: packetHeads (if f.hasCont then f.vc :: seen else seen) l

/-- The packets of a dead transmitter are discarded (R271). -/
def State.dropTx (s : State) (n p : Nat) : State :=
  let x := s.ltx n p
  let s := (packetHeads [] (x.replay.map (·.2.1) ++ x.wait)).foldl (fun s f => s.discardPacket n dcDead f none) s
  s.setLtx n p { x with replay := [], wait := [] }

/-- The part of a packet that an input has received when its link dies is discarded (R271). -/
def State.dropRx (s : State) (n p : Nat) : State :=
  let x := s.lrx n p
  let s := x.part.foldl (fun s e => s.discardPacket n dcDead e.2.2 none) s
  s.setLrx n p { x with part := [] }

/-- A transmitter has resent one flit 64 times without acknowledgement: the link is DEAD in both directions, which counts as a
retirement (R271). `lost` names the request parts whose packets or answers it held. -/
def State.linkDeath (s : State) (n p : Nat) (lost : List (Nat × Nat)) : State :=
  if (s.ltx n p).replay.all (fun e => e.2.2 < 64) ∨ s.linkState n p = lkDead then s
  else
    let m := neighbour n p
    let q := opposite p
    let s := (s.setFld (Reg.NOC_LINK n p) Fld.NOC_LINK_STATE lkDead).setFld (Reg.NOC_LINK m q) Fld.NOC_LINK_STATE lkDead
    let s := s.setFld Reg.NOC_INT_STATUS Fld.NOC_INT_STATUS_DEAD 1
    let s := (((s.dropTx n p).dropTx m q).dropRx n p).dropRx m q
    let s := lost.foldl (fun s x => s.losePart x.1 x.2) s
    if s.bit Reg.NOC_CTL Fld.NOC_CTL_AUTO_REROUTE then s.requestRecompute else s

/-! ### Routes (R265–R267) -/

/-- The moves of one dimension from `a` to `b`: the shorter way round, and `up` when the distance is 4. -/
def movesOf (up down a b : Nat) : List Nat :=
  let d := (b + 8 - a) % 8
  if d ≤ 4 then List.replicate d up else List.replicate (8 - d) down

/-- The minimal XY route as directions (R267). -/
def minimalXY (s d : Nat) : List Nat := movesOf dirE dirW (s % 8) (d % 8) ++ movesOf dirN dirS (s / 8) (d / 8)

/-- Whether a route from `n` uses no RETIRED or DEAD link. -/
def State.clearPath (s : State) : Nat → List Nat → Bool
  | _, [] => true
  | n, p :: l => s.linkState n p == lkActive && s.clearPath (neighbour n p) l

/-- The codes of R265 for directions, and the string of a list of codes. -/
def codesOf (l : List Nat) : List Nat := l.map (· + 1)
def routeString (l : List Nat) : Nat := l.foldr (fun c acc => c + 8 * acc) 0

/-- The route through an intermediate router with the fewest moves, lowest router first, within the limits of R265. -/
def State.viaRoute (s : State) (a d : Nat) : Option Nat :=
  let ok := (List.range 64).filter (fun i =>
    s.clearPath a (minimalXY a i) && s.clearPath i (minimalXY i d) && decide ((minimalXY a i).length + (minimalXY i d).length + 1 ≤ 15))
  ok.foldl (fun best i => match best with
    | none => some i
    | some j => if (minimalXY a i).length + (minimalXY i d).length < (minimalXY a j).length + (minimalXY j d).length then some i
      else some j) none

/-- The entry that the computation gives source `a` and destination `d`: the route string, or none where the destination is
unreachable (R267). -/
def State.routeOf (s : State) (a d : Nat) : Option Nat :=
  let m := minimalXY a d
  if s.clearPath a m then some (routeString (codesOf m))
  else (s.viaRoute a d).map (fun i => routeString (codesOf (minimalXY a i) ++ 5 :: codesOf (minimalXY i d)))

/-- The RETIRED bits of destination router `d` (R272). -/
def State.retiredBits (s : State) (d : Nat) : Nat :=
  ((List.range 6).map (fun c => if s.noc.retired.contains (8 * d + c) then 2 ^ c else 0)).foldl (fun a b => a + b) 0

/-- One entry of a bank filled (R266, R267). -/
def State.fillEntry (s : State) (bank a d : Nat) : State :=
  let hi := 2 ^ 31 + s.retiredBits d * 2 ^ 16
  match s.routeOf a d with
  | some r => (s.setReg (Reg.NOC_RT_LO a bank d) (BitVec.ofNat 32 r)).setReg (Reg.NOC_RT_HI a bank d) (BitVec.ofNat 32 (hi + r / 2 ^ 32))
  | none =>
    let s := (s.setReg (Reg.NOC_RT_LO a bank d) 0).setReg (Reg.NOC_RT_HI a bank d) (BitVec.ofNat 32 (hi + 2 ^ 30))
    s.setFld Reg.NOC_INT_STATUS Fld.NOC_INT_STATUS_UNREACH 1

/-- Every entry of the table of router `a`. -/
def State.fillTable (s : State) (bank a : Nat) : State := (List.range 64).foldl (fun s d => s.fillEntry bank a d) s

/-- Every entry of one bank of every table. -/
def State.fillBank (s : State) (bank : Nat) : State := (List.range 64).foldl (fun s a => s.fillTable bank a) s

/-- A port's RETIRED bit set in both banks of every table, for good (R272, R485). -/
def State.retirePort (s : State) (router port : Nat) : State :=
  let s := { s with noc := { s.noc with retired := s.noc.retired ++ [8 * router + port] } }
  (List.range 64).foldl (fun s a => [0, 1].foldl (fun s b =>
    let x := Reg.NOC_RT_HI a b router
    s.setFld x Fld.NOC_RT_HI_RETIRED (s.fld x Fld.NOC_RT_HI_RETIRED ||| 2 ^ port)) s) s

/-- A flip starts at the sc edge F of now (R268). -/
def State.startFlip (s : State) : State :=
  { s.setFld Reg.NOC_STATUS Fld.NOC_STATUS_FLIP_STATE 1 with noc := { s.noc with flipAt := s.now / scLen * scLen } }

/-- One step of a route computation: eight tables of the inactive bank, and after the last one the flip (R267). -/
def State.recomputeStep (s : State) : State :=
  match s.noc.recomp with
  | none => s
  | some n =>
    if n < 64 then
      let s := ((List.range 8).map (n + ·)).foldl (fun s a => s.fillTable (1 - s.epochNow) a) s
      { s with noc := { s.noc with recomp := some (n + 8) } }
    else if s.bit Reg.NOC_STATUS Fld.NOC_STATUS_FLIP_STATE then s
    else ({ s with noc := { s.noc with recomp := none } }).startFlip

/-- Whether a request of the old epoch is still in the network, in a router, link or replay buffer (R268), or has left for another device and no DELIVERY has come for it
(R504). -/
def State.oldInFlight (s : State) : Bool :=
  let old (f : Flit) : Bool := !f.response && hdrBits f.header 43 43 == s.epochNow
  s.brd.out.any (fun d => !d.delivered) ||
  s.noc.tx.any (fun x => x.2.replay.any (fun e => old e.2.1) || x.2.wait.any old) || s.noc.rx.any (fun x => x.2.part.any (fun e => old e.2.2)) ||
  s.noc.reqs.any (fun r => r.epoch == s.epochNow && s.sent r && r.parts.any (fun p => !p.performed && p.arrivedAt.isNone))

/-- The end G of a flip (R268): the epoch toggles, the requests held since F + 1 sc go 1 sc later, and a waiting computation starts. -/
def State.flipComplete (s : State) : State :=
  if !s.bit Reg.NOC_STATUS Fld.NOC_STATUS_FLIP_STATE ∨ s.oldInFlight then s
  else
    let e := 1 - s.epochNow
    let running := s.bit Reg.NOC_STATUS Fld.NOC_STATUS_RECOMP_BUSY && s.noc.recomp.isNone
    let s := ({ s with noc := { s.noc with flipEnd := some s.now } }).later (s.now + scLen) .inject
    let s := (s.setFld Reg.NOC_STATUS Fld.NOC_STATUS_EPOCH e).setFld Reg.NOC_STATUS Fld.NOC_STATUS_FLIP_STATE 0
    let s := s.setFld Reg.NOC_INT_STATUS Fld.NOC_INT_STATUS_FLIP_DONE 1
    if !running then s
    else
      let s := s.setFld Reg.NOC_STATUS Fld.NOC_STATUS_RECOMP_BUSY 0
      if s.bit Reg.NOC_STATUS Fld.NOC_STATUS_RECOMP_QUEUED then
        (s.setFld Reg.NOC_STATUS Fld.NOC_STATUS_RECOMP_QUEUED 0).requestRecompute
      else s

/-! ### The commands of chapter 09 on links and routes -/

/-- A write of a limit is refused where the two would lie closer than 1,024 sc (R275). -/
def State.limitWrite (s : State) (init : Bool) (v : Nat) : State :=
  let v := v % 2 ^ 20
  let i := if init then v else s.fld Reg.NOC_INIT_LIMIT Fld.NOC_INIT_LIMIT_LIMIT
  let g := if init then s.fld Reg.NOC_TGT_LIMIT Fld.NOC_TGT_LIMIT_LIMIT else v
  if i < g + 1024 then s.setFld Reg.NOC_STATUS Fld.NOC_STATUS_LIMIT_REFUSED 1
  else if init then s.setFld Reg.NOC_INIT_LIMIT Fld.NOC_INIT_LIMIT_LIMIT v
  else s.setFld Reg.NOC_TGT_LIMIT Fld.NOC_TGT_LIMIT_LIMIT v

end Sys2Proof.Machine
end

