-- ==== Sys2Proof/Machine/Network.lean ====
section
/-!
DEFINITION. The network interfaces (chapters 09 and 10): accepting requests and fences, the interface's own answers, time limits,
fence packets and their completion, failure ACKs, snapshots, and the commands on them.
-/
namespace Sys2Proof.Machine


/-! ### Accepting (R25, R57, R259, R287) -/

/-- The kind that a region code of R259 names. -/
def regionKind (code : Nat) : Option ReqKind :=
  match code with
  | 0 => some .read
  | 1 => some .write
  | 3 => some .fence
  | _ => none

/-- A request issued by initiator `src` is accepted by its network interface (R25): a region's through its NoC port and commit
buffer, another's directly. -/
def State.issue (s : State) (src stream code addr len : Nat) (data : List Byte) (marks : List Bool) (tag : Nat) : State :=
  match regionKind code with
  | none =>
    if isRegionSrc src then s.regionBad (src - 0x40) stream addr len
    else s.acceptBadKind src 0 stream addr len tag
  | some k =>
    if isRegionSrc src then s.regionRequest (src - 0x40) stream k addr len data marks
    else if k = .fence then s.acceptFence src 0 stream allStreams [stream] true tag
    else s.accept src 0 stream k addr len data marks none tag

/-- A fence on stream `stream` of an initiator (R287); an engine's is a fence on every stream (R211). -/
def State.issueFence (s : State) (src stream tag : Nat) : State :=
  if isRegionSrc src then s.regionRequest (src - 0x40) stream .fence 0 0 [] []
  else s.acceptFence src 0 stream allStreams (if src < 0x40 then allStreams else [stream]) true tag

/-! ### The interface's own answers (R25, R272, R291, R293) -/

/-- Whether an older non-posted request that its initiator made on the same stream still waits for its answer (R25). -/
def State.olderPending (s : State) (r : Request) : Bool :=
  s.noc.reqs.any (fun q => before q r && q.stream == r.stream && q.kind.nonPosted && q.report && !q.done)

/-- The failure of a posted write reaches its initiator's interface (R291): it is recorded, and an initiator that reports failures in
completions of its own sees it too. -/
def State.failWrite (s : State) (r : Request) (code addr : Nat) : State :=
  let s := s.recordWerr r code addr
  if 0xC0 ≤ r.src then s.deliver (r.delivered code [] []) else s

/-- The failure of part `p` of a posted write reaches its initiator's interface, once. -/
def State.failPart (s : State) (r : Request) (x : Part × Nat) : State :=
  match x.1.answer with
  | some a => (s.failWrite r a.code x.1.addr).mapPart r.id x.2 (fun q => { q with returned := true })
  | none => s

/-- The answer that the interface gives itself is delivered: 4 nc after acceptance, behind the earlier non-posted responses of its
stream and the fences that it waits for (R25). A write's parts that the interface ends are reported one by one (R542). -/
def State.selfAnswer (s : State) (id : Nat) : State :=
  match s.findReq id with
  | none => s
  | some r =>
    if s.now < r.acceptedAt + 4 * ncLen ∨ s.forcedSrc r.src ∨ s.olderPending r ∨ !s.fencesDone r then s
    else if r.kind.nonPosted then
      match r.self with
      | some c => (s.complete r c [] []).completeReady
      | none => s
    else
      let s := match r.self with
        | some c => (s.failWrite r c r.addr).mapReq id (fun r => { r with self := none, injAt := some s.now })
        | none => s
      ((r.parts.zipIdx.filter (fun x => x.1.own && !x.1.returned)).foldl (fun s x => s.failPart r x) s).sweep

/-- A failure ACK reaches the initiator's interface (R290, R291). -/
def State.failureAck (s : State) (id p : Nat) : State :=
  match s.findReq id with
  | none => s
  | some r =>
    match r.parts[p]? with
    | none => s
    | some q =>
      match q.answer with
      | none => s
      | some a => if r.kind.nonPosted || q.returned || q.own || !isErr a.code then s else (s.failPart r (q, p)).sweep

/-! ### Time limits (R274, R275, R289) -/

/-- The initiator limit in rc. -/
def State.initLimit (s : State) : Nat := s.fld Reg.NOC_INIT_LIMIT Fld.NOC_INIT_LIMIT_LIMIT * scLen

/-- Whether a request part is held for a domain or a gate. -/
def State.isHeld (s : State) (id p : Nat) : Bool := s.pwr.held.any (fun h => h.2.contains (id, p))

/-- A target that accepted the part has not begun to serve it within the target limit (R274). -/
def State.targetTimeout (s : State) (id p : Nat) : State :=
  match s.findReq id with
  | none => s
  | some r =>
    match r.parts[p]? with
    | none => s
    | some q =>
      match q.arrivedAt with
      | none => s
      | some a =>
        if q.performed || q.begun || s.now < a + s.tgtLimit || s.isHeld id p then s else s.respond id p (codeAnswer rTimeout)

/-- No response has come within the initiator limit (R275): the interface answers; the unanswered packets of a fence end so (R289). -/
def State.initiatorTimeout (s : State) (id : Nat) : State :=
  match s.findReq id with
  | none => s
  | some r =>
    if !r.kind.nonPosted || r.done || s.forcedSrc r.src || s.now < r.acceptedAt + s.initLimit then s
    else if r.kind = .fence then s.endPackets r (fun _ => true)
    else (s.timeoutReq r).completeReady

/-! ### Fences (R287–R289) -/

/-- Whether a FENCE packet at an Aethene port must wait for the FENCE packets that the port sends to other devices (R504). -/
def State.boardFence (s : State) (r : Request) (p : Nat) (q : Part) : Bool :=
  q.port == portAUX && (s.brd.wrote.any (fun w => w.src == r.src && w.bank == r.bank && w.stream == q.stream &&
    alinkRouter w.port == q.router) || s.brd.out.any (fun d => d.req.id == r.id && d.part == p))

/-- A FENCE packet at its target is answered once every earlier request of its initiator and stream there has been performed
(R288). A region's domain answers for it under R454 and R460. -/
def State.fencePacket (s : State) (id p : Nat) : State :=
  match s.servable id p with
  | none => s
  | some (r, q) =>
    if r.kind ≠ .fence then s
    else if q.port = portLREG ∨ q.port = portUREG then
      let reg := if q.port = portLREG then q.router else q.router + 64
      match s.regionGate reg id p with
      | .open_ => (s.unhold reg id p).respond id p (codeAnswer rOK)
      | .wait => s
      | .done s => s
    else if s.boardFence r p q then s
    else s.respond id p (codeAnswer rOK)

/-- Whether nothing is left to do of an earlier request: performed, and every answer or failure of it recorded (R287, R290). -/
def Request.settled (q : Request) : Bool :=
  (!q.kind.nonPosted || q.done) && q.self.isNone && (q.done || q.injAt.isSome) &&
  q.parts.all (fun a => a.performed && (q.kind.nonPosted || a.answer.isNone || a.returned))

/-- Whether the conditions of R287 hold: the packets of the fence have been answered, and every earlier request of its initiator performed
and, where it is answered at all, answered. The internal fence of R288 completes as any other. -/
def State.fenceReady (s : State) (r : Request) : Bool :=
  r.injAt.isSome && r.parts.all (·.returned) && decide (r.acceptedAt + 4 * ncLen ≤ s.now) && s.noc.reqs.all (fun q => !before q r || q.settled)

/-- A fence completes with OK or its first failing code (R287, R289). -/
def State.fenceComplete (s : State) (id : Nat) : State :=
  match s.findReq id with
  | none => s
  | some r => if r.kind ≠ .fence ∨ r.done ∨ s.forcedSrc r.src ∨ !s.fenceReady r then s else s.complete r (r.fail.getD rOK) [] []

/-! ### Snapshots (R280) -/

/-- STAT_CTL.SNAP is written 1 at S. -/
def State.statSnap (s : State) : State :=
  if s.noc.snapAt.isSome then s
  else
    let s := s.setFld Reg.STAT_CTL Fld.STAT_CTL_SNAP 1
    { s with noc := { s.noc with snapAt := some (s.scNow * scLen, 0) } }

end Sys2Proof.Machine
end

