-- ==== Sys2Proof/Machine/StackOps.lean ====
section
/-!
DEFINITION. Via groups and their repair map (R18, R19, R311, R476), which chapter 18 and the reads of its registers share.
-/
namespace Sys2Proof.Machine

/-! ### Via groups (R18, R19) -/

def groupId (rod iface k : Nat) : Nat := rod * 2 ^ 16 + iface * 2 ^ 12 + k
def groupRod (g : Nat) : Nat := g / 2 ^ 16 % 64
def groupIface (g : Nat) : Nat := g / 2 ^ 12 % 8
def groupIdx (g : Nat) : Nat := g % 256

/-- The number of groups of a rod at an interface. -/
def ifaceGroups (i : Nat) : Nat := if i = 1 then 107 else if i = 2 ∨ i = 3 then 199 else if 4 ≤ i ∧ i ≤ 7 then 35 else 0

/-- An identifier that names a group. -/
def isGroup (g : Nat) : Bool := g == groupId (groupRod g) (groupIface g) (groupIdx g) && decide (groupIdx g < ifaceGroups (groupIface g))

/-- What a group serves, as retirement asks (R19, R483). -/
inductive GroupUse where
  /-- CT at interfaces 1–3, or NT: the rod. -/
  | rod
  /-- CT at interfaces 4–7: the ways from this one on. -/
  | ways (first : Nat)
  /-- CP: relative group j. -/
  | cp (j : Nat)
  /-- RC: channels 64g to 64g + 63 driven by region `r`. -/
  | rc (r g : Nat)
  deriving DecidableEq, Repr

/-- The first CP index of an interface (R311). -/
def cpFirst (i : Nat) : Nat := if i = 1 then 74 else if i ≤ 3 then 38 else 2

def groupUse (g : Nat) : GroupUse :=
  let n := groupRod g
  let i := groupIface g
  let k := groupIdx g
  if k < 2 then (if i ≤ 3 then .rod else .ways (4 * (i - 4)))
  else if k < cpFirst i then .rod
  else if k ≤ cpFirst i + 32 then .cp (k - cpFirst i)
  else if k < 135 then .rc n (k - 71)
  else .rc (n + 64) (k - 135)

def isRc (g : Nat) : Bool := match groupUse g with
  | .rc _ _ => true
  | _ => false

/-! ### The repair map (R476) -/

def State.badVias (s : State) (g : Nat) : List Nat := tget (fun _ => []) s.stk.bad g
def State.groupRetired (s : State) (g : Nat) : Bool := s.stk.retired.contains g

/-- The good vias of a group, ascending. -/
def State.goodVias (s : State) (g : Nat) : List Nat := (List.range 68).filter (fun v => !(s.badVias g).contains v)
/-- The vias that carry signals 0–63. -/
def State.signalVias (s : State) (g : Nat) : List Nat := (s.goodVias g).take 64

end Sys2Proof.Machine
end

