-- ==== Sys2Proof/Machine/ControlRead.lean ====
section
/-!
DEFINITION. Reads of control registers (R4, R5, R32): what each register reads as, where it shows other state than its own word, and
the effects that a read has; and the edge at which a control node performs it (R545).
-/
namespace Sys2Proof.Machine

/-! ### State that several registers show -/

/-- KIND of the die at stack position `k` (R13, R34): base die, lower deck, beam, upper deck, cache dies. -/
def dieKind (k : Nat) : Nat := [0x01, 0x02, 0x03, 0x02, 0x04, 0x04, 0x04, 0x04].getD k 0x04

/-- The die ID at stack position `k`: KIND by the position, and the lot, wafer and place on it from the fuses (R34). -/
def dieOf (f : Fuses) (k : Nat) : Nat := dieKind k * 2 ^ 56 + f.dieId.getD k 0 % 2 ^ 56

/-- The stack signature (R35): the first 16 bytes of the SHA-384 of the die IDs of positions 1 to 7. -/
def stackSig (f : Fuses) : List Nat :=
  (sha384 (((List.range 7).map (fun i => leBytes 8 (dieOf f (i + 1)))).flatten)).take 16

/-- The INT_STATUS and INT_EN registers of the blocks in the order of R230. -/
def intRegs : List (Nat × Nat) :=
  [(Reg.TALLY_INT_STATUS, Reg.TALLY_INT_EN), (Reg.CFG_INT_STATUS, Reg.CFG_INT_EN), (Reg.SCRUB_INT_STATUS, Reg.SCRUB_INT_EN),
   (Reg.NOC_INT_STATUS, Reg.NOC_INT_EN), (Reg.CACHE_INT_STATUS, Reg.CACHE_INT_EN), (Reg.EMC_INT_STATUS, Reg.EMC_INT_EN),
   (Reg.XTS_INT_STATUS, Reg.XTS_INT_EN), (Reg.LANE_INT_STATUS, Reg.LANE_INT_EN), (Reg.HOST_INT_STATUS, Reg.HOST_INT_EN),
   (Reg.PIN_INT_STATUS, Reg.PIN_INT_EN), (Reg.TRIG_INT_STATUS, Reg.TRIG_INT_EN), (Reg.STACK_INT_STATUS, Reg.STACK_INT_EN),
   (Reg.ALINK_INT_STATUS, Reg.ALINK_INT_EN), (Reg.CLK_INT_STATUS, Reg.CLK_INT_EN), (Reg.PWR_INT_STATUS, Reg.PWR_INT_EN),
   (Reg.STAT_INT_STATUS, Reg.STAT_INT_EN)]

/-- ENG_EXT_STATUS: the interrupt line of each block (R230): some bit is 1 both in its INT_STATUS and in its INT_EN. -/
def State.extLines (s : State) : Nat :=
  (intRegs.zipIdx.map (fun p => if s.reg p.1.1 &&& s.reg p.1.2 ≠ 0 then 2 ^ p.2 else 0)).foldl (fun a b => a + b) 0

/-- Whether an operation of kind `k` runs (R403). -/
def State.seqBusy (s : State) (k : Nat) : Bool :=
  if k = 0 then s.cfg.load.isSome
  else if k = 1 then s.cfg.store.isSome
  else if k = 2 then s.bit Reg.SCRUB_STATUS Fld.SCRUB_STATUS_BUSY
  else if k = 3 then s.bit Reg.CACHE_CMD_STATUS Fld.CACHE_CMD_STATUS_BUSY
  else if k = 4 then s.bit Reg.EMC_FILL_STATUS Fld.EMC_FILL_STATUS_BUSY
  else if k < 9 then s.fld (Reg.EMC_CH_STATUS (k - 5)) Fld.EMC_CH_STATUS_STATE == 1
  else if k = 9 then (List.range 8).any (fun j => s.bit (Reg.XTS_ROT j) Fld.XTS_ROT_BUSY)
  else s.noc.recomp.isSome

/-- PWR_MODE_STATUS.DRAINED (R469). -/
def State.drained (s : State) : Bool :=
  s.sch.recs.all (fun p => p.2.state != tsRunning && p.2.state != tsXfer) &&
  s.sch.region.all (fun p => p.2.buf.isEmpty) && (List.range 11).all (fun k => !s.seqBusy k)

/-- The 64 bytes of a record as TALLY_PEEK shows them (R149, R182). -/
def TallyRec.bytes (x : TallyRec) : List Byte :=
  toBytes 4 (x.state + x.template * 2 ^ 4 + x.gen * 2 ^ 16 + x.full * 2 ^ 24 + x.poison * 2 ^ 28) ++ toBytes 6 x.deadline ++
  toBytes 2 (x.unit + b2n x.engine * 2 ^ 7 + x.bank * 2 ^ 8 + b2n x.placed * 2 ^ 10) ++ toBytes 4 x.spillSlot ++
  x.ops.flatMap (fun v => toBytes 8 v.toNat) ++ toBytes 6 x.created ++
  toBytes 2 (x.specSlot + b2n x.specLate * 2 ^ 2 + b2n x.nospec * 2 ^ 3 + x.lastReason * 2 ^ 4 + b2n x.squashed * 2 ^ 7 +
    x.squashes * 2 ^ 8) ++ toBytes 6 x.specE1 ++ toBytes 2 0

/-- The bits of a four-bit bank mask. -/
def bankBits (f : Nat → Bool) : Nat := b2n (f 0) + 2 * b2n (f 1) + 4 * b2n (f 2) + 8 * b2n (f 3)

/-- TALLY_REGION(r) beside QUIESCE (R178). -/
def State.regionWord (s : State) (r : Nat) : Nat :=
  let t := s.runningIn r
  (match t with
    | some i => i + 2 ^ 30 + b2n (s.tPreempt (s.trec i).template) * 2 ^ 29
    | none => 0) + bankBits (s.bankHeld r) * 2 ^ 24 + bankBits (s.reserved r) * 2 ^ 20

/-- The responses of the bound bank that R195 holds. -/
def State.heldRsp (s : State) (r : Nat) : Nat := (s.parked r (s.bankPtr r)).countP (fun p => !s.mayPresent r p.stream p.code)

/-- TALLY_SPEC_REGION(r) beside ALLOW and DRAM_WR (R202). -/
def State.specWord (s : State) (r : Nat) : Nat :=
  let y := s.sreg r
  b2n (y.bound.isSome && s.specIn r == y.bound) * 2 ^ 30 + b2n y.draining * 2 ^ 29 + bufCount y.buf * 2 ^ 16 + s.heldRsp r % 64 * 2 ^ 8

/-- STACK_GRP_BAD: bad positions in ascending order, 0x7F where there is none. -/
def badWord (l : List Nat) : Nat := (List.range 4).foldl (fun v i => v + l.getD i 0x7F % 128 * 2 ^ (7 * i)) 0

/-- TRIG_LEVEL (R424): a line that the device pulls low reads 1; what others drive is a free value. -/
def State.trigLevel (s : State) : Nat :=
  let drawn := (Config.freeWord s.fresh).toNat % 2 ^ 10
  (List.range 8).foldl (fun v l =>
    if s.pullsLine l s.now then v ||| 2 ^ l else v) drawn

/-! ### What a register reads as -/

/-- The index of offset `a` in a row of `n` registers from `base`, `st` apart. -/
def idxIn (a base st n : Nat) : Option Nat := if base ≤ a ∧ (a - base) % st = 0 ∧ (a - base) / st < n then some ((a - base) / st) else none

/-- DEV and CFG registers that show fuses and the system area (R33–R35, R144). DEV_STACK_SIG is valid from the end of POWER-UP; what it reads
as before, the spec leaves open (X): zero, DESIGN CHOICE, log entry 5. -/
def State.viewFuse (s : State) (a : Nat) : Option Nat :=
  let f := s.fuse
  if a = Reg.DEV_REV then some (f.step % 256 * 256 + f.metal % 256)
  else if a = Reg.DEV_CAPS then some (b2n f.secureFused * 8 + b2n f.industrial * 4 + f.speed % 4)
  else if a = Reg.DEV_STATUS then some ((s.reg a &&& ~~~ 0x10#32).toNat + b2n f.secureBoot * 16)
  else if a = Reg.DEV_SERIAL_LO then some f.serial
  else if a = Reg.DEV_SERIAL_HI then some (f.serial / 2 ^ 32)
  else if a = Reg.CFG_BOOT_SEL then some s.cfg.bootSel.toNat
  else if a = Reg.CFG_SEC_INFO then some (b2n f.imgKey.isSome * 256 + f.keyRevoked % 16 * 16 + f.keyPresent % 16)
  else if a = Reg.CFG_STORE_GOLDEN then some ((s.reg a &&& ~~~ 1#32).toNat + b2n f.protected_)
  else match idxIn a (Reg.DEV_DIE_ID_LO 0) 8 8, idxIn a (Reg.DEV_DIE_ID_HI 0) 8 8, idxIn a (Reg.DEV_STACK_SIG 0) 4 4,
      idxIn a (Reg.CFG_STORE_WCOUNT 0) 4 4 with
  | some k, _, _, _ => some (dieOf f k)
  | _, some k, _, _ => some (dieOf f k / 2 ^ 32)
  | _, _, some i, _ => some (if s.mode = modePowerUp then 0 else leNat (((stackSig f).drop (4 * i)).take 4))
  | _, _, _, some k => let n := tget (fun _ => 0) s.cfg.wcount k; some (n % 2 ^ 16 + b2n (decide (10000 ≤ n)) * 2 ^ 16)
  | _, _, _, _ => none

/-- Region registers that show other state (R66, R107). -/
def State.viewPlane (s : State) (a : Nat) : Option Nat :=
  match idxIn a (Reg.PLANE_FAB_INFO 0) 0x400 128, idxIn a (Reg.PLANE_PARK 0) 0x400 128 with
  | some r, _ =>
    some (r + r / 64 * 128 + (match quadOf r with
      | some q => q * 256 + 4096
      | none => 0))
  | _, some r => some ((List.range 4).foldl (fun v b => v + (s.parked r b).length % 64 * 2 ^ (6 * b)) 0)
  | _, _ => none

/-- Scheduler registers that show other state (R178, R202). -/
def State.viewTally (s : State) (a : Nat) : Option Nat :=
  if a = Reg.TALLY_STATUS then some ((s.reg a &&& 0x80000000).toNat + s.liveCount)
  else if a = Reg.TALLY_NOW_LO then some s.tallyNow
  else if a = Reg.TALLY_NOW_HI then some (s.tallyNow / 2 ^ 32)
  else match idxIn a (Reg.TALLY_PEEK 0) 4 16, idxIn a (Reg.TALLY_INGRESS 0) 4 270, idxIn a (Reg.TALLY_SPILL_CFG 0) 4 128,
      idxIn a (Reg.TALLY_REGION 0) 4 128 with
  | some i, _, _, _ =>
    some (ofBytes (((s.trec (s.fld Reg.TALLY_PEEK_INDEX Fld.TALLY_PEEK_INDEX_INDEX)).bytes.drop (4 * i)).take 4))
  | _, some n, _, _ => some (s.tokens n).length
  | _, _, some r, _ => some ((s.reg a &&& 0x80007F1F).toNat + (s.sreg r).slots.length % 256 * 2 ^ 16)
  | _, _, _, some r => some ((s.reg a &&& 0x80000000).toNat + s.regionWord r)
  | _, _, _, _ =>
    match idxIn a (Reg.TALLY_SPEC_REGION 0) 16 128, idxIn a (Reg.TALLY_SPEC_HANDLE 0) 16 128, idxIn a (Reg.TALLY_TMPL_CTL 0) 32 4096 with
    | some r, _, _ => some ((s.reg a &&& 0x90000000).toNat + s.specWord r)
    | _, some r, _ => some (match s.specIn r with
      | some i => s.handleOf i
      | none => 0)
    | _, _, some t => some ((s.reg a &&& ~~~ 0x80#32).toNat + b2n (s.tLocked t) * 128)
    | _, _, _ => none

/-- Other registers that show other state (R230, R280, R352, R424, R427, R430, R469, R476, R403). -/
def State.viewOther (s : State) (a : Nat) : Option Nat :=
  if a = Reg.PWR_MODE_STATUS then some ((s.reg a &&& 0x7FFFFFFF).toNat + b2n s.drained * 2 ^ 31)
  else if a = Reg.TRIG_LEVEL then some s.trigLevel
  else if a = Reg.STACK_GRP_INFO then
    let g := s.fld Reg.STACK_GRP_SEL Fld.STACK_GRP_SEL_GROUP
    some (if !isGroup g then 2 ^ 31 else if s.groupRetired g then 2 ^ 30 + 5 * 2 ^ 27 else (s.badVias g).length % 8 * 2 ^ 27)
  else if a = Reg.STACK_GRP_BAD then
    let g := s.fld Reg.STACK_GRP_SEL Fld.STACK_GRP_SEL_GROUP
    some (badWord (if isGroup g then s.badVias g else []))
  else if 0x390000 ≤ a ∧ a < 0x3A0240 ∧ a % 0x40 ≠ 0x30 ∧ s.bit Reg.STAT_CTL Fld.STAT_CTL_VIEW then
    some (tget (fun _ => 0) s.noc.shadow a).toNat
  else match idxIn a (Reg.ENG_EXT_STATUS 0) 0x1000 64, idxIn a (Reg.HOST_SEQ_OP 0) 4 11, idxIn a (Reg.XTS_ROT_PTR 0) 0x20 8,
      idxIn a (Reg.PIN_LEVEL 0) 4 10 with
  | some _, _, _, _ => some s.extLines
  | _, some k, _, _ => some ((s.reg a &&& 0x7FFFFFFF).toNat + b2n (s.seqBusy k) * 2 ^ 31)
  | _, _, some j, _ =>
    if s.bit (Reg.XTS_ROT j) Fld.XTS_ROT_BUSY then none
    else some (s.fld (Reg.XTS_RANGE_BASE j) Fld.XTS_RANGE_BASE_GRANULE * 4096)
  | _, _, _, some w => some (s.levelWord w).toNat
  | _, _, _, _ =>
    match idxIn a (Reg.TRIG_TS_LO 0) 0x20 16, idxIn a (Reg.TRIG_TS_HI 0) 0x20 16, idxIn a (Reg.UART_DATA 0) 0x100 8 with
    | some c, _, _ => some (s.stampWords c).1.toNat
    | _, some c, _ => some (s.stampWords c).2.toNat
    | _, _, some u => some (s.uartWord u).toNat
    | _, _, _ => none

/-- The bits of a register that a read shows: those of its fields, but for the write-only ones (R4, R5). -/
def shownMask (a : Nat) : Word32 :=
  match regRowAt a with
  | some r => (r.fields.filter (fun f => f.ty != .wo)).foldl (fun m f => m ||| f.mask) 0
  | none => 0

/-- What the register at offset `a` reads as. -/
def State.readWord (s : State) (a : Nat) : Word32 :=
  (match (s.viewFuse a <|> s.viewPlane a <|> s.viewTally a <|> s.viewOther a) with
    | some v => BitVec.ofNat 32 v
    | none => s.reg a) &&& shownMask a

/-- The effect of a read of the register at offset `a`: levels that only the outside knows are drawn, and UART_DATA pops a byte. -/
def State.readEffect (s : State) (a : Nat) : State :=
  match idxIn a (Reg.PIN_LEVEL 0) 4 10, idxIn a (Reg.UART_DATA 0) 0x100 8 with
  | some _, _ => s.draw
  | _, some u => s.popUart u
  | _, _ => if a = Reg.TRIG_LEVEL then s.draw else s

/-- What a read of the register at offset `a` meets first: the words of a counter node (R279). -/
def State.readMeets (s : State) (a : Nat) : State := if statLeafBase ≤ a ∧ a < statDevBase + 0x40 then s.statCheck a else s

/-- A read of `len` bytes at offset `a`: one register, or two, the lower first (R32). An 8-byte read of TRIG_TS_LO removes the head entry of
the channel's queue (R427). -/
def State.ctlRead (s : State) (a len : Nat) : State × List Byte :=
  let s := s.readMeets a
  let lo := s.readWord a
  let s1 := s.readEffect a
  if len = 8 then
    let hi := s1.readWord (a + 4)
    let s2 := s1.readEffect (a + 4)
    (match idxIn a (Reg.TRIG_TS_LO 0) 0x20 16 with
      | some c => s2.popStamp c
      | none => s2, toBytes 4 lo.toNat ++ toBytes 4 hi.toNat)
  else (s1, toBytes 4 lo.toNat)

/-- Part `p` of request `id` where it is a read of control registers that a control node may perform now; the create window has a command
of its own (R154). -/
def State.controlRead (s : State) (id p : Nat) : State :=
  match s.servable id p with
  | none => s
  | some (rq, q) =>
    let a := q.addr % 2 ^ 48
    if rq.kind != .read || q.port != portAUX || !s.isLocal q.addr || decide (a < ctlBase) || !inControlSpan (a - ctlBase) ||
        (createTemplate (a - ctlBase)).isSome then s
    else
      if s.nodeBusy q.router then s.arriveAt id p
      else
        let x := s.ctlRead (a - ctlBase) q.len
        (x.1.respond id p ⟨rOK, x.2, [false], false⟩).nodeUse q.router

/-- The read of part `p` of request `id` is performed now, where its offset and length are among those that `ok` names. -/
def State.readAt (s : State) (id p : Nat) (ok : Nat → Nat → Bool) : State :=
  match s.servable id p with
  | some (_, q) => if ok (q.addr % 2 ^ 48 - ctlBase) q.len then s.controlRead id p else s
  | none => s

/-- Whether a part of a request is a read of control registers that no command of its own performs: those that perform a read of
TRIG_TS, UART_DATA and the create window have one (R427, R430, R154). -/
def State.plainRead (s : State) (r : Request) (q : Part) : Bool :=
  let off := q.addr % 2 ^ 48 - ctlBase
  r.kind == .read && q.port == portAUX && !q.performed && s.isLocal q.addr && decide (ctlBase ≤ q.addr % 2 ^ 48) && inControlSpan off &&
  (createTemplate off).isNone && (idxIn off (Reg.UART_DATA 0) 0x100 8).isNone &&
  !(q.len == 8 && (idxIn off (Reg.TRIG_TS_LO 0) 0x20 16).isSome)

/-- The latency of a local port to its router, in nc (R252). -/
def attachNc (port : Nat) : Nat := [1, 2, 4, 1, 1, 2].getD port 2

/-- When a request that entered the network at time `e` reaches the target of part `q` with no contention on a minimal route (R255). -/
def Request.reach (r : Request) (q : Part) (e : Nat) : Nat :=
  e + ncLen * (attachNc r.homePort + 3 * (minimalXY (initRouter r.src) q.router).length + 2 + attachNc q.port)

/-- The sc edge at which the control node of part `q`, which the request reaches at `e`, performs it: the first one, from now on, at which the
node performs no other (R545). -/
def State.readEdge (s : State) (e : Nat) (q : Part) : Nat :=
  let x := (max s.now e + (scLen - 1)) / scLen
  if tfind s.noc.nodeAt q.router = some x then (x + 1) * scLen else x * scLen

/-- The control reads that may be performed: the sc edge, the arrival, the request and the part. -/
def State.readsDue (s : State) : List (Nat × Nat × Nat × Nat) :=
  s.noc.reqs.flatMap (fun r => match r.injAt with
    | none => []
    | some i => r.parts.zipIdx.filterMap (fun x =>
      if s.plainRead r x.1 && (s.servable r.id x.2).isSome then some (s.readEdge (r.reach x.1 i) x.1, r.reach x.1 i, r.id, x.2) else none))

/-- The control read that is performed first: by its edge, then by its arrival at its node. -/
def State.nextRead (s : State) : Option (Nat × Nat × Nat × Nat) :=
  s.readsDue.foldl (fun b x => match b with
    | none => some x
    | some y => if x.1 < y.1 ∨ (x.1 = y.1 ∧ x.2.1 < y.2.1) then some x else some y) none

/-- A response reaches its initiator's interface. A control read that is not performed yet is performed before it (log entry 10). -/
def State.arriveResp (s : State) (id p : Nat) : State := (s.controlRead id p).arrive id p

end Sys2Proof.Machine
end

