-- ==== Sys2Proof/Machine/CacheOps.lean ====
section
/-!
DEFINITION. The shared operations of the stacked cache (chapter 11): places, tags, words and lines, line traffic, the ways that serve, background
passes, DIRECT lines, lookup and replacement, and the lines that the loader locks.
-/
namespace Sys2Proof.Machine


/-! ### Places, words and tags -/

def cacheLine (n w set : Nat) : Nat := (n * 16 + w) * 16384 + set
def lineSlice (line : Nat) : Nat := line / 16384 / 16
def lineWay (line : Nat) : Nat := line / 16384 % 16
def lineSet (line : Nat) : Nat := line % 16384

/-- Word `i` of a line; an unlisted word is zero, whose check bits are zero (R321). -/
def State.cacheWord (s : State) (line i : Nat) : Word72 := tget (fun _ => 0) s.cache.mem (32 * line + i)

/-- A word stored; a corrected word that waits to be written back there is dropped (R322). -/
def State.setCacheWord (s : State) (line i : Nat) (v : Word72) : State :=
  { s with cache := { s.cache with
    mem := tput (fun _ => 0) s.cache.mem (32 * line + i) v
    back := tdel s.cache.back (32 * line + i) } }

/-- A tag entry (R318). -/
structure CacheTag where
  tag   : Nat
  valid : Bool
  dirty : Bool
  deriving DecidableEq, Repr

def tagOfWord (d : Word64) : CacheTag := ⟨d.toNat % 2048, d.getLsbD 11, d.getLsbD 12⟩
def CacheTag.word (t : CacheTag) : Word64 := BitVec.ofNat 64 (t.tag % 2048 + 2048 * b2n t.valid + 4096 * b2n t.dirty)
def noTag : CacheTag := ⟨0, false, false⟩

def State.tagPair (s : State) (line : Nat) : Word72 × Word72 := tget (fun _ => (0, 0)) s.cache.tags line
def State.setTagPair (s : State) (line : Nat) (p : Word72 × Word72) : State :=
  { s with cache := { s.cache with tags := tput (fun _ => (0, 0)) s.cache.tags line p } }
/-- Both copies of a tag written. -/
def State.setTag (s : State) (line : Nat) (t : CacheTag) : State := s.setTagPair line (encodeWord t.word, encodeWord t.word)

/-- The place of an event in CACHE_UELOG and CACHE_TAGLOG. -/
def placeBits (line : Nat) : Nat := lineWay line * 2 ^ 20 + lineSet line * 2 ^ 6

/-- A line whose tag is lost is dropped and logged, with DIRTY as the first copy has it (R319; log entry 29). -/
def State.tagLoss (s : State) (line : Nat) : State :=
  let d := (wordData (s.tagPair line).1).getLsbD 12
  let s := (s.setTag line noTag).setFld Reg.CACHE_INT_STATUS Fld.CACHE_INT_STATUS_TAGLOSS 1
  s.logEvent (Reg.CACHE_TAGLOG (lineSlice line)) (s.now / ccLen) 0 (BitVec.ofNat 32 (placeBits line + b2n d)) [] none

/-- A tag is read (R319): a copy that decodes is used, and a corrected copy is rewritten. -/
def State.readTag (s : State) (line : Nat) : State × CacheTag :=
  let p := s.tagPair line
  let a := decodeWord p.1
  let b := decodeWord p.2
  let fix (w : Word72) (d : WordClass × Word64) : Word72 := if d.1 = .corrected then encodeWord d.2 else w
  if a.1.bad && b.1.bad then (s.tagLoss line, noTag)
  else
    let s := if a.1 = .corrected ∨ b.1 = .corrected then s.setTagPair line (fix p.1 a, fix p.2 b) else s
    (s, tagOfWord (if a.1.bad then b.2 else a.2))

/-! ### Reading and writing words of a line (R322, R323) -/

/-- What a read of a word found, counted and logged (R322). -/
def State.countCache (s : State) (line i : Nat) (c : WordClass) (d : Word64) : State :=
  let n := lineSlice line
  match c with
  | .clean => s
  | .corrected =>
    let s := s.bump (Reg.CACHE_ERR n) Fld.CACHE_ERR_CORR 1
    { s with cache := { s.cache with back := tins s.cache.back (32 * line + i) d } }
  | .poisoned => s.bump (Reg.CACHE_ERR n) Fld.CACHE_ERR_UNCORR 1
  | .uncorrectable =>
    let s := s.bump (Reg.CACHE_ERR n) Fld.CACHE_ERR_UNCORR 1
    s.logEvent (Reg.CACHE_UELOG n) (s.now / ccLen) 0 (BitVec.ofNat 32 (placeBits line + i)) []
      (some (Reg.CACHE_INT_STATUS, Fld.CACHE_INT_STATUS_UNCORR))

/-- The listed words of a line are read; word numbers count from any line boundary. -/
def State.readLine (line : Nat) : List Nat → State → State × List (WordClass × Word64)
  | [], s => (s, [])
  | w :: l, s =>
    let d := decodeWord (s.cacheWord line (w % 32))
    let x := State.readLine line l (s.countCache line (w % 32) d.1 d.2)
    (x.1, d :: x.2)

/-- The listed words of a line are written with the bytes that `data` at address `a` gives them (R323). -/
def State.writeLine (line a : Nat) (data : List Byte) (marks : List Bool) : List Nat → State → State × List WordClass
  | [], s => (s, [])
  | w :: l, s =>
    let x := writeWord (s.cacheWord line (w % 32)) (byteEnables a data.length w) (wordOfBytes a data w) (marks.getD (w - a / 8) false)
    let s := (s.countCache line (w % 32) x.2 0).setCacheWord line (w % 32) x.1
    let y := State.writeLine line a data marks l s
    (y.1, x.2 :: y.2)

/-- The bytes `a` to `a + len - 1` of a line, served as a read or, with data, as a write: the answer (R322, R323). -/
def State.lineAccess (s : State) (line a len : Nat) (write : Bool) (data : List Byte) (marks : List Bool) : State × Answer :=
  let words := wordSpan a len
  if write then
    let x := State.writeLine line a data marks words s
    (x.1, codeAnswer (classCode x.2))
  else
    let x := State.readLine line words s
    (x.1, ⟨classCode (x.2.map (·.1)), bytesOfWords a len (fun w => (x.2.getD (w - a / 8) (.clean, 0)).2), x.2.map (fun d => d.1.bad), false⟩)

/-! ### Line traffic of 0xC5 (R318, R339, R455) -/

/-- The address of the external line with tag `tag` in set `set` of slice `n` (R318). -/
def tagAddr (n set tag : Nat) : Nat :=
  let hi := tag * 2 ^ 20 + set * 64
  (hi + (n ^^^ fold6 hi)) * 256

/-- A request of the stacked cache, or of a controller, on stream 0: it enters at router `from_` for port `port` of router `d`. `lane`
tells apart the places at which 0xC5 injects (log entry 30). -/
def State.lineRequest (s : State) (from_ lane d port : Nat) (kind : ReqKind) (a len : Nat) (data : List Byte) (marks : List Bool) : State :=
  let v := s.decodeView
  let rt := Reg.NOC_RT_HI from_ v.epochNow d
  let bad := !v.bit rt Fld.NOC_RT_HI_VALID || v.bit rt Fld.NOC_RT_HI_UNREACH || (v.fld rt Fld.NOC_RT_HI_RETIRED).testBit port
  let pc : Piece := ⟨a, len, d, port⟩
  s.post ⟨0, srcCache, lane, 0, kind, a, len, data, marks, none, 0, s.now, s.epochNow, none, [],
    if bad then some rRetired else none, if bad then [] else [freshPart 0 0 pc], false, true, [], [], none⟩

/-- The lanes of 0xC5: slice `n`'s fills and write-backs, and the forwards of the controller at router `k`. -/
def sliceLane (n : Nat) : Nat := 128 + n
def forwardLane (k : Nat) : Nat := 64 + k

/-- A fill or write-back of slice `n` to the controller of the line at `a`. -/
def State.sliceRequest (s : State) (n : Nat) (kind : ReqKind) (a : Nat) (data : List Byte) (marks : List Bool) : State :=
  match s.extPlace a with
  | some (c, _) => s.lineRequest n (sliceLane n) (channelRouter c) portAUX kind a 256 data marks
  | none => s

/-- The line with tag `tag` is written back from its words as read. -/
def State.writeBack (s : State) (line tag : Nat) : State :=
  let a := tagAddr (lineSlice line) (lineSet line) tag
  let x := State.readLine line (List.range 32) s
  x.1.sliceRequest (lineSlice line) .write a (x.2.flatMap (fun d => toBytes 8 d.2.toNat)) (x.2.map (fun d => d.1.bad))

/-- A dirty line whose channel is lost is written back as 32 stamped words of zero data (R330). -/
def State.writeBackLost (s : State) (line tag : Nat) : State :=
  s.sliceRequest (lineSlice line) .write (tagAddr (lineSlice line) (lineSet line) tag) (List.replicate 256 0) (List.replicate 32 true)

/-! ### Which ways serve (R314, R318, R329–R332, R465) -/

def State.wayRetired (s : State) (n w : Nat) : Bool := (s.reg (Reg.CACHE_SLICE n)).getLsbD w
def State.isVictim (s : State) (n w : Nat) : Bool := s.cache.victims.contains (n * 16 + w)

/-- The die of way `w` is in reset, or is being refilled after one (R465). -/
def State.cacheDieOut (s : State) (w : Nat) : Bool :=
  s.bit (Reg.RST_DIE (4 + w / 4)) Fld.RST_DIE_ACTIVE || (match tfind s.pwr.refill (4 + w / 4) with
    | some e => decide (s.now < e)
    | none => false)

/-- A usable CACHE way of slice `n`, as CACHE_STATUS.CAP_WAYS counts them. -/
def State.capWay (s : State) (n w : Nat) : Bool := s.wayUse w == useCache && !s.wayRetired n w && !s.isVictim n w
/-- A way in which slice `n` allocates in set `set`; a line locked for the loader is not taken (R112). -/
def State.allocWay (s : State) (n set w : Nat) : Bool :=
  s.capWay n w && !s.cache.setuse.contains w && !s.cacheDieOut w && !s.cache.locked.contains (cacheLine n w set)

def sixteen : List Nat := List.range 16

/-- CACHE_STATUS.CAP_WAYS brought up to date. -/
def State.capSync (s : State) : State :=
  s.setFld Reg.CACHE_STATUS Fld.CACHE_STATUS_CAP_WAYS
    (((List.range 64).map (fun n => sixteen.countP (fun w => s.capWay n w))).foldl (· + ·) 0)

/-! ### Background passes (R330, R331) -/

/-- A pass deals with one set: a victim's line is written back and the set's line becomes stamped zeros in it (R331); without a victim
a dirty line is written back stamped and a clean one dropped (R330). -/
def State.moveSet (s : State) (m : Remap) (set : Nat) : State :=
  match m.victim with
  | none =>
    let line := cacheLine m.slice m.way set
    let x := s.readTag line
    let s := if x.2.valid && x.2.dirty then x.1.writeBackLost line x.2.tag else x.1
    s.setTag line noTag
  | some v =>
    let line := cacheLine m.slice v set
    let x := s.readTag line
    let s := if x.2.valid && x.2.dirty then x.1.writeBack line x.2.tag else x.1
    (List.range 32).foldl (fun s i => s.setCacheWord line i (stampWord 0)) (s.setTag line noTag)

/-- Whether a pass has yet to deal with a set. -/
def Remap.owes (m : Remap) (set : Nat) : Bool := decide (m.next ≤ set) && !m.moved.contains set

def State.setRemaps (s : State) (l : List Remap) : State := { s with cache := { s.cache with remaps := l } }

/-- A pass deals with set `set` out of its order. -/
def State.moveNow (s : State) (m : Remap) (set : Nat) : State :=
  (s.moveSet m set).setRemaps (s.cache.remaps.map (fun k => if k = m then { k with moved := set :: k.moved } else k))

/-- A request for set `set` of slice `n` that involves way `w` makes the slice move that set next (R331). -/
def State.moveFor (s : State) (n w set : Nat) : State :=
  match s.cache.remaps.find? (fun m => m.slice == n && (m.way == w || m.victim == some w) && m.owes set) with
  | some m => s.moveNow m set
  | none => s

/-- The next set of a pass; sets moved on demand are passed over. -/
def Remap.skip : Nat → Remap → Remap
  | 0, m => m
  | k + 1, m => if m.moved.contains m.next then Remap.skip k { m with next := m.next + 1, moved := m.moved.erase m.next } else m

/-- The oldest background pass of slice `n` deals with its next set, and ends after set 16,383 (R330, R331). -/
def State.remapStep (s : State) (n : Nat) : State :=
  match s.cache.remaps.find? (fun m => m.slice == n) with
  | none => s
  | some m0 =>
    let m := Remap.skip m0.moved.length m0
    let s := if m.next < 16384 then s.moveSet m m.next else s
    let m' := Remap.skip m.moved.length { m with next := m.next + 1 }
    if m'.next < 16384 then s.setRemaps (s.cache.remaps.map (fun k => if k = m0 then m' else k))
    else
      let s := s.setRemaps (s.cache.remaps.filter (fun k => k != m0))
      let s := if s.cache.remaps.any (fun k => k.slice == n) then s
        else s.setFld (Reg.CACHE_SLICE n) Fld.CACHE_SLICE_REMAP 0
      s.setFld Reg.CACHE_INT_STATUS Fld.CACHE_INT_STATUS_REMAP_DONE 1

/-! ### DIRECT lines (R314–R317, R332) -/

/-- The place that serves the line of local address `a`, or the code that answers for it. -/
def State.directLine (s : State) (a : Nat) : State × Except Nat Nat :=
  let o := a - cacheBase
  let w := o / 2 ^ 28
  let x := s.directPlace o
  if !s.wayDecoded w then (s, .error rDecode)
  else if !s.wayRetired x.1 w then (s, if s.cacheDieOut w then .error rReset else .ok (cacheLine x.1 w x.2))
  else match tfind s.cache.served (x.1 * 16 + w) with
    | none => (s, .error rRetired)
    | some v => if s.cacheDieOut v then (s, .error rReset) else (s.moveFor x.1 w x.2, .ok (cacheLine x.1 v x.2))

/-- The part of the range `a` to `a + len - 1` in each line. -/
def linePieces (a len : Nat) : List (Nat × Nat) :=
  if a / 256 = (a + len - 1) / 256 then [(a, len)]
  else [(a, 256 - a % 256), (a / 256 * 256 + 256, len - (256 - a % 256))]

/-- Two answers in address order as one (R292). -/
def Answer.append (x y : Answer) : Answer := ⟨worseCode x.code y.code, x.bytes ++ y.bytes, x.marks ++ y.marks, x.bypass || y.bypass⟩
def noAnswer : Answer := ⟨rOK, [], [], false⟩

/-- An access to DIRECT lines. -/
def State.directAccess (s : State) (a len : Nat) (write : Bool) (data : List Byte) (marks : List Bool) : State × Answer :=
  match s.directLine a with
  | (s, .error c) => (s, codeAnswer c)
  | _ => (linePieces a len).foldl (fun x p =>
      match x.1.directLine p.1 with
      | (s, .error c) => (s, x.2.append (codeAnswer c))
      | (s, .ok line) =>
        let y := s.lineAccess line p.1 p.2 write ((data.drop (p.1 - a)).take p.2) (marks.drop (p.1 / 8 - a / 8))
        (y.1, x.2.append y.2)) (s, noAnswer)

/-! ### CACHE ways (R318) -/

/-- The subtree of node `k` at depth `d` (leaves at depth 4): whether it holds a way of `ok`. -/
def treeAny (ok : Nat → Bool) : Nat → Nat → Bool
  | 0, k => ok (k - 16)
  | d + 1, k => treeAny ok d (2 * k) || treeAny ok d (2 * k + 1)

/-- The walk of tree pseudo-LRU from node `k`, `d` levels above the leaves, along the bits `b`, among the ways of `ok`. -/
def plruWalk (ok : Nat → Bool) (b : Nat) : Nat → Nat → Nat
  | 0, k => k - 16
  | d + 1, k =>
    let first := 2 * k + b2n (b.testBit k)
    let other := 2 * k + 1 - b2n (b.testBit k)
    plruWalk ok b d (if treeAny ok d first then first else other)

/-- The bits after a use of way `w`: every node on its path points away from it. -/
def plruTouch (b w : Nat) : Nat :=
  [1, 2, 3, 4].foldl (fun b d =>
    let child := (16 + w) / 2 ^ (4 - d)
    let node := child / 2
    let clear := if b.testBit node then b - 2 ^ node else b
    if child % 2 = 0 then clear + 2 ^ node else clear) b

def State.plru (s : State) (n set : Nat) : Nat := tget (fun _ => 0) s.cache.plru (n * 16384 + set)
def State.touchWay (s : State) (n w set : Nat) : State :=
  { s with cache := { s.cache with plru := tput (fun _ => 0) s.cache.plru (n * 16384 + set) (plruTouch (s.plru n set) w) } }

/-- The tag of slice `n`, set `set` is looked up in CACHE ways; a retired or victim way that holds the line gives it up first. -/
def State.lookup (n set tag : Nat) : List Nat → State → State × Option Nat
  | [], s => (s, none)
  | w :: l, s =>
    if s.wayUse w ≠ useCache ∨ s.cacheDieOut w then State.lookup n set tag l s
    else
      let line := cacheLine n w set
      let x := s.readTag line
      if !x.2.valid || x.2.tag != tag then State.lookup n set tag l x.1
      else if s.wayRetired n w || s.isVictim n w then State.lookup n set tag l (x.1.moveFor n w set)
      else (x.1, some w)

/-- The number, set and tag of the external line at `a` (R318). -/
def extLine (a : Nat) : Nat := a / 256 % 2 ^ 31
def extSet (a : Nat) : Nat := extLine a / 64 % 2 ^ 14
def extTag (a : Nat) : Nat := extLine a / 2 ^ 20

/-- A forward served from way `w` of its set: a write makes the line dirty. The answer carries the worse of its code and `code`. -/
def State.serveForward (s : State) (r : Request) (n w code : Nat) : State :=
  let set := extSet r.addr
  let line := cacheLine n w set
  let write := !r.data.isEmpty
  let x := s.lineAccess line r.addr r.len write r.data r.marks
  let s := if write then x.1.setTag line ⟨extTag r.addr, true, true⟩ else x.1
  (s.touchWay n w set).respond r.id 0 { x.2 with code := worseCode code x.2.code }

/-- A forward waits for the fill of its line that is on its way, where there is one. -/
def State.joinFill (s : State) (n line id : Nat) : Option State :=
  if s.cache.fills.any (fun f => f.slice == n && f.line == line) then
    some { s with cache := { s.cache with
      fills := s.cache.fills.map (fun f => if f.slice = n ∧ f.line = line then { f with wait := f.wait ++ [id] } else f) } }
  else none

/-- A forward at slice `n` (R339): a hit is served; a miss fills the line, unless the set has no usable CACHE way. -/
def State.forwardAtSlice (s : State) (r : Request) (n : Nat) : State :=
  match s.joinFill n (extLine (r.addr / 256 * 256)) r.id with
  | some s => s
  | none =>
    let set := extSet r.addr
    match State.lookup n set (extTag r.addr) sixteen s with
    | (s, some w) => s.serveForward r n w rOK
    | (s, none) =>
      if !sixteen.any (s.allocWay n set) then s.respond r.id 0 ⟨rOK, [], [], true⟩
      else
        let a := r.addr / 256 * 256
        let id := s.noc.nextId
        let s := s.sliceRequest n .read a [] []
        { s with cache := { s.cache with fills := s.cache.fills ++ [⟨n, extLine a, id, [r.id]⟩] } }

/-- A line's place takes 256 bytes and the tag `tag`: the dirty line that was there goes back first. -/
def State.replaceLine (s : State) (pl : Nat) (bytes : List Byte) (marks : List Bool) (tag : CacheTag) : State :=
  let x := s.readTag pl
  let s := if x.2.valid && x.2.dirty then x.1.writeBack pl x.2.tag else x.1
  let s := (List.range 32).foldl (fun s i => s.setCacheWord pl i (storeWord (marks.getD i false) (wordOfBytes 0 bytes i))) s
  s.setTag pl tag

/-- A filled line is placed in a way of its set. -/
def State.allocate (s : State) (n line : Nat) (bytes : List Byte) (marks : List Bool) (w : Nat) : State :=
  let a := line * 256
  s.replaceLine (cacheLine n w (extSet a)) bytes marks ⟨extTag a, true, false⟩

/-- The loader locks a line and stages 256 bytes of its dictionary in it (R112). The spec does not say which: line `i` of the dictionary goes to a
set that is free (Config.stageSet), into the way that an allocation there would take, and where that set has no such way no line is locked for it
(DESIGN CHOICE: log entry 90). -/
def State.stageLine (s : State) (i : Nat) (bytes : List Byte) : State :=
  let k := Config.stageSet i % (64 * 16384)
  let n := k / 16384
  let ok := s.allocWay n (k % 16384)
  if !sixteen.any ok then s
  else
    let pl := cacheLine n (plruWalk ok (s.plru n (k % 16384)) 4 1) (k % 16384)
    let s := s.replaceLine pl bytes [] noTag
    { s with cache := { s.cache with locked := pl :: s.cache.locked } }

/-- An entry of the dictionary is staged in 16 lines (R112). -/
def State.stageEntry (s : State) (k : Nat) (b : List Byte) : State :=
  sixteen.foldl (fun s i => s.stageLine (16 * k + i) ((b.drop (256 * i)).take 256)) s

/-- The loader's lines are released (R112). -/
def State.releaseLines (s : State) : State := { s with cache := { s.cache with locked := [] } }

end Sys2Proof.Machine
end

