-- ==== Sys2Proof/Machine/Scratch.lean ====
section
/-!
DEFINITION. Scratch banks (chapter 08): handovers (R239–R244), the owner check (R238), ports (R245–R247), row access and rotation
(R248), and errors (R249, R323).
-/
namespace Sys2Proof.Machine


/-! ### Handover (R239–R243) -/

/-- Whether a region's spill configuration uses bank `b` and holds slots there (R239 IN_USE). -/
def State.spillUses (s : State) (b : Nat) : Bool :=
  (List.range 128).any (fun r => s.fld (Reg.TALLY_SPILL_CFG r) Fld.TALLY_SPILL_CFG_BANK == b && !(s.sreg r).slots.isEmpty)

/-- The codes that name no owner. -/
def badOwner (c : Nat) : Bool := decide (2 ≤ c ∧ c ≤ 0xF) || decide (0x20 ≤ c ∧ c ≤ 0x3F)

/-- The status of a handover by `by_` to `new` (R239). -/
def State.handoverCheck (s : State) (b by_ new : Nat) : Nat :=
  let own := s.owner b
  if s.scrState b ≠ scrSettled then hoBusy
  else if by_ ≠ own ∧ own ≠ ownUnowned ∧ by_ ≠ ownEngine 0 ∧ !(by_ = ownHost ∧ 0x10 ≤ own ∧ own ≤ 0x1F) then hoNotOwner
  else if badOwner new ∨ (own = ownUnowned ∧ by_ ≠ ownEngine 0 ∧ new ≠ by_) then hoBadOwner
  else if s.spillUses b then hoInUse
  else hoDone

/-- The bank number of a region's capture writes among its lanes (R241, R375). -/
def captureLane : Nat := 5

/-- The lanes (state bank, stream) of an owner toward a bank (R241). -/
def ownerLanes (code : Nat) : List (Nat × Nat) :=
  if 0x80 ≤ code then
    ([0, 1, 2, 3].flatMap (fun b => (List.range 8).map (fun st => (b, st)))) ++ [(xferLane, 0), (captureLane, 0)]
  else (List.range 8).map (fun st => (0, st))

/-- The initiator number of an owner. -/
def ownerSrc (code : Nat) : Nat :=
  if 0x80 ≤ code then srcRegion (code - 0x80)
  else if 0x40 ≤ code then code - 0x40
  else if code = ownHost then srcHost
  else srcDma (code - 0x10)

/-- The old owner's interface places the marker of a lane: behind what the region's commit buffer holds of the lane, or at once. -/
def State.drainLane (s : State) (code b h : Nat) (lane : Nat × Nat) : State :=
  let src := ownerSrc code
  let r := code - 0x80
  let waits (e : BufEntry) : Bool := match e with
    | .request bank st _ _ _ _ _ => bank == lane.1 && st == lane.2
    | _ => false
  if 0x80 ≤ code ∧ (s.sreg r).buf.any waits then
    s.mapSreg r (fun y => { y with buf := y.buf ++ [.marker lane.1 lane.2 b h] })
  else s.placeMarker src lane.1 lane.2 b h

/-- An accepted handover (R241). -/
def State.startHandover (s : State) (a : HoAsk) : State :=
  let old := s.owner a.bank
  if !a.clear && (old == ownUnowned || a.new == old) then s.completeHandover a.bank a.new a.h a.h a.eng
  else
    let s := (s.setFld (Reg.SCR_OWN a.bank) Fld.SCR_OWN_PENDING a.new).setLast a.bank hoInProgress
    let h : Handover := ⟨old, a.new, a.clear, a.h, a.eng, [], none, none⟩
    if old = ownUnowned then
      ({ s with scr := { s.scr with hov := tins s.scr.hov a.bank { h with clearAt := some a.h } } }).setScrState a.bank scrClearing
    else
      let lanes := ownerLanes old
      let s := ({ s with scr := { s.scr with hov := tins s.scr.hov a.bank { h with left := lanes } } }).setScrState a.bank scrDraining
      lanes.foldl (fun s l => s.drainLane old a.bank a.h l) s

/-- The rank of a request for a handover (R240): engine 0, the current owner, the others by code. -/
def hoRank (own by_ : Nat) : Nat := if by_ = ownEngine 0 then 0 else if own ≠ ownUnowned ∧ by_ = own then 1 else 2 + by_

def hoInsert (own : Nat) (a : HoAsk) : List HoAsk → List HoAsk
  | [] => [a]
  | b :: l => if hoRank own a.by_ < hoRank own b.by_ then a :: b :: l else b :: hoInsert own a l

/-- The requests of one edge in their order: the first that passes is accepted, and every later one is refused with CONFLICT. While a handover is in
progress LAST reads 0x7, whatever is refused meanwhile (R250). -/
def State.judge : List HoAsk → Bool → State → State
  | [], _, s => s
  | a :: l, taken, s =>
    let st := if taken then hoConflict else s.handoverCheck a.bank a.by_ a.new
    if st = hoDone then State.judge l true (s.startHandover a)
    else
      let s := if s.scrState a.bank = scrSettled then s.setLast a.bank st else s
      State.judge l taken (s.endScrWait a.eng a.h a.h st)

/-- The earliest edge H at which handovers of bank `b` are to be judged, if it has come. -/
def State.dueH (s : State) (b : Nat) : Option Nat :=
  (s.scr.asks.filter (fun a => a.bank == b && decide (a.h ≤ s.now))).foldl
    (fun m a => match m with | some h => some (min h a.h) | none => some a.h) none

/-- The handovers of bank `b` that reach it at one edge H are judged (R239, R240). -/
def State.evaluateHandover (s : State) (b : Nat) : State :=
  match s.dueH b with
  | none => s
  | some h =>
    let now := s.scr.asks.filter (fun a => a.bank == b && a.h == h)
    let s := { s with scr := { s.scr with asks := s.scr.asks.filter (fun a => !(a.bank == b && a.h == h)) } }
    let own := s.owner b
    State.judge (now.foldl (fun l a => hoInsert own a l) []) false s

/-- A drain marker reaches bank `b` (R241): the drain ends at the first sc edge at or after the arrival of the last one; a marker
that no handover waits for is discarded (R243). -/
def State.markerArrival (s : State) (id p : Nat) : State :=
  match s.servable id p with
  | none => s
  | some (r, q) =>
    if r.kind ≠ .marker then s
    else
      let b := (q.addr - scrBase) / 0x40000
      let s := s.respond id p (codeAnswer rOK)
      match tfind s.scr.hov b with
      | none => s
      | some h =>
        if r.tag ≠ h.h ∨ ownerSrc h.old ≠ r.src ∨ h.drained.isSome ∨ !h.left.contains (r.bank, r.stream) then s
        else
          let left := h.left.erase (r.bank, r.stream)
          let d := (s.now + scLen - 1) / scLen * scLen
          let h := { h with left := left, drained := if left.isEmpty then some d else none }
          let s := { s with scr := { s.scr with hov := tins s.scr.hov b h } }
          if !left.isEmpty then s else if d = s.now then s.drainEnd b else s.later d (.drainEnd b)

/-- The time that a clear takes: 2,048 nc (R242). -/
def clearLen : Nat := 2048 * ncLen

/-- The last row of a CLEARING bank has been written: every word is zero, clean and written, and the handover completes (R242). -/
def State.clearDone (s : State) (b : Nat) : State :=
  match tfind s.scr.hov b with
  | none => s
  | some h =>
    match h.clearAt with
    | none => s
    | some c =>
      if s.now < c + clearLen then s
      else
        let inBank (k : Nat) : Bool := k / 32768 == b
        let s := { s with scr := { s.scr with
          mem := s.scr.mem.filter (fun p => !inBank p.1), back := s.scr.back.filter (fun p => !inBank p.1),
          zeroed := if s.scr.zeroed.contains b then s.scr.zeroed else s.scr.zeroed ++ [b] } }
        s.completeHandover b h.new h.h (c + clearLen) h.eng

/-! ### The owner check (R237, R238) -/

/-- An answer ERR_OWNER, recorded in SCR_OWNLOG and SCR_OWNCNT; of several in one nc the lowest bank is logged (R250). -/
def State.ownerError (s : State) (b src : Nat) : State :=
  (s.bump Reg.SCR_OWNCNT Fld.SCR_OWNCNT_COUNT 1).logEvent Reg.SCR_OWNLOG (s.now / ncLen) b
    (BitVec.ofNat 32 (ownerCode src * 2 ^ 8 + b)) [] none

/-- The drain of bank `b` has not ended 65,536 sc after H: TIMEOUT (R243). -/
def State.handoverTimeout (s : State) (b : Nat) : State :=
  match tfind s.scr.hov b with
  | none => s
  | some h =>
    if h.drained.isSome ∨ h.clearAt.isSome ∨ s.now < h.h + 65536 * scLen then s
    else
      let held := tget (fun _ => []) s.scr.held b
      let s := { s with scr := { s.scr with hov := tdel s.scr.hov b, held := tdel s.scr.held b } }
      let s := ((s.setFld (Reg.SCR_OWN b) Fld.SCR_OWN_PENDING 0).setScrState b scrSettled).setLast b hoTimeout
      let s := s.endScrWait h.eng h.h (h.h + 65536 * scLen) hoTimeout
      held.foldl (fun s x => match s.findReq x.1 with
        | some r => if (r.parts[x.2]?).any (fun q => !q.performed)
            then (s.ownerError b r.src).respond x.1 x.2 (codeAnswer rOwner) else s
        | none => s) s

/-- What a bank does with a request part that reaches it. -/
inductive ScrGate where
  | serve (owner : Bool)
  | hold
  | refuse
  deriving DecidableEq, Repr

/-- R238 and R241 for a request of `src` on lane (bank, stream). -/
def State.scrGate (s : State) (b src bank stream : Nat) : ScrGate :=
  let code := ownerCode src
  let own := s.owner b
  match tfind s.scr.hov b with
  | none =>
    if code = own ∧ own ≠ ownUnowned ∧ code ≠ ownNone then .serve true
    else if s.bit (Reg.SCR_CFG b) Fld.SCR_CFG_GRANT_EN && code == ownDma (s.fld (Reg.SCR_CFG b) Fld.SCR_CFG_GRANT)
      then .serve false
    else .refuse
  | some h =>
    if h.clearAt.isNone ∧ code = h.old ∧ h.left.contains (bank, stream) then .serve true
    else if code = h.new ∧ h.new ≠ ownUnowned ∧ code ≠ ownNone then .hold
    else .refuse

/-! ### Words (R235, R236, R249, R323) -/

def scrKey (b w : Nat) : Nat := b * 32768 + w

/-- A word of a bank, where it has been written since the last power-on or base-die reset. -/
def State.scrWord? (s : State) (b w : Nat) : Option Word72 :=
  match tfind s.scr.mem (scrKey b w) with
  | some v => some v
  | none => if s.scr.zeroed.contains b then some (encodeWord 0) else none

/-- A word of a bank; one that has not been written is unpredictable (R236). -/
def State.scrWord (s : State) (b w : Nat) : Word72 := (s.scrWord? b w).getD (Config.freeWord72 s.fresh)

/-- The number of the next free value moves on where the word was not written. -/
def State.scrDraw (s : State) (b w : Nat) : State := if (s.scrWord? b w).isNone then s.draw else s

/-- A word stored; a corrected word that waits to be written back there is dropped (R249). -/
def State.setScr (s : State) (b w : Nat) (v : Word72) : State :=
  let k := scrKey b w
  { s with scr := { s.scr with
    mem := if s.scr.zeroed.contains b ∧ v = encodeWord 0 then tdel s.scr.mem k else tins s.scr.mem k v
    back := tdel s.scr.back k } }

/-! ### Ports (R246–R249, R323) -/

/-- Words of a row of an access at bank offset `o`: row `k` of those that it touches. -/
def rowWords (o len k : Nat) : List Nat := (wordSpan o len).filter (fun w => w / 16 == o / 128 + k)

/-- The rows that an access of `len` bytes at bank offset `o` touches. -/
def scrRows (o len : Nat) : Nat := (o + len - 1) / 128 - o / 128 + 1

/-- The bank offset of a part. -/
def scrOff (q : Part) : Nat := q.addr % 2 ^ 48 % 0x40000

/-- The part that waits, where it still does: one that has met the target limit waits no longer. -/
def State.scrPart (s : State) (x : ScrWait) : Option (Request × Part) :=
  match s.findReq x.id with
  | none => none
  | some r => (r.parts[x.part]?).bind (fun q => if q.performed then none else some (r, q))

/-- One word met by a port; `old` holds the words that the other port has written in the same cycle, as they were (R247). A corrected word is to be
written back, unless the other port has written it (R249); the scrubber writes it back itself, and stamps an uncorrectable one (R325). -/
def State.scrMeet (s : State) (b : Nat) (scrub : Bool) (old : List (Nat × Word72)) (x : ScrWait) (w : Nat) : State × ScrWait :=
  let other := (old.find? (fun p => p.1 == w)).map (·.2)
  let v := other.getD (s.scrWord b w)
  let d := decodeWord v
  let raw := other.isNone && (s.scrWord? b w).isNone
  let s := if raw then s.draw else s
  let s := if other.isSome then s
    else match d.1 with
      | .corrected => if scrub then s.setScr b w (encodeWord d.2)
          else { s with scr := { s.scr with back := tins s.scr.back (scrKey b w) d.2 } }
      | .uncorrectable => if scrub then s.setScr b w (stampWord d.2) else s
      | _ => s
  (s, { x with got := x.got ++ [v], raw := x.raw || raw })

/-- One word written by a port (R247, R249, R323): bytes that both ports write in one cycle take port B's data, which comes second. -/
def State.scrPut (s : State) (b o len : Nat) (data : List Byte) (marks : List Bool) (x : ScrWait) (w : Nat) : State × ScrWait :=
  let be := byteEnables o len w
  let v := s.scrWord b w
  let s' := if be ≠ 0xFF ∧ (s.scrWord? b w).isNone then s.draw else s
  (s'.setScr b w (writeWord v be (wordOfBytes o data w) (marks.getD (w - o / 8) false)).1,
    { x with got := x.got ++ [if be = 0xFF then encodeWord 0 else v] })

/-- What an access found, counted and logged once for the access (R249, R250). -/
def State.countScr (s : State) (b o : Nat) (got : List Word72) : State :=
  let cls := got.map (fun v => (decodeWord v).1)
  let s := if cls.contains .corrected then s.bump (Reg.SCR_ERR b) Fld.SCR_ERR_CORR 1 else s
  let s := if cls.any (·.bad) then s.bump (Reg.SCR_ERR b) Fld.SCR_ERR_UNCORR 1 else s
  match cls.findIdx? (· == .uncorrectable) with
  | none => s
  | some i =>
    s.logEvent (Reg.SCR_UELOG b) (s.now / ncLen) (o / 8 + i) (BitVec.ofNat 32 (o / 8 + i)) [] none

/-- The three masks of a scrub answer, over words of the given classes in order (R325). -/
def scrubMasks (l : List WordClass) : List Byte :=
  let mask (c : WordClass) : Nat := (l.zipIdx.map (fun p => if p.1 = c then 2 ^ p.2 else 0)).foldl (· + ·) 0
  toBytes 8 (mask .corrected) ++ toBytes 8 (mask .uncorrectable) ++ toBytes 8 (mask .poisoned)

/-- The answer of an access whose last row has been served. A read that met a word never written since power-on has any code (R8, R236). -/
def State.scrAnswer (s : State) (b : Nat) (r : Request) (q : Part) (x : ScrWait) : State :=
  let o := scrOff q
  let s := s.countScr b o x.got
  let d := x.got.map decodeWord
  match r.kind with
  | .read =>
    let code := if x.raw then Config.freeNat s.fresh % 12 else classCode (d.map (·.1))
    (if x.raw then s.draw else s).respond x.id x.part
      ⟨code, bytesOfWords o q.len (fun w => (d.getD (w - o / 8) (.clean, 0)).2), d.map (fun c => c.1.bad), false⟩
  | .scrub => s.respond x.id x.part ⟨rOK, scrubMasks (d.map (·.1)), [], false⟩
  | _ => s.respond x.id x.part (codeAnswer rOK)

/-- Port `p` of bank `b` serves the next row of an access (R235, R248); the words that it has written come with it, as they were. An access with rows
left keeps the port, except the scrubber's, which uses idle cycles only. -/
def State.scrRow (s : State) (b p : Nat) (x : ScrWait) (old : List (Nat × Word72)) : State × List (Nat × Word72) :=
  match s.scrPart x with
  | none => (s, [])
  | some (r, q) =>
    let o := scrOff q
    let words := rowWords o q.len x.rows
    let write := r.kind == .write
    let was := if write then words.map (fun w => (w, s.scrWord b w)) else []
    let y := words.foldl (fun y w =>
      if write then y.1.scrPut b o q.len (partData r q) (partMarks r q) y.2 w else y.1.scrMeet b (r.kind == .scrub) old y.2 w) (s, x)
    let x := { y.2 with rows := y.2.rows + 1 }
    let s := y.1
    if scrRows o q.len ≤ x.rows then (s.scrAnswer b r q x, was)
    else if r.kind = .scrub then (s.setWait b (x :: s.waitAt b), was)
    else (({ s with scr := { s.scr with port := tins s.scr.port (2 * b + p) x } }).begin_ x.id x.part, was)

/-- The first part of class `c` that waits. -/
def State.scrFirst (s : State) (b c : Nat) : Option ScrWait := (s.waitAt b).find? (fun x => x.cls == c)

/-- The initiator and stream of a part (R247). -/
def State.scrLane (s : State) (x : ScrWait) : Option (Nat × Nat) := (s.scrPart x).map (fun y => (y.1.src, y.2.stream))

/-- What a port takes next, by its choice `pick`. An access that crosses a row without ROTATE is answered with ERR_DECODE and takes no cycle
(R248). -/
def State.scrTake (b : Nat) (pick : State → Option ScrWait) : Nat → State → State × Option ScrWait
  | 0, s => (s, none)
  | n + 1, s =>
    match pick s with
    | none => (s, none)
    | some x =>
      let s := s.setWait b ((s.waitAt b).erase x)
      match s.scrPart x with
      | none => State.scrTake b pick n s
      | some (r, q) =>
        if r.kind ≠ .scrub ∧ 1 < scrRows (scrOff q) q.len ∧ !s.bit (Reg.SCR_CFG b) Fld.SCR_CFG_ROTATE then
          State.scrTake b pick n (s.respond x.id x.part (codeAnswer rDecode))
        else (s, some x)

/-- A port goes on with its access, or takes another. -/
def State.scrPort (s : State) (b p : Nat) (pick : State → Option ScrWait) : State × Option ScrWait :=
  match s.portAt b p with
  | some x => ({ s with scr := { s.scr with port := tdel s.scr.port (2 * b + p) } }, some x)
  | none => State.scrTake b pick ((s.waitAt b).length + 1) s

/-- The owner's oldest request, then the granted channel's, then the scrubber's. -/
def State.pickSingle (b : Nat) (s : State) : Option ScrWait := ((s.scrFirst b 0).or (s.scrFirst b 1)).or (s.scrFirst b 2)

/-- Port A of a dual-port bank: the owner's oldest request, where port B is not serving its stream (R247). -/
def State.pickA (b : Nat) (s : State) : Option ScrWait :=
  (s.scrFirst b 0).filter (fun x => match s.portAt b 1 with
    | some y => s.scrLane x != s.scrLane y
    | none => true)

/-- Port B, beside what port A serves: the owner's next request where it is on another stream, else the granted channel or the scrubber (R247). -/
def State.pickB (b : Nat) (lane : Option (Nat × Nat)) (s : State) : Option ScrWait :=
  (((s.scrFirst b 0).filter (fun x => lane.isNone || s.scrLane x != lane)).or (s.scrFirst b 1)).or (s.scrFirst b 2)

/-- The ports of bank `b` at the nc edge that has just been (R246, R247). A clear takes the cycles of one port (R242). -/
def State.scrEdge (s : State) (b : Nat) : State :=
  let e := s.now / ncLen * ncLen
  let clearing := s.scrState b == scrClearing
  let s := s.setWait b ((s.waitAt b).filter (fun x => (s.scrPart x).isSome))
  let pa := if clearing then (s, none) else s.scrPort b 0 (if b < 8 then State.pickA b else State.pickSingle b)
  let lane := pa.2.bind (fun x => pa.1.scrLane x)
  let ra := match pa.2 with
    | none => (pa.1, [])
    | some x => pa.1.scrRow b 0 x []
  let s := if b < 8 then
      let pb := ra.1.scrPort b 1 (State.pickB b lane)
      match pb.2 with
      | none => pb.1
      | some x => (pb.1.scrRow b 1 x ra.2).1
    else ra.1
  if ((s.waitAt b).isEmpty ∧ (s.portAt b 0).isNone ∧ (s.portAt b 1).isNone) ∨ (clearing ∧ 8 ≤ b) then s else s.scrWake b (e + ncLen)

/-- The parts held for bank `b` that still wait, in arrival order (R243); one that has met the target limit waits no longer. -/
def State.heldAt (s : State) (b : Nat) : List (Nat × Nat) :=
  (tget (fun _ => []) s.scr.held b).filter (fun x => (s.scrPart ⟨x.1, x.2, 0, 0, [], false⟩).isSome)

def State.setHeldAt (s : State) (b : Nat) (l : List (Nat × Nat)) : State :=
  { s with scr := { s.scr with held := tput (fun _ => []) s.scr.held b l } }

/-- A read or write reaches its scratch bank, which checks it against the owner at that edge (R238, R241); one that is admitted waits for a port. -/
def State.scratchAccess (s : State) (id p : Nat) : State :=
  match s.reaching id p with
  | none => s
  | some (r, q) =>
    let a := q.addr % 2 ^ 48
    let b := (a - scrBase) / 0x40000
    if a < scrBase ∨ 96 ≤ b ∨ q.port ≠ portSCR ∨ (r.kind ≠ .read ∧ r.kind ≠ .write) then s
    else match s.scrGate b r.src r.bank q.stream with
      | .refuse => (s.ownerError b r.src).respond id p (codeAnswer rOwner)
      | .hold => (s.arriveAt id p).setHeldAt b (s.heldAt b ++ [(id, p)])
      | .serve owner => (s.arriveAt id p).scrJoin b [⟨id, p, if owner then 0 else 1, 0, [], false⟩]

/-- An idle cycle of bank `b`: the oldest corrected word is written back (R249). -/
def State.scratchWriteback (s : State) (b : Nat) : State :=
  match s.scr.back.find? (fun p => p.1 / 32768 == b) with
  | none => s
  | some (k, d) =>
    if !(s.waitAt b).isEmpty ∨ (s.portAt b 0).isSome ∨ s.scrState b = scrClearing then s
    else s.setScr b (k % 32768) (encodeWord d)

end Sys2Proof.Machine
end

