-- ==== Sys2Proof/Machine/Lanes.lean ====
section
/-!
DEFINITION. Duplex lanes (chapter 13): states and profiles (R361–R363, R379), the receiver (R366), words (R364–R369), bridge mode
(R370–R373), capture (R374–R376) and events (R377, R378).
Times inside a word period are counted in line units: one rc edge is SYMRATE × (bits per symbol) units, so that the word period of
R364 is 19,200 units for each line bit.
-/
namespace Sys2Proof.Machine


def Lane.idle : Lane := ⟨⟨0, 0, 0⟩, 0, 0, 0, [], none, false, [], [], 0, none, [], false, false, none, 0, false⟩

def State.laneOf (s : State) (l : Nat) : Lane := tget (fun _ => Lane.idle) s.lane l
def State.setLane (s : State) (l : Nat) (x : Lane) : State := { s with lane := tput (fun _ => Lane.idle) s.lane l x }
def State.mapLane (s : State) (l : Nat) (f : Lane → Lane) : State := s.setLane l (f (s.laneOf l))

/-! ### States (R379) -/

def lnOff : Nat := 0
def lnDisabled : Nat := 1
def lnCal : Nat := 2
def lnActive : Nat := 3

def rxNoSignal : Nat := 0
def rxAcquire : Nat := 1
def rxLocked : Nat := 2

def psApplied : Nat := 0
def psBusy : Nat := 1
def psBadProf : Nat := 2
def psState : Nat := 3

def State.laneState (s : State) (l : Nat) : Nat := s.fld (Reg.LANE_STATUS l) Fld.LANE_STATUS_STATE
def State.laneRx (s : State) (l : Nat) : Nat := s.fld (Reg.LANE_STATUS l) Fld.LANE_STATUS_RX
def State.laneProfile (s : State) (l : Nat) : Nat := s.fld (Reg.LANE_STATUS l) Fld.LANE_STATUS_PROFILE

/-- LANE_INT_STATUS.QUAD follows the W1C bits of its lanes' LANE_STATUS (R380). -/
def State.laneInt (s : State) (q : Nat) : State :=
  let any := (List.range 4).any (fun i => s.reg (Reg.LANE_STATUS (4 * q + i)) &&& 0xF8000000 != 0)
  let w := s.fld Reg.LANE_INT_STATUS Fld.LANE_INT_STATUS_QUAD
  s.setFld Reg.LANE_INT_STATUS Fld.LANE_INT_STATUS_QUAD (if any then w ||| 2 ^ q else w &&& (0xFFF ^^^ 2 ^ q))

/-- A W1C bit of LANE_STATUS becomes 1. -/
def State.laneFlag (s : State) (l : Nat) (f : Field) : State := (s.setFld (Reg.LANE_STATUS l) f 1).laneInt (l / 4)

/-! ### Profiles (R362) -/

def encRaw : Nat := 0
def enc8b10b : Nat := 1
def enc64b66b : Nat := 2
def enc128b130b : Nat := 3

/-- Whether a word of LANE_PROF is valid (R362). -/
def profileValid (w : Word32) : Bool :=
  let sym := fieldGet w Fld.LANE_PROF_SYMRATE
  let pam := fieldGet w Fld.LANE_PROF_PAM4 == 1
  let enc := fieldGet w Fld.LANE_PROF_ENC
  let fec := fieldGet w Fld.LANE_PROF_FEC
  decide ((if pam then 40000 else 4000) ≤ sym ∧ sym ≤ 128000) && !(pam && (enc == enc8b10b || enc == enc128b130b)) &&
  fec != 3 && (fec == 0 || enc == enc64b66b) && (fieldGet w Fld.LANE_PROF_SCR == 0 || enc == enc64b66b) &&
  decide (fieldGet w Fld.LANE_PROF_TXPRESET ≤ 10)

/-- The word of the active profile. -/
def State.activeProfile (s : State) (l : Nat) : Word32 := s.reg (Reg.LANE_PROF l (s.laneProfile l))

/-- Line units in one rc. -/
def unitsPerRc (w : Word32) : Nat := fieldGet w Fld.LANE_PROF_SYMRATE * (fieldGet w Fld.LANE_PROF_PAM4 + 1)

/-- Line bits of one word (R364). -/
def lineBits (w : Word32) : Nat :=
  let enc := fieldGet w Fld.LANE_PROF_ENC
  if enc = encRaw then 128 else if enc = enc8b10b then 160 else if enc = enc128b130b then 130
  else if fieldGet w Fld.LANE_PROF_FEC = 2 then 136 else 132

/-- T_W in line units (R364). -/
def wordUnits (w : Word32) : Nat := 19200 * lineBits w

def hasFec (w : Word32) : Bool := fieldGet w Fld.LANE_PROF_FEC != 0

/-- The TX fixed part of R369 in line units. -/
def txFixed (w : Word32) : Nat :=
  (if fieldGet w Fld.LANE_PROF_ENC = encRaw then 1 else 2) * wordUnits w + 3 * fcLen * unitsPerRc w +
  (if hasFec w then 16 * fcLen * unitsPerRc w else 0)

/-- D_FWD of R371 in line units. -/
def State.fwdDelay (s : State) (a : Nat) : Nat :=
  let w := s.activeProfile a
  (6 + s.fld (Reg.LANE_CFG a) Fld.LANE_CFG_FWD_DELAY + (if hasFec w then 80 else 0)) * wordUnits w

/-! ### Events (R377, R378) -/

def leLock : Nat := 0
def leUnlock : Nat := 1
def leSignal : Nat := 2
def leNoSignal : Nat := 3
def leMatch (m : Nat) : Nat := 4 + m
def leDecodeErr : Nat := 6
def leFecUnc : Nat := 7
def leSubRefused : Nat := 8
def leUnderrun : Nat := 9
def leCapStop : Nat := 10
def leProfDone : Nat := 11
def leFwdStart : Nat := 12
def leFwdStop : Nat := 13

/-- The ingress source of a quad's tokens (R155). -/
def srcQuadToken (q : Nat) : Nat := 257 + q

/-- The token value of an event (R378). -/
def State.laneToken (s : State) (l e seq : Nat) : Word64 :=
  BitVec.ofNat 64 (s.tallyNow + seq % 256 * 2 ^ 48 + e * 2 ^ 56 + l % 4 * 2 ^ 60)

/-- Event `e` of lane `l` is raised, with the LRX_SEQ of its word or zero: its token is posted (R378), and it may stop the capture
(R376). -/
def State.laneEvent (s : State) (l e seq : Nat) : State :=
  let a := Reg.LANE_EVTOK l e
  let s := if s.bit a Fld.LANE_EVTOK_EN then
      s.postEvent (srcQuadToken (l / 4)) (l % 4 * 16 + e)
        ⟨s.fld a Fld.LANE_EVTOK_HANDLE, s.fld a Fld.LANE_EVTOK_SLOT, s.laneToken l e seq, false⟩
    else s
  let c := Reg.LANE_CAP_CTL l
  if s.bit c Fld.LANE_CAP_CTL_EN ∧ s.bit c Fld.LANE_CAP_CTL_STOP_EN ∧ s.fld c Fld.LANE_CAP_CTL_STOP_EVT = e ∧
      (s.laneOf l).post.isNone then s.mapLane l (fun x => { x with mark := true })
  else s

/-! ### Capture (R374–R376) -/

/-- Bytes of the ring. -/
def State.ringSize (s : State) (l : Nat) : Nat := 4096 * 2 ^ s.fld (Reg.LANE_CAP_CTL l) Fld.LANE_CAP_CTL_SIZE

/-- TALLY_NOW at the first sc edge at or after now. -/
def State.tallyNext (s : State) : Nat :=
  match s.epoch with
  | some e => (s.now - e + scLen - 1) / scLen % 2 ^ 48
  | none => 0

/-- A record of 32 bytes (R374). -/
def State.captureBytes (s : State) (w : LWord) (seq : Nat) (sub gap stop : Bool) : List Byte :=
  toBytes 16 w.data.toNat ++ toBytes 2 w.side.toNat ++ toBytes 2 w.err.toNat ++
  [BitVec.ofNat 8 seq, BitVec.ofNat 8 (b2n sub + 2 * b2n gap + 4 * b2n stop)] ++ toBytes 6 s.tallyNext ++ toBytes 4 0

/-- A record is formed and buffered, or dropped (R375, R376). -/
def State.captureRecord (s : State) (l : Nat) (tx : Bool) (w : LWord) (seq : Nat) (sub : Bool) : State :=
  let c := Reg.LANE_CAP_CTL l
  let x := s.laneOf l
  if !s.bit c Fld.LANE_CAP_CTL_EN || s.bit c Fld.LANE_CAP_CTL_STREAM != tx || x.closed then s
  else if 64 ≤ x.buf.length then
    (s.bump (Reg.LANE_CNT l) Fld.LANE_CNT_CAP_DROP 1).mapLane l (fun x => { x with gap := true })
  else
    let r := s.captureBytes w seq sub x.gap x.mark
    let post := if x.mark then some (s.fld c Fld.LANE_CAP_CTL_POST) else x.post.map (· - 1)
    let full := !s.bit c Fld.LANE_CAP_CTL_WRAP && decide (s.ringSize l ≤ 32 * (x.stored + 1))
    s.setLane l { x with
                         buf := x.buf ++ [r], gap := false, mark := false, post := post, stored := x.stored + 1,
                         closed := full || post == some 0 }

/-- The capture is over once its last record has been written (R376). -/
def State.captureEnd (s : State) (l : Nat) : State :=
  let x := s.laneOf l
  if x.closed && x.buf.isEmpty then
    let s := (s.setFld (Reg.LANE_CAP_CTL l) Fld.LANE_CAP_CTL_EN 0).setFld (Reg.LANE_CAP_WPTR l) Fld.LANE_CAP_WPTR_STOPPED 1
    let s := (s.laneFlag l Fld.LANE_STATUS_CAP_STOP).mapLane l (fun x => { x with closed := false, post := none })
    s.laneEvent l leCapStop 0
  else s

/-- Four records are written, in one fc of the request port of the bound region (R375). DESIGN CHOICE: the last records of a capture that
stops, or that has been disabled, are written though fewer than four are left (log entry 94). -/
def State.captureWrite (s : State) (l : Nat) : State :=
  let x := s.laneOf l
  let open_ := s.bit (Reg.LANE_CAP_CTL l) Fld.LANE_CAP_CTL_EN && !x.closed
  let r := s.laneRegion l
  if x.buf.isEmpty ∨ (x.buf.length < 4 ∧ open_) ∨ !s.portFree r then s
  else
    let data := (x.buf.take 4).flatten
    let a := Reg.LANE_CAP_WPTR l
    let off := s.fld a Fld.LANE_CAP_WPTR_OFFSET
    let base := s.fld Reg.DEV_BOARD Fld.DEV_BOARD_DEVNUM * 2 ^ 48 + s.reg48 (Reg.LANE_CAP_BASE_LO l) (Reg.LANE_CAP_BASE_HI l)
    let s := (s.takePort r).accept (srcRegion r) captureLane 0 .write (base + off) data.length data
      (List.replicate (data.length / 8) false) none 0
    let wrap := s.bit (Reg.LANE_CAP_CTL l) Fld.LANE_CAP_CTL_WRAP && decide (s.ringSize l ≤ off + data.length)
    let s := s.setFld a Fld.LANE_CAP_WPTR_OFFSET (if wrap then 0 else off + data.length)
    let s := if wrap then s.setFld a Fld.LANE_CAP_WPTR_WRAPPED 1 else s
    (s.mapLane l (fun x => { x with buf := x.buf.drop 4 })).captureEnd l

/-- A write of LANE_CAP_CTL: all of it while EN is 0, and EN alone while it is 1 (R374, R380). -/
def State.captureCtl (s : State) (l v : Nat) : State :=
  let c := Reg.LANE_CAP_CTL l
  if s.bit c Fld.LANE_CAP_CTL_EN then s.setFld c Fld.LANE_CAP_CTL_EN (v / 2 ^ 31 % 2)
  else
    let s := s.setReg c (BitVec.ofNat 32 (v % 2 ^ 31))
    if v.testBit 31 && s.reg48 (Reg.LANE_CAP_BASE_LO l) (Reg.LANE_CAP_BASE_HI l) % s.ringSize l == 0 then
      ((s.setFld c Fld.LANE_CAP_CTL_EN 1).setReg (Reg.LANE_CAP_WPTR l) 0).mapLane l
        (fun x => { x with buf := [], gap := false, mark := false, post := none, stored := 0, closed := false })
    else s

/-- The capture of a lane ends at once and its buffer is discarded (R379, R453). -/
def State.captureDiscard (s : State) (l : Nat) : State :=
  (s.setFld (Reg.LANE_CAP_CTL l) Fld.LANE_CAP_CTL_EN 0).mapLane l
    (fun x => { x with buf := [], gap := false, mark := false, post := none, closed := false })

/-! ### Forwarding (R370–R373) -/

def State.peerOf (s : State) (a : Nat) : Nat := a / 4 * 4 + s.fld (Reg.LANE_CFG a) Fld.LANE_CFG_PEER
def State.forwarding (s : State) (a : Nat) : Bool := s.bit (Reg.LANE_STATUS a) Fld.LANE_STATUS_FWD_ACTIVE

/-- The fields in which the active profiles of a forward agree. -/
def forwardShape (w : Word32) : Nat × Nat × Nat × Nat :=
  (fieldGet w Fld.LANE_PROF_SYMRATE, fieldGet w Fld.LANE_PROF_PAM4, fieldGet w Fld.LANE_PROF_ENC, fieldGet w Fld.LANE_PROF_FEC)

/-- The conditions of R370. -/
def State.mayForward (s : State) (a : Nat) : Bool :=
  let b := s.peerOf a
  s.bit (Reg.LANE_CFG a) Fld.LANE_CFG_BRIDGE && b != a && s.laneRegion a == s.laneRegion b && s.laneState a == lnActive &&
  s.laneState b == lnActive && s.laneRx a == rxLocked && forwardShape (s.activeProfile a) == forwardShape (s.activeProfile b) &&
  s.mode != modeSecureHalt

/-- The lane that forwards to `b`. -/
def State.forwarder (s : State) (b : Nat) : Option Nat :=
  ((List.range 4).map (b / 4 * 4 + ·)).find? (fun a => s.forwarding a && s.peerOf a == b)

/-- A substitution on forward destination `b` is refused (R372). -/
def State.subRefuse (s : State) (b : Nat) : State :=
  ((s.bump (Reg.LANE_CNT b) Fld.LANE_CNT_SUB_REFUSED 1).laneFlag b Fld.LANE_STATUS_SUB_REFUSED).laneEvent b leSubRefused 0

/-- Substitutions that wait: claims whose slot has not begun, and those for words not yet received. -/
def Lane.waiting (x : Lane) : Nat := (x.fwd.filter (·.claim.isSome)).length + x.subs.length

/-- Forwarding stops (R373). -/
def State.stopForward (s : State) (a : Nat) : State :=
  let b := s.peerOf a
  let n := (s.laneOf a).waiting
  let s := s.setFld (Reg.LANE_STATUS a) Fld.LANE_STATUS_FWD_ACTIVE 0
  let s := s.mapLane a (fun x => { x with fwd := [], subs := [] })
  let s := (List.range n).foldl (fun s _ => s.subRefuse b) s
  (s.mapLane b (fun x => { x with out := none, retime := true })).laneEvent a leFwdStop 0

/-- Forwarding from `a` stops if a condition has failed. -/
def State.checkForward (s : State) (a : Nat) : State := if s.forwarding a && !s.mayForward a then s.stopForward a else s

/-- Every forward of the quad of lane `l` is checked. -/
def State.checkQuad (s : State) (l : Nat) : State := ((List.range 4).map (l / 4 * 4 + ·)).foldl (fun s a => s.checkForward a) s

/-- Whether the slot of a forwarded word begins at or after the edge `e` plus the TX fixed part. -/
def State.slotAfter (s : State) (a : Nat) (f : FwdWord) (e : Nat) : Bool :=
  let w := s.activeProfile (s.peerOf a)
  decide (e * unitsPerRc w + txFixed w ≤ f.u + s.fwdDelay a)

/-- A newly received word meets the substitutions that wait, in the order of their acceptance: the first that may takes it; others
that name it are refused (R372). -/
def State.meetSubs (s : State) (a : Nat) (f : FwdWord) : List SubWait → State × FwdWord × List SubWait
  | [] => (s, f, [])
  | q :: qs =>
    let named := q.mode && q.seq == f.seq
    if named && (f.claim.isSome || !s.slotAfter a f q.e) then (s.subRefuse (s.peerOf a)).meetSubs a f qs
    else if f.claim.isNone && (named || (!q.mode && s.slotAfter a f q.e)) then s.meetSubs a { f with claim := some q.word } qs
    else
      let r := s.meetSubs a f qs
      (r.1, r.2.1, q :: r.2.2)

/-- A received word joins the forward. -/
def State.forwardWord (s : State) (a u seq : Nat) (w : LWord) : State :=
  let r := s.meetSubs a ⟨seq, w, u, none⟩ (s.laneOf a).subs
  r.1.mapLane a (fun x => { x with fwd := x.fwd ++ [r.2.1], subs := r.2.2 })

/-- The first word of the list that `p` accepts, claimed; none where no word is accepted. -/
def claimFirst (p : FwdWord → Bool) (w : LWord) : List FwdWord → Option (List FwdWord)
  | [] => none
  | f :: fs => if p f then some ({ f with claim := some w } :: fs) else (claimFirst p w fs).map (f :: ·)

/-- A substitution accepted on forward destination `b` (R372). -/
def State.substitute (s : State) (b : Nat) (mode : Bool) (seq : Nat) (w : LWord) : State :=
  match s.forwarder b with
  | none => s
  | some a =>
    let x := s.laneOf a
    if 8 ≤ x.waiting then s
    else
      let h := match x.fwd with
        | f :: _ => f.seq
        | [] => x.next
      if mode then
        if 128 ≤ (seq + 256 - h) % 256 then s.subRefuse b
        else match x.fwd.find? (fun f => f.seq == seq) with
          | some f =>
            if f.claim.isSome || !s.slotAfter a f s.now then s.subRefuse b
            else s.setLane a { x with fwd := (claimFirst (fun f => f.seq == seq) w x.fwd).getD x.fwd }
          | none =>
            if x.subs.any (fun q => q.mode && q.seq == seq) then s.subRefuse b
            else s.setLane a { x with subs := x.subs ++ [⟨true, seq, s.now, w⟩] }
      else match claimFirst (fun f => f.claim.isNone && s.slotAfter a f s.now) w x.fwd with
        | some l => s.setLane a { x with fwd := l }
        | none => s.setLane a { x with subs := x.subs ++ [⟨false, 0, s.now, w⟩] }

/-! ### The receiver (R366) -/

/-- The receiver leaves LOCKED for `rx`. -/
def State.loseLock (s : State) (l rx : Nat) : State :=
  let was := s.laneRx l
  let s := s.setFld (Reg.LANE_STATUS l) Fld.LANE_STATUS_RX rx
  if was = rxLocked then ((s.laneFlag l Fld.LANE_STATUS_LOCK_LOST).checkQuad l).laneEvent l leUnlock 0 else s

/-- Whether the lane's receiver works. -/
def State.laneLive (s : State) (l : Nat) : Bool := s.laneState l == lnCal || s.laneState l == lnActive

def State.signalDetect (s : State) (l : Nat) : State :=
  if s.laneLive l ∧ s.laneRx l = rxNoSignal then (s.setFld (Reg.LANE_STATUS l) Fld.LANE_STATUS_RX rxAcquire).laneEvent l leSignal 0
  else s

def State.signalLoss (s : State) (l : Nat) : State :=
  if s.laneRx l = rxNoSignal then s else (s.loseLock l rxNoSignal).laneEvent l leNoSignal 0

/-- The lock condition is met: LRX_SEQ restarts at 0 (R366). -/
def State.rxLock (s : State) (l : Nat) : State :=
  if s.laneState l = lnActive ∧ s.laneRx l = rxAcquire then
    ((s.setFld (Reg.LANE_STATUS l) Fld.LANE_STATUS_RX rxLocked).mapLane l (fun x => { x with next := 0 })).laneEvent l leLock 0
  else s

def State.rxLockLost (s : State) (l : Nat) : State := if s.laneRx l = rxLocked then s.loseLock l rxAcquire else s

/-- A received word is presented (R364, R365, R369): its counts and events, the forward, and the capture. `corr` symbols have been
corrected in its codeword; `unc` says that it is the first word of an uncorrectable one. -/
def State.rxWord (s : State) (l u corr : Nat) (unc : Bool) (w : LWord) : State :=
  if s.laneState l ≠ lnActive ∨ s.laneRx l ≠ rxLocked then s
  else
    let seq := (s.laneOf l).next
    let s := s.mapLane l (fun x => { x with rx := w, rxSeq := seq, next := (seq + 1) % 256 })
    let s := s.bump (Reg.LANE_FEC_CORR l) Fld.LANE_FEC_CORR_SYMBOLS corr
    let s := if !s.forwarding l && s.mayForward l then
        (s.setFld (Reg.LANE_STATUS l) Fld.LANE_STATUS_FWD_ACTIVE 1).laneEvent l leFwdStart 0
      else s
    let hit (s : State) (m : Nat) : Bool :=
      let v := (s.reg (Reg.LANE_MATCH_VAL_LO l m)).toNat + (s.reg (Reg.LANE_MATCH_VAL_HI l m)).toNat * 2 ^ 32
      let k := (s.reg (Reg.LANE_MATCH_MASK_LO l m)).toNat + (s.reg (Reg.LANE_MATCH_MASK_HI l m)).toNat * 2 ^ 32
      let sd := Reg.LANE_MATCH_SIDE l m
      (w.data.toNat % 2 ^ 64 ^^^ v) &&& k == 0 &&
      (w.side.toNat ^^^ s.fld sd Fld.LANE_MATCH_SIDE_SVAL) &&& s.fld sd Fld.LANE_MATCH_SIDE_SMASK == 0
    let s := [0, 1].foldl (fun s m => if hit s m then s.laneEvent l (leMatch m) seq else s) s
    let s := if w.err.toNat % 2 ^ 15 ≠ 0 then
        (s.bump (Reg.LANE_ERR l) Fld.LANE_ERR_DECODE 1).laneEvent l leDecodeErr seq
      else s
    let s := if unc then
        ((s.bump (Reg.LANE_ERR l) Fld.LANE_ERR_FEC_UNC 1).laneFlag l Fld.LANE_STATUS_FEC_UNC).laneEvent l leFecUnc seq
      else s
    let s := if s.forwarding l then s.forwardWord l u seq w else s
    s.captureRecord l false w seq false

/-! ### The transmitter (R368) -/

/-- Whether the region's LTX_VALID, LTX_EIDLE and LPROF_REQ are its own (R80, R99). -/
def State.laneRegionLive (s : State) (l : Nat) : Bool := s.running (s.laneRegion l) && !s.inCycle (s.laneRegion l)

/-- A word of the region enters the queue (R368), of a lane that is enabled. DEDUCED: in CAL too, since LTX_READY is low only while the queue
is full (log entry 94). -/
def State.txAccept (s : State) (l : Nat) (w : LWord) : State :=
  if !s.laneLive l ∨ !s.laneRegionLive l ∨ (s.forwarder l).isSome ∨ 8 ≤ (s.laneOf l).txq.length then s
  else s.mapLane l (fun x => { x with txq := x.txq ++ [(w, s.now)] })

/-- The underrun word of R368. -/
def underrunWord (p : Word32) : LWord :=
  let enc := fieldGet p Fld.LANE_PROF_ENC
  ⟨0, if enc = enc64b66b then 0b1010 else if enc = enc128b130b then 0b10 else 0, 0⟩

/-- A slot of the transmitter that begins at `u` (R368, R370, R372); the slot of a forwarded word begins D_FWD after the word's first bit
arrived (R371). DESIGN CHOICE: a queued word whose TX latency is not over leaves the slot to an underrun (log entry 94). -/
def State.txSlot (s : State) (l u : Nat) (eidle : Bool) : State :=
  if s.laneState l ≠ lnActive then s
  else match s.forwarder l with
    | some a =>
      match (s.laneOf a).fwd with
      | [] => s
      | f :: fs =>
        if u ≠ f.u + s.fwdDelay a then s
        else
          let w := f.claim.getD f.word
          let s := (s.mapLane a (fun x => { x with fwd := fs })).mapLane l (fun x => { x with out := some w })
          (s.pairLog (.lane l w)).captureRecord l true { w with err := 0 } f.seq f.claim.isSome
    | none =>
      let x := s.laneOf l
      let p := s.activeProfile l
      if x.retime ∨ s.mode = modeSecureHalt ∨ (eidle ∧ s.laneRegionLive l) then s.setLane l { x with out := none }
      else match x.txq.filter (fun q => q.2 * unitsPerRc p + txFixed p ≤ u) with
        | q :: _ => ((s.setLane l { x with out := some q.1, txq := x.txq.drop 1 }).pairLog (.lane l q.1)).captureRecord l true { q.1 with err := 0 } 0 false
        | [] =>
          let idle := s.bit (Reg.LANE_CFG l) Fld.LANE_CFG_UEIDLE
          let s := s.setLane l { x with out := if idle then none else some (underrunWord p) }
          (if idle then s else s.pairLog (.lane l (underrunWord p))).laneEvent l leUnderrun 0

/-! ### Enabling and profile switches (R363, R379) -/

/-- The lane stops and takes state `st`: forwarding and capture stop at once, and the capture buffer is discarded (R379, R453). -/
def State.laneStop (s : State) (l st : Nat) : State :=
  let s := (s.setFld (Reg.LANE_CFG l) Fld.LANE_CFG_EN 0).setFld (Reg.LANE_STATUS l) Fld.LANE_STATUS_STATE st
  let s := s.setFld (Reg.LANE_STATUS l) Fld.LANE_STATUS_PROF_BUSY 0
  let s := ((s.checkQuad l).loseLock l rxNoSignal).captureDiscard l
  s.mapLane l (fun x => { x with txq := [], out := none, retime := false, reqAt := none })

/-- A write of LANE_CFG(l) (R361, R379, R380): UPPER takes writes in DISABLED alone. -/
def State.laneCfgWrite (s : State) (l v : Nat) : State :=
  let a := Reg.LANE_CFG l
  if s.bit a Fld.LANE_CFG_EN then (if v.testBit 31 then s else s.laneStop l lnDisabled)
  else
    let upper := if s.laneState l = lnDisabled then v &&& 0x40000000 else (s.reg a).toNat &&& 0x40000000
    let s := s.setReg a (BitVec.ofNat 32 (upper ||| (v &&& 0x33FF0003)))
    if !v.testBit 31 || s.laneState l != lnDisabled then s
    else if profileValid (s.reg (Reg.LANE_PROF l (v % 4))) then
      let s := (s.setFld a Fld.LANE_CFG_EN 1).setFld (Reg.LANE_STATUS l) Fld.LANE_STATUS_STATE lnCal
      s.setFld (Reg.LANE_STATUS l) Fld.LANE_STATUS_PROFILE (v % 4)
    else s.setFld (Reg.LANE_STATUS l) Fld.LANE_STATUS_PROF_STAT psBadProf

/-- Calibration after an enable has ended. -/
def State.calDone (s : State) (l : Nat) : State :=
  if s.laneState l = lnCal ∧ !s.bit (Reg.LANE_STATUS l) Fld.LANE_STATUS_PROF_BUSY ∧ s.gateState (64 + l / 4) = 0 then
    s.setFld (Reg.LANE_STATUS l) Fld.LANE_STATUS_STATE lnActive
  else s

/-- A profile switch is requested (R363); a register request at the fc edge of a region request is refused with BUSY. DEDUCED: while a switch
is in progress the outcome is BUSY, although the lane is in CAL and so not ACTIVE (log entry 94). -/
def State.profRequest (s : State) (l p : Nat) (region : Bool) : State :=
  let a := Reg.LANE_STATUS l
  let f := s.now / fcLen
  let clash := !region && (s.laneOf l).reqAt == some f
  let s := if region then s.mapLane l (fun x => { x with reqAt := some f }) else s
  if clash then s.setFld a Fld.LANE_STATUS_PROF_STAT psBusy
  else if s.bit a Fld.LANE_STATUS_PROF_BUSY then s.setFld a Fld.LANE_STATUS_PROF_STAT psBusy
  else if s.laneState l ≠ lnActive then s.setFld a Fld.LANE_STATUS_PROF_STAT psState
  else if !profileValid (s.reg (Reg.LANE_PROF l p)) then s.setFld a Fld.LANE_STATUS_PROF_STAT psBadProf
  else
    let s := (s.setFld a Fld.LANE_STATUS_PROF_STAT psApplied).setFld a Fld.LANE_STATUS_PROF_BUSY 1
    let s := (s.setFld a Fld.LANE_STATUS_STATE lnCal).mapLane l (fun x => { x with target := p, out := none })
    if s.laneRx l = rxNoSignal then s.checkQuad l else (s.loseLock l rxAcquire).checkQuad l

/-- A profile switch ends: the new profile runs. -/
def State.profDone (s : State) (l : Nat) : State :=
  let a := Reg.LANE_STATUS l
  if s.bit a Fld.LANE_STATUS_PROF_BUSY then
    let s := (s.setFld a Fld.LANE_STATUS_PROF_BUSY 0).setFld a Fld.LANE_STATUS_STATE lnActive
    (s.setFld a Fld.LANE_STATUS_PROFILE (s.laneOf l).target).laneEvent l leProfDone 0
  else s

/-- A write of LANE_CTL(l): PROFILE, then REALIGN and SLIP; a PROF_GO is checked once the requests of its fc edge are known (R363). -/
def State.laneCtlWrite (s : State) (l v : Nat) : State :=
  let s := s.setFld (Reg.LANE_CTL l) Fld.LANE_CTL_PROFILE (v % 4)
  let s := if v.testBit 31 then s.rxLockLost l else s
  let s := if v.testBit 30 && fieldGet (s.activeProfile l) Fld.LANE_PROF_ENC == encRaw then
      s.mapLane l (fun x => { x with slip := (x.slip + 1) % 128 })
    else s
  if v.testBit 29 then s.later (s.now / fcLen * fcLen + 1) (.profGo l (v % 4)) else s

/-- A write of LANE_PROF(l, p): refused for the active profile and for one being switched to (R363). -/
def State.laneProfWrite (s : State) (l p v : Nat) : State :=
  let a := Reg.LANE_STATUS l
  let used := (s.laneLive l && s.laneProfile l == p) || (s.bit a Fld.LANE_STATUS_PROF_BUSY && (s.laneOf l).target == p)
  if used then s.laneFlag l Fld.LANE_STATUS_PROF_REFUSED else s.setReg (Reg.LANE_PROF l p) (BitVec.ofNat 32 (v &&& 0x0FFDFFFF))

/-- A quad's domain is OFF (R453): its lanes are OFF, and its pending event tokens are dropped and counted. -/
def State.quadOff (s : State) (q : Nat) : State :=
  let s := (List.range 4).foldl (fun s i => s.laneStop (4 * q + i) lnOff) s
  let mine (p : Nat × Token) : Bool := p.1 / 64 == srcQuadToken q
  let s := s.bumpWrap Reg.TALLY_CNT_DROP Fld.TALLY_CNT_DROP_COUNT (s.sch.pend.filter mine).length
  { s with sch := { s.sch with pend := s.sch.pend.filter (fun p => !mine p) } }

/-- A quad's domain is ON (R457): its lanes are DISABLED. -/
def State.quadOn (s : State) (q : Nat) : State :=
  (List.range 4).foldl (fun s i => s.setFld (Reg.LANE_STATUS (4 * q + i)) Fld.LANE_STATUS_STATE lnDisabled) s

/-- SECURE HALT (R471): every transmitter sends electrical idle, and forwarding stops. -/
def State.lanesHalt (s : State) : State :=
  (List.range 48).foldl (fun s l =>
    let s := s.checkForward l
    if (s.laneOf l).out.isSome then s.mapLane l (fun x => { x with out := none }) else s) s

end Sys2Proof.Machine
end

