-- ==== Sys2Proof/Machine/Xq.lean ====
section
/-!
DEFINITION. The Xqtally instructions of the reckoner engines, their encoding and their decoding (R215).
-/
namespace Sys2Proof.Machine

/-- The Xqtally instructions (R215), with the fields that the table leaves to the program. -/
inductive Xq where
  | post (rs1 rs2 rs3 : BitVec 5)
  | wait (rd rs1 rs2 : BitVec 5) (opt : BitVec 3)
  | done (rd : BitVec 5)
  | cancel (rd rs1 : BitVec 5)
  | psel (rd rs1 : BitVec 5)
  | sacq (rd rs1 : BitVec 5)
  | srel (rd rs1 rs2 : BitVec 5)
  | ptest (rd rs1 : BitVec 5) (imm : BitVec 12)
  | ld64 (rd rs1 : BitVec 5) (imm : BitVec 12)
  | sd64 (rs1 rs2 : BitVec 5) (imm : BitVec 12)
  deriving DecidableEq, Repr

/-- What R215 asks of the fields: opt is not 0, rd of xq.ld64 is even and not x0, rs2 of xq.sd64 is even. -/
def Xq.ok : Xq → Bool
  | .wait _ _ _ opt => opt != 0
  | .ld64 rd _ _ => !rd.getLsbD 0 && rd != 0
  | .sd64 _ rs2 _ => !rs2.getLsbD 0
  | _ => true

def custom0 : BitVec 7 := 0b0001011
def custom1 : BitVec 7 := 0b0101011

/-- The R format: funct7, rs2, rs1, funct3, rd, opcode. -/
def rFormat (f7 : BitVec 7) (rs2 rs1 : BitVec 5) (f3 : BitVec 3) (rd : BitVec 5) (op : BitVec 7) : Word32 :=
  f7 ++ rs2 ++ rs1 ++ f3 ++ rd ++ op

/-- The word of an instruction (R215). -/
def Xq.encode : Xq → Word32
  | .post rs1 rs2 rs3 => rFormat (rs3 ++ 0#2) rs2 rs1 0b000 0 custom0
  | .wait rd rs1 rs2 opt => rFormat (0#4 ++ opt) rs2 rs1 0b001 rd custom0
  | .done rd => rFormat 0 0 0 0b010 rd custom0
  | .cancel rd rs1 => rFormat 0 0 rs1 0b011 rd custom0
  | .psel rd rs1 => rFormat 0 0 rs1 0b100 rd custom0
  | .sacq rd rs1 => rFormat 0 0 rs1 0b101 rd custom0
  | .srel rd rs1 rs2 => rFormat 0 rs2 rs1 0b110 rd custom0
  | .ptest rd rs1 imm => (imm ++ rs1 ++ 0b000#3 ++ rd ++ custom1 : BitVec 32)
  | .ld64 rd rs1 imm => (imm ++ rs1 ++ 0b001#3 ++ rd ++ custom1 : BitVec 32)
  | .sd64 rs1 rs2 imm => rFormat (imm.extractLsb' 5 7) rs2 rs1 0b010 (imm.extractLsb' 0 5) custom1

def fOp (w : Word32) : BitVec 7 := w.extractLsb' 0 7
def fRd (w : Word32) : BitVec 5 := w.extractLsb' 7 5
def fF3 (w : Word32) : BitVec 3 := w.extractLsb' 12 3
def fRs1 (w : Word32) : BitVec 5 := w.extractLsb' 15 5
def fRs2 (w : Word32) : BitVec 5 := w.extractLsb' 20 5
def fF7 (w : Word32) : BitVec 7 := w.extractLsb' 25 7
def fRs3 (w : Word32) : BitVec 5 := w.extractLsb' 27 5
def fImm (w : Word32) : BitVec 12 := w.extractLsb' 20 12

/-- The fields of a custom-0 or custom-1 word as an instruction, by funct3. -/
def Xq.fields (w : Word32) : Option Xq :=
  if fOp w = custom0 then
    match (fF3 w).toNat with
    | 0 => some (.post (fRs1 w) (fRs2 w) (fRs3 w))
    | 1 => some (.wait (fRd w) (fRs1 w) (fRs2 w) (w.extractLsb' 25 3))
    | 2 => some (.done (fRd w))
    | 3 => some (.cancel (fRd w) (fRs1 w))
    | 4 => some (.psel (fRd w) (fRs1 w))
    | 5 => some (.sacq (fRd w) (fRs1 w))
    | 6 => some (.srel (fRd w) (fRs1 w) (fRs2 w))
    | _ => none
  else if fOp w = custom1 then
    match (fF3 w).toNat with
    | 0 => some (.ptest (fRd w) (fRs1 w) (fImm w))
    | 1 => some (.ld64 (fRd w) (fRs1 w) (fImm w))
    | 2 => some (.sd64 (fRs1 w) (fRs2 w) (fF7 w ++ fRd w))
    | _ => none
  else none

/-- The instruction that a word encodes: any other funct3, a fixed field that differs from the table, or fields that R215 does not
admit encode none. -/
def Xq.decode (w : Word32) : Option Xq :=
  match Xq.fields w with
  | some x => if x.ok && x.encode == w then some x else none
  | none => none

end Sys2Proof.Machine
end

