-- ==== Sys2Proof/Machine/Rv.lean ====
section
/-!
DEFINITION. The base instruction set of the reckoner engines, RV32IMAC with Zicsr and Zifencei (R204): decoding of 32-bit and of
compressed words, and the arithmetic. R204 refers to the RISC-V specifications for it; every definition of this file is taken from
them (PRESUMED, log entry 21).
-/
namespace Sys2Proof.Machine

/-- The integer operations of RV32I and RV32M. -/
inductive Alu where
  | add | sub | sll | slt | sltu | xor | srl | sra | or | and
  | mul | mulh | mulhsu | mulhu | div | divu | rem | remu
  deriving DecidableEq, Repr

/-- A decoded instruction. Register numbers are natural numbers below 32. -/
inductive Rv where
  | lui (rd : Nat) (imm : Word32)
  | auipc (rd : Nat) (imm : Word32)
  | jal (rd : Nat) (imm : Word32)
  | jalr (rd rs1 : Nat) (imm : Word32)
  | branch (f3 rs1 rs2 : Nat) (imm : Word32)
  | load (f3 rd rs1 : Nat) (imm : Word32)
  | store (f3 rs1 rs2 : Nat) (imm : Word32)
  | aluImm (op : Alu) (rd rs1 : Nat) (imm : Word32)
  | aluReg (op : Alu) (rd rs1 rs2 : Nat)
  | fence
  | fenceI
  | ecall
  | ebreak
  | mret
  | wfi
  | csr (f3 rd rs1 csr : Nat)
  | lr (rd rs1 : Nat)
  | sc (rd rs1 rs2 : Nat)
  | amo (f5 rd rs1 rs2 : Nat)
  | xq (x : Xq)
  | illegal
  deriving DecidableEq, Repr

/-! ### Fields -/

/-- Bits hi:lo of a word. -/
def bitsOf (w : Nat) (hi lo : Nat) : Nat := w / 2 ^ lo % 2 ^ (hi + 1 - lo)

/-- A value of `n` bits, sign-extended. -/
def sext (n v : Nat) : Word32 := BitVec.ofInt 32 (if v / 2 ^ (n - 1) % 2 = 1 then (v % 2 ^ n : Int) - 2 ^ n else v % 2 ^ n)

def immI (w : Nat) : Word32 := sext 12 (bitsOf w 31 20)
def immS (w : Nat) : Word32 := sext 12 (bitsOf w 31 25 * 2 ^ 5 + bitsOf w 11 7)
def immB (w : Nat) : Word32 :=
  sext 13 (bitsOf w 31 31 * 2 ^ 12 + bitsOf w 7 7 * 2 ^ 11 + bitsOf w 30 25 * 2 ^ 5 + bitsOf w 11 8 * 2)
def immU (w : Nat) : Word32 := BitVec.ofNat 32 (bitsOf w 31 12 * 2 ^ 12)
def immJ (w : Nat) : Word32 :=
  sext 21 (bitsOf w 31 31 * 2 ^ 20 + bitsOf w 19 12 * 2 ^ 12 + bitsOf w 20 20 * 2 ^ 11 + bitsOf w 30 21 * 2)

/-! ### 32-bit words -/

/-- OP and OP-IMM operations by funct3, without the alternative ones. -/
def aluOf (f3 : Nat) : Alu :=
  match f3 with
  | 0 => .add | 1 => .sll | 2 => .slt | 3 => .sltu | 4 => .xor | 5 => .srl | 6 => .or | _ => .and

def mulOf (f3 : Nat) : Alu :=
  match f3 with
  | 0 => .mul | 1 => .mulh | 2 => .mulhsu | 3 => .mulhu | 4 => .div | 5 => .divu | 6 => .rem | _ => .remu

/-- The atomic operations by funct5. -/
def amoOk (f5 : Nat) : Bool := [0, 1, 4, 8, 12, 16, 20, 24, 28].contains f5

/-- A 32-bit word decoded. -/
def decode32 (w : Nat) : Rv :=
  let rd := bitsOf w 11 7
  let f3 := bitsOf w 14 12
  let rs1 := bitsOf w 19 15
  let rs2 := bitsOf w 24 20
  let f7 := bitsOf w 31 25
  match bitsOf w 6 0 with
  | 0x37 => .lui rd (immU w)
  | 0x17 => .auipc rd (immU w)
  | 0x6F => .jal rd (immJ w)
  | 0x67 => if f3 = 0 then .jalr rd rs1 (immI w) else .illegal
  | 0x63 => if f3 = 2 ∨ f3 = 3 then .illegal else .branch f3 rs1 rs2 (immB w)
  | 0x03 => if f3 = 3 ∨ 6 ≤ f3 then .illegal else .load f3 rd rs1 (immI w)
  | 0x23 => if 3 ≤ f3 then .illegal else .store f3 rs1 rs2 (immS w)
  | 0x13 =>
    if f3 = 1 then (if f7 = 0 then .aluImm .sll rd rs1 (BitVec.ofNat 32 rs2) else .illegal)
    else if f3 = 5 then
      (if f7 = 0 then .aluImm .srl rd rs1 (BitVec.ofNat 32 rs2)
       else if f7 = 0x20 then .aluImm .sra rd rs1 (BitVec.ofNat 32 rs2) else .illegal)
    else .aluImm (aluOf f3) rd rs1 (immI w)
  | 0x33 =>
    if f7 = 0 then .aluReg (aluOf f3) rd rs1 rs2
    else if f7 = 1 then .aluReg (mulOf f3) rd rs1 rs2
    else if f7 = 0x20 ∧ f3 = 0 then .aluReg .sub rd rs1 rs2
    else if f7 = 0x20 ∧ f3 = 5 then .aluReg .sra rd rs1 rs2
    else .illegal
  | 0x0F => if f3 = 0 then .fence else if f3 = 1 then .fenceI else .illegal
  | 0x2F =>
    if f3 ≠ 2 then .illegal
    else if bitsOf w 31 27 = 2 then (if rs2 = 0 then .lr rd rs1 else .illegal)
    else if bitsOf w 31 27 = 3 then .sc rd rs1 rs2
    else if amoOk (bitsOf w 31 27) then .amo (bitsOf w 31 27) rd rs1 rs2
    else .illegal
  | 0x73 =>
    if f3 = 0 then
      (if w = 0x00000073 then .ecall else if w = 0x00100073 then .ebreak
       else if w = 0x30200073 then .mret else if w = 0x10500073 then .wfi else .illegal)
    else if f3 = 4 then .illegal
    else .csr f3 rd rs1 (bitsOf w 31 20)
  | 0x0B => match Xq.decode (BitVec.ofNat 32 w) with
    | some x => .xq x
    | none => .illegal
  | 0x2B => match Xq.decode (BitVec.ofNat 32 w) with
    | some x => .xq x
    | none => .illegal
  | _ => .illegal

/-! ### Compressed words -/

/-- A 16-bit word decoded (quadrants 0, 1 and 2). -/
def decode16 (w : Nat) : Rv :=
  let f3 := bitsOf w 15 13
  let rdP := 8 + bitsOf w 4 2
  let rs1P := 8 + bitsOf w 9 7
  let rd := bitsOf w 11 7
  let rs2 := bitsOf w 6 2
  let imm6 := sext 6 (bitsOf w 12 12 * 32 + bitsOf w 6 2)
  let wordOff := BitVec.ofNat 32 (bitsOf w 5 5 * 64 + bitsOf w 12 10 * 8 + bitsOf w 6 6 * 4)
  let jOff := sext 12 (bitsOf w 12 12 * 2 ^ 11 + bitsOf w 8 8 * 2 ^ 10 + bitsOf w 10 9 * 2 ^ 8 + bitsOf w 6 6 * 2 ^ 7 +
    bitsOf w 7 7 * 2 ^ 6 + bitsOf w 2 2 * 2 ^ 5 + bitsOf w 11 11 * 2 ^ 4 + bitsOf w 5 3 * 2)
  let bOff := sext 9 (bitsOf w 12 12 * 2 ^ 8 + bitsOf w 6 5 * 2 ^ 6 + bitsOf w 2 2 * 2 ^ 5 + bitsOf w 11 10 * 2 ^ 3 + bitsOf w 4 3 * 2)
  match bitsOf w 1 0, f3 with
  | 0, 0 =>
    let imm := bitsOf w 10 7 * 64 + bitsOf w 12 11 * 16 + bitsOf w 5 5 * 8 + bitsOf w 6 6 * 4
    if imm = 0 then .illegal else .aluImm .add rdP 2 (BitVec.ofNat 32 imm)
  | 0, 2 => .load 2 rdP rs1P wordOff
  | 0, 6 => .store 2 rs1P rdP wordOff
  | 1, 0 => .aluImm .add rd rd imm6
  | 1, 1 => .jal 1 jOff
  | 1, 2 => .aluImm .add rd 0 imm6
  | 1, 3 =>
    if rd = 2 then
      let imm := bitsOf w 12 12 * 512 + bitsOf w 4 3 * 128 + bitsOf w 5 5 * 64 + bitsOf w 2 2 * 32 + bitsOf w 6 6 * 16
      if imm = 0 then .illegal else .aluImm .add 2 2 (sext 10 imm)
    else if imm6 = 0 then .illegal else .lui rd (imm6 <<< 12)
  | 1, 4 =>
    match bitsOf w 11 10 with
    | 0 => if bitsOf w 12 12 = 1 then .illegal else .aluImm .srl rs1P rs1P (BitVec.ofNat 32 rs2)
    | 1 => if bitsOf w 12 12 = 1 then .illegal else .aluImm .sra rs1P rs1P (BitVec.ofNat 32 rs2)
    | 2 => .aluImm .and rs1P rs1P imm6
    | _ =>
      if bitsOf w 12 12 = 1 then .illegal
      else .aluReg (match bitsOf w 6 5 with | 0 => .sub | 1 => .xor | 2 => .or | _ => .and) rs1P rs1P rdP
  | 1, 5 => .jal 0 jOff
  | 1, 6 => .branch 0 rs1P 0 bOff
  | 1, 7 => .branch 1 rs1P 0 bOff
  | 2, 0 => if bitsOf w 12 12 = 1 then .illegal else .aluImm .sll rd rd (BitVec.ofNat 32 rs2)
  | 2, 2 =>
    if rd = 0 then .illegal
    else .load 2 rd 2 (BitVec.ofNat 32 (bitsOf w 3 2 * 64 + bitsOf w 12 12 * 32 + bitsOf w 6 4 * 4))
  | 2, 4 =>
    if bitsOf w 12 12 = 0 then
      (if rs2 = 0 then (if rd = 0 then .illegal else .jalr 0 rd 0) else .aluReg .add rd 0 rs2)
    else if rs2 = 0 then (if rd = 0 then .ebreak else .jalr 1 rd 0)
    else .aluReg .add rd rd rs2
  | 2, 6 => .store 2 2 rs2 (BitVec.ofNat 32 (bitsOf w 8 7 * 64 + bitsOf w 12 9 * 4))
  | _, _ => .illegal

/-- An instruction word of 2 or 4 bytes decoded: 32-bit words have 11 in their lowest bits. -/
def decodeRv (w : Nat) : Rv := if w % 4 = 3 then decode32 w else decode16 (w % 2 ^ 16)

/-- The length in bytes of the instruction whose first halfword is `h`. -/
def rvLen (h : Nat) : Nat := if h % 4 = 3 then 4 else 2

/-! ### Arithmetic -/

/-- RISC-V division: by zero the quotient is all ones and the remainder the dividend. -/
def Alu.eval (op : Alu) (a b : Word32) : Word32 :=
  match op with
  | .add => a + b
  | .sub => a - b
  | .sll => a <<< (b.toNat % 32)
  | .slt => if a.slt b then 1 else 0
  | .sltu => if a.ult b then 1 else 0
  | .xor => a ^^^ b
  | .srl => a >>> (b.toNat % 32)
  | .sra => a.sshiftRight (b.toNat % 32)
  | .or => a ||| b
  | .and => a &&& b
  | .mul => a * b
  | .mulh => BitVec.ofInt 32 (a.toInt * b.toInt / 2 ^ 32)
  | .mulhsu => BitVec.ofInt 32 (a.toInt * b.toNat / 2 ^ 32)
  | .mulhu => BitVec.ofNat 32 (a.toNat * b.toNat / 2 ^ 32)
  | .div => if b = 0 then 0xFFFFFFFF else BitVec.ofInt 32 (a.toInt.tdiv b.toInt)
  | .divu => if b = 0 then 0xFFFFFFFF else a / b
  | .rem => if b = 0 then a else BitVec.ofInt 32 (a.toInt.tmod b.toInt)
  | .remu => if b = 0 then a else a % b

/-- Whether a branch is taken. -/
def branchTaken (f3 : Nat) (a b : Word32) : Bool :=
  match f3 with
  | 0 => a == b
  | 1 => a != b
  | 4 => a.slt b
  | 5 => !a.slt b
  | 6 => a.ult b
  | _ => !a.ult b

/-- The word that an AMO stores. -/
def amoEval (f5 : Nat) (old v : Word32) : Word32 :=
  match f5 with
  | 0 => old + v
  | 1 => v
  | 4 => old ^^^ v
  | 8 => old ||| v
  | 12 => old &&& v
  | 16 => if old.slt v then old else v
  | 20 => if old.slt v then v else old
  | 24 => if old.ult v then old else v
  | _ => if old.ult v then v else old

/-! ### Operands -/

/-- The source registers whose use is a consumption (R225). -/
def Rv.uses : Rv → List Nat
  | .jalr _ a _ => [a]
  | .branch _ a b _ => [a, b]
  | .load _ _ a _ => [a]
  | .store _ a _ _ => [a]
  | .aluImm _ _ a _ => [a]
  | .aluReg _ _ a b => [a, b]
  | .csr f3 _ a _ => if f3 < 4 then [a] else []
  | .lr _ a => [a]
  | .sc _ a b => [a, b]
  | .amo _ _ a b => [a, b]
  | .xq (.post a _ _) => [a.toNat]
  | .xq (.wait _ a b _) => [a.toNat, b.toNat]
  | .xq (.cancel _ a) => [a.toNat]
  | .xq (.psel _ a) => [a.toNat]
  | .xq (.sacq _ a) => [a.toNat]
  | .xq (.srel _ a b) => [a.toNat, b.toNat]
  | .xq (.ptest _ a _) => [a.toNat]
  | .xq (.ld64 _ a _) => [a.toNat]
  | .xq (.sd64 a _ _) => [a.toNat]
  | _ => []

/-- The registers that it reads without consuming: data operands of stores and values of xq.post (R225). -/
def Rv.passes : Rv → List Nat
  | .store _ _ b _ => [b]
  | .xq (.post _ b c) => [b.toNat, c.toNat]
  | .xq (.sd64 _ b _) => [b.toNat, b.toNat + 1]
  | _ => []

/-- The registers that it writes. -/
def Rv.writes : Rv → List Nat
  | .lui d _ => [d]
  | .auipc d _ => [d]
  | .jal d _ => [d]
  | .jalr d _ _ => [d]
  | .load _ d _ _ => [d]
  | .aluImm _ d _ _ => [d]
  | .aluReg _ d _ _ => [d]
  | .csr _ d _ _ => [d]
  | .lr d _ => [d]
  | .sc d _ _ => [d]
  | .amo _ d _ _ => [d]
  | .xq (.wait d _ _ _) => [d.toNat]
  | .xq (.done d) => [d.toNat]
  | .xq (.cancel d _) => [d.toNat]
  | .xq (.psel d _) => [d.toNat]
  | .xq (.sacq d _) => [d.toNat]
  | .xq (.srel d _ _) => [d.toNat]
  | .xq (.ptest d _ _) => [d.toNat]
  | .xq (.ld64 d _ _) => [d.toNat, d.toNat + 1]
  | _ => []

end Sys2Proof.Machine
end

