-- ==== Sys2Proof/Machine/EngineMem.lean ====
section
/-!
DEFINITION. What an engine instruction acts on: the memory map and apertures (R206, R207), local data RAM (R208), PMP (R210), the
CSRs (R213, R214), interrupts (R229, R230) and traps (R226, R227).
-/
namespace Sys2Proof.Machine

/-! ### Memory map (R206, R207) -/

inductive EngTarget where
  | ram (off : Nat)
  | rom (off : Nat)
  /-- A device address of 52 bits. -/
  | dev (addr : Nat)
  | none
  deriving DecidableEq, Repr

/-- What engine address `a` names for engine `n` on device `d`. -/
def Eng.target (e : Eng) (n d a : Nat) : EngTarget :=
  if a < 0x8000 then .ram a
  else if 0x10000 ≤ a ∧ a < 0x18000 ∧ n = 0 then .rom (a - 0x10000)
  else if 0x40000000 ≤ a ∧ a < 0x41000000 then .dev (d * 2 ^ 48 + ctlBase + (a - 0x40000000))
  else if 0x42000000 ≤ a ∧ a < 0x43800000 then .dev (d * 2 ^ 48 + scrBase + (a - 0x42000000))
  else if 0x44000000 ≤ a ∧ a < 0x46000000 then .dev (d * 2 ^ 48 + 0x00A0_0000_0000 + (a - 0x44000000))
  else if 0x80000000 ≤ a then
    let v := e.csrVal (csrXqapt ((a - 0x80000000) / 0x10000000))
    if v.getLsbD 0 then .dev (bitsOf v.toNat 27 4 * 2 ^ 28 + a % 0x10000000) else .none
  else .none

def State.engTarget (s : State) (n a : Nat) : EngTarget := (s.engine n).target n (s.fld Reg.DEV_BOARD Fld.DEV_BOARD_DEVNUM) a

/-! ### PMP (R210; the privileged specification, log entry 21) -/

def csrPmpcfg : Nat := 0x3A0
def csrPmpaddr : Nat := 0x3B0

/-- The configuration byte of PMP region `i`. -/
def Eng.pmpcfg (e : Eng) (i : Nat) : Nat := (e.csrVal (csrPmpcfg + i / 4)).toNat / 2 ^ (8 * (i % 4)) % 256
def Eng.pmpaddr (e : Eng) (i : Nat) : Nat := (e.csrVal (csrPmpaddr + i)).toNat

/-- The number of ones at the bottom of `v`. -/
def trailingOnes : Nat → Nat → Nat
  | 0, _ => 0
  | fuel + 1, v => if v % 2 = 1 then 1 + trailingOnes fuel (v / 2) else 0

/-- The bytes that region `i` covers, with a granularity of 64 bytes: TOR or NAPOT. -/
def Eng.pmpRange (e : Eng) (i : Nat) : Option (Nat × Nat) :=
  match e.pmpcfg i / 8 % 4 with
  | 1 => some ((if i = 0 then 0 else e.pmpaddr (i - 1) / 16 * 64), e.pmpaddr i / 16 * 64)
  | 3 =>
    let v := e.pmpaddr i ||| 7
    let k := trailingOnes 32 v
    some (v / 2 ^ (k + 1) * 2 ^ (k + 3), v / 2 ^ (k + 1) * 2 ^ (k + 3) + 2 ^ (k + 3))
  | _ => none

/-- The first region that holds any byte of the access. -/
def Eng.pmpMatch (e : Eng) (a len : Nat) : List Nat → Option (Nat × Bool)
  | [] => none
  | i :: l =>
    match e.pmpRange i with
    | some (lo, hi) => if a < hi ∧ lo < a + len then some (i, decide (lo ≤ a ∧ a + len ≤ hi)) else e.pmpMatch a len l
    | none => e.pmpMatch a len l

/-- Whether PMP lets an access of `len` bytes at `a` pass: `bit` is 0 for a read, 1 for a write, 2 for execution. -/
def Eng.pmpOk (e : Eng) (machine : Bool) (a len bit : Nat) : Bool :=
  match e.pmpMatch a len (List.range 16) with
  | none => machine
  | some (i, whole) => whole && ((machine && e.pmpcfg i < 128) || (e.pmpcfg i).testBit bit)

/-! ### Interrupts (R229, R230) -/

def intMSI : Nat := 3
def intMTI : Nat := 7
def intMEI : Nat := 11
def intSPILL : Nat := 16
def intWERR : Nat := 17
def intMBOX : Nat := 18
def intALARM : Nat := 19

/-- The interrupts in the order of their priority. -/
def intOrder : List Nat := [intALARM, intSPILL, intWERR, intMBOX, intMEI, intMSI, intMTI]

def State.timecmp (s : State) (n : Nat) : Nat := s.reg48 (Reg.ENG_TIMECMP_LO n) (Reg.ENG_TIMECMP_HI n)

/-- Whether interrupt `i` of engine `n` is pending (R229). -/
def State.pendingInt (s : State) (n i : Nat) : Bool :=
  if i = intALARM then n == 0 && s.bit Reg.XTS_ALARM Fld.XTS_ALARM_RAISED
  else if i = intSPILL then s.bit (Reg.TALLY_SPILL_REQ n) Fld.TALLY_SPILL_REQ_VALID
  else if i = intWERR then s.bit (Reg.ENG_WERR_LOG n) Fld.ENG_WERR_LOG_VALID
  else if i = intMBOX then s.bit (Reg.ENG_MBOX_DB n) Fld.ENG_MBOX_DB_IN
  else if i = intMEI then s.extLines &&& s.fld (Reg.ENG_EXT_EN n) Fld.ENG_EXT_EN_LINES != 0
  else if i = intMSI then s.bit (Reg.ENG_MSIP n) Fld.ENG_MSIP_PEND
  else if i = intMTI then decide ((s.tallyNow + 2 ^ 48 - s.timecmp n) % 2 ^ 48 < 2 ^ 47)
  else false

/-- mip of engine `n`. -/
def State.mip (s : State) (n : Nat) : Word32 :=
  BitVec.ofNat 32 ((intOrder.map (fun i => if s.pendingInt n i then 2 ^ i else 0)).foldl (fun a b => a + b) 0)

/-- The first pending interrupt that mie enables. -/
def State.firstInt (s : State) (n : Nat) : Option Nat :=
  intOrder.find? (fun i => s.pendingInt n i && ((s.engine n).csrVal 0x304).getLsbD i)

/-! ### CSRs (R213, R214; standard ones from the privileged specification, log entry 21) -/

def csrMstatus : Nat := 0x300
def csrMie : Nat := 0x304
def csrMtvec : Nat := 0x305
def csrMcounteren : Nat := 0x306
def csrMcountinhibit : Nat := 0x320
def csrMepc : Nat := 0x341
def csrMcause : Nat := 0x342
def csrMtval : Nat := 0x343

def State.machineMode (s : State) (n : Nat) : Bool := s.bit (Reg.ENG_STATUS n) Fld.ENG_STATUS_PRIV

/-- mcycle (nc cycles, R204), unless mcountinhibit.CY holds it. -/
def Eng.mcycle (e : Eng) (t : Nat) : Nat :=
  (e.cycles.1 + (if (e.csrVal csrMcountinhibit).getLsbD 0 then 0 else t / ncLen - e.cycles.2 / ncLen)) % 2 ^ 64

/-- The mode in which data accesses are checked: MPP where mstatus.MPRV is 1. -/
def State.dataMachine (s : State) (n : Nat) : Bool :=
  let ms := (s.engine n).csrVal csrMstatus
  if ms.getLsbD 17 then bitsOf ms.toNat 12 11 == 3 else s.machineMode n

/-- The standard CSRs that hold what is written, each with the bits that can be written. -/
def csrWritable : List (Nat × Nat) :=
  [(0x300, 0x00221888), (0x304, 0x000F0888), (0x305, 0xFFFFFFFD), (0x306, 0x00000007), (0x320, 0x00000005),
   (0x340, 0xFFFFFFFF), (0x341, 0xFFFFFFFE), (0x342, 0xFFFFFFFF), (0x343, 0xFFFFFFFF), (0x30A, 0), (0x31A, 0), (0x310, 0),
   (0x301, 0), (0x344, 0), (0x7C0, 0x00001F07), (0x7C1, 0x0000003F), (0x7C2, 0xC000001F)] ++
  (List.range 8).map (fun k => (0x7D0 + k, 0x0FFFFFF1))

/-- Whether a CSR exists. -/
def csrExists (a : Nat) : Bool :=
  csrWritable.any (fun p => p.1 == a) || decide (0x323 ≤ a ∧ a < 0x340) || decide (0x3A0 ≤ a ∧ a < 0x3A4) ||
  decide (0x3B0 ≤ a ∧ a < 0x3C0) || a == 0xB00 || a == 0xB02 || decide (0xB03 ≤ a ∧ a < 0xB20) || a == 0xB80 || a == 0xB82 ||
  decide (0xB83 ≤ a ∧ a < 0xBA0) || decide (0xC00 ≤ a ∧ a < 0xC20) || decide (0xC80 ≤ a ∧ a < 0xCA0) ||
  decide (0xF11 ≤ a ∧ a < 0xF16) || decide (0xCC0 ≤ a ∧ a < 0xCCA)

/-- Whether the access is one that the privileged specification forbids (R213): no such CSR, too low a mode, a counter that
mcounteren withholds from user mode, or a write to a read-only CSR. -/
def State.csrBad (s : State) (n a : Nat) (write : Bool) : Bool :=
  !csrExists a || (bitsOf a 9 8 != 0 && !s.machineMode n) || (write && bitsOf a 11 10 == 3) ||
  (!s.machineMode n && bitsOf a 11 5 == 0x60 && !((s.engine n).csrVal csrMcounteren).getLsbD (a % 32)) ||
  (!s.machineMode n && bitsOf a 11 5 == 0x64 && !((s.engine n).csrVal csrMcounteren).getLsbD (a % 32))

/-- What a CSR of engine `n` reads as. -/
def State.csrRead (s : State) (n a : Nat) : Word32 :=
  let e := s.engine n
  if a = 0x301 then 0x40101105
  else if a = 0x344 then s.mip n
  else if a = 0xF14 then BitVec.ofNat 32 n
  else if a = 0xF15 then 0
  else if 0xF11 ≤ a ∧ a < 0xF14 then Config.csrId a
  else if a = 0xB00 ∨ a = 0xC00 then BitVec.ofNat 32 (e.mcycle s.now)
  else if a = 0xB80 ∨ a = 0xC80 then BitVec.ofNat 32 (e.mcycle s.now / 2 ^ 32)
  else if a = 0xB02 ∨ a = 0xC02 then BitVec.ofNat 32 e.instret
  else if a = 0xB82 ∨ a = 0xC82 then BitVec.ofNat 32 (e.instret / 2 ^ 32)
  else if a = 0xC01 then BitVec.ofNat 32 s.tallyNow
  else if a = 0xC81 then BitVec.ofNat 32 (s.tallyNow / 2 ^ 32)
  else if 0x3B0 ≤ a ∧ a < 0x3C0 then
    let v := e.pmpaddr (a - 0x3B0)
    if e.pmpcfg (a - 0x3B0) / 8 % 4 = 3 then BitVec.ofNat 32 (v ||| 7) else BitVec.ofNat 32 (v / 16 * 16)
  else e.csrVal a

/-- A PMP configuration byte after a write of `v`: locked entries keep what they hold, NA4 is not available, and a region that
is writable is readable. -/
def pmpByte (old v : Nat) : Nat :=
  if 128 ≤ old then old
  else
    let v := v &&& 0x9F
    let v := if v / 8 % 4 = 2 then v - 16 + old / 8 % 4 * 8 else v
    if v % 4 = 2 then v - 2 else v

def Eng.writePmpcfg (e : Eng) (k : Nat) (v : Word32) : Eng :=
  let b (j : Nat) : Nat := pmpByte (e.pmpcfg (4 * k + j)) (v.toNat / 2 ^ (8 * j) % 256)
  e.setCsr (csrPmpcfg + k) (BitVec.ofNat 32 (b 0 + b 1 * 2 ^ 8 + b 2 * 2 ^ 16 + b 3 * 2 ^ 24))

/-- A PMP address register is locked by its own entry, and by the next one where that is a locked TOR entry. -/
def Eng.writePmpaddr (e : Eng) (i : Nat) (v : Word32) : Eng :=
  if 128 ≤ e.pmpcfg i ∨ (i < 15 ∧ 128 ≤ e.pmpcfg (i + 1) ∧ e.pmpcfg (i + 1) / 8 % 4 = 1) then e
  else e.setCsr (csrPmpaddr + i) v

/-- mstatus after a write: MPP holds user (0) or machine (3) mode only. -/
def mstatusOf (v : Word32) : Word32 :=
  let v := v &&& 0x00221888
  if bitsOf v.toNat 12 11 = 3 then v else v &&& 0xFFFFE7FF

/-- A CSR written. -/
def State.csrWrite (s : State) (n a : Nat) (v : Word32) : State :=
  let e := s.engine n
  let hi (x : Nat) : Nat := x % 2 ^ 32 + v.toNat * 2 ^ 32
  let lo (x : Nat) : Nat := x / 2 ^ 32 * 2 ^ 32 + v.toNat
  if a = 0x300 then s.setEngine n (e.setCsr a (mstatusOf v))
  else if a = 0x320 then s.setEngine n ({ e with cycles := (e.mcycle s.now, s.now) }.setCsr a (v &&& 5))
  else if a = 0xB00 then s.setEngine n { e with cycles := (lo (e.mcycle s.now), s.now) }
  else if a = 0xB80 then s.setEngine n { e with cycles := (hi (e.mcycle s.now), s.now) }
  else if a = 0xB02 then s.setEngine n { e with instret := lo e.instret }
  else if a = 0xB82 then s.setEngine n { e with instret := hi e.instret }
  else if 0x3A0 ≤ a ∧ a < 0x3A4 then s.setEngine n (e.writePmpcfg (a - 0x3A0) v)
  else if 0x3B0 ≤ a ∧ a < 0x3C0 then s.setEngine n (e.writePmpaddr (a - 0x3B0) v)
  else match csrWritable.find? (fun p => p.1 == a) with
    | some (_, m) => s.setEngine n (e.setCsr a (v &&& BitVec.ofNat 32 m))
    | none => s

/-! ### Traps (R226, R227, R229) -/

def causeFetch : Nat := 1
def causeIllegal : Nat := 2
def causeBreak : Nat := 3
def causeLoadAlign : Nat := 4
def causeLoad : Nat := 5
def causeStoreAlign : Nat := 6
def causeStore : Nat := 7
def causeEcallU : Nat := 8
def causeEcallM : Nat := 11
def causePoison : Nat := 24

/-- A trap is taken: mepc, mcause and mtval are written, mstatus.MIE goes to MPIE and the mode to MPP, and machine mode goes on at
mtvec, at the vector of an interrupt where mtvec selects vectoring. -/
def State.trap (s : State) (n : Nat) (pc : Word32) (cause : Nat) (interrupt : Bool) (tval : Word32) : State :=
  let e := s.engine n
  let ms := (e.csrVal csrMstatus).toNat
  let ms' := ms - bitsOf ms 3 3 * 2 ^ 3 - bitsOf ms 7 7 * 2 ^ 7 - bitsOf ms 12 11 * 2 ^ 11 + bitsOf ms 3 3 * 2 ^ 7 +
    (if s.machineMode n then 3 else 0) * 2 ^ 11
  let tv := e.csrVal csrMtvec
  let base := tv &&& 0xFFFFFFFC
  let e := e.setCsr csrMepc (pc &&& 0xFFFFFFFE)
  let e := e.setCsr csrMcause (BitVec.ofNat 32 (cause + (if interrupt then 2 ^ 31 else 0)))
  let e := (e.setCsr csrMtval tval).setCsr csrMstatus (BitVec.ofNat 32 ms')
  let e := { e with pc := if interrupt && tv.getLsbD 0 then base + BitVec.ofNat 32 (4 * cause) else base }
  (s.setEngine n e).setFld (Reg.ENG_STATUS n) Fld.ENG_STATUS_PRIV 1

/-- MRET: the mode and the interrupt enable return, and execution goes on at mepc. -/
def State.mret (s : State) (n : Nat) : State :=
  let e := s.engine n
  let ms := (e.csrVal csrMstatus).toNat
  let mpp := bitsOf ms 12 11
  let ms' := ms - bitsOf ms 3 3 * 2 ^ 3 - bitsOf ms 7 7 * 2 ^ 7 - mpp * 2 ^ 11 + bitsOf ms 7 7 * 2 ^ 3 + 2 ^ 7
  let ms' := if mpp = 3 then ms' else ms' - bitsOf ms' 17 17 * 2 ^ 17
  let e := { (e.setCsr csrMstatus (BitVec.ofNat 32 ms')) with pc := e.csrVal csrMepc, instret := e.retired }
  (s.setEngine n e).setFld (Reg.ENG_STATUS n) Fld.ENG_STATUS_PRIV (if mpp = 3 then 1 else 0)

/-- An access fault (R227): xqbuserr takes the kind and the code. `kind` is 0 fetch, 1 load, 2 store or AMO. -/
def State.accessFault (s : State) (n cause kind code addr : Nat) : State :=
  let s := s.setEngine n ((s.engine n).setCsr csrXqbuserr (BitVec.ofNat 32 (kind * 16 + code)))
  s.trap n (s.engine n).pc cause false (BitVec.ofNat 32 addr)

/-- A poison exception (R226), with its report (R302). -/
def State.poisonTrap (s : State) (n reg : Nat) (fetch : Bool) : State :=
  let v := BitVec.ofNat 32 (2 ^ 31 + (if fetch then 2 ^ 30 else reg))
  let s := s.setEngine n ((s.engine n).setCsr csrXqpsn v)
  let s := s.consume consEngine (if fetch then 1 else 0) 0 n
  s.trap n (s.engine n).pc causePoison false 0

/-! ### Local data RAM (R208, R323) -/

/-- A word of local RAM as it stands: one not written since the domain came on is unpredictable. -/
def State.lramWord (s : State) (n w : Nat) : Word72 :=
  match tfind (s.engine n).ram w with
  | some v => v
  | none => Config.freeWord72 s.fresh

def State.setLram (s : State) (n w : Nat) (v : Word72) : State := s.mapEngine n (fun e => { e with ram := tins e.ram w v })

/-- A read error counted in ENG_LRAM_ERR. -/
def State.countLram (s : State) (n : Nat) (c : WordClass) : State :=
  match c with
  | .corrected => s.bump (Reg.ENG_LRAM_ERR n) Fld.ENG_LRAM_ERR_CORR 1
  | .clean => s
  | _ => s.bump (Reg.ENG_LRAM_ERR n) Fld.ENG_LRAM_ERR_UNCORR 1

/-- A word of local RAM read: its class and data. A single-bit error is corrected and written back; errors are counted. -/
def State.readLram (s : State) (n w : Nat) : State × WordClass × Word64 :=
  let v := s.lramWord n w
  let d := decodeWord v
  let s := if (tfind (s.engine n).ram w).isNone then s.draw else s
  let s := s.countLram n d.1
  (if d.1 = .corrected then s.setLram n w (encodeWord d.2) else s, d.1, d.2)

/-- Bytes written to local RAM inside one word, by the partial-write rule where they are fewer than 8 (R323). -/
def State.writeLram (s : State) (n a : Nat) (data : List Byte) (mark : Bool) : State :=
  let w := a / 8
  let v := s.lramWord n w
  let be := byteEnables a data.length w
  let x := writeWord v be (wordOfBytes a data w) mark
  let s := if (tfind (s.engine n).ram w).isNone ∧ be ≠ 0xFF then s.draw else s
  (s.countLram n x.2).setLram n w x.1

end Sys2Proof.Machine
end

