-- ==== Sys2Proof/Machine/Engines.lean ====
section
/-!
DEFINITION. The reckoner engines (chapter 07): the fetch and issue of an instruction, every instruction of RV32IMAC and Xqtally,
responses, interrupts, and the control of an engine.
An instruction command names the engine alone: what it issues is the instruction at its pc, and a command takes place only where that
instruction is one of its row (log entry 24).
-/
namespace Sys2Proof.Machine


/-! ### Requests of an engine (R211) -/

def tagEngLoad : Nat := 1
def tagEngFence : Nat := 3
/-- The reads of the root firmware (R233). -/
def tagFirmware : Nat := 70
/-- The fetch of the instruction line at engine address `a`. -/
def tagFetch (a : Nat) : Nat := 2 ^ 33 + a

/-- The answers of what the engine has outstanding are to be discarded (R231). -/
def State.orphan (s : State) (n : Nat) : State :=
  let s := s.setReqs (s.noc.reqs.map (fun q => if q.src = n ∧ q.kind.nonPosted then { q with tag := tagDiscard } else q))
  { s with noc := { s.noc with inbox := s.noc.inbox.filter (fun d => d.src != n) } }

/-! ### Fetch (R209, R226, R227) -/

/-- What a fetch finds. -/
inductive Fetched where
  /-- The instruction word, its length, whether a word that holds it is poisoned, and the state with local RAM errors counted. -/
  | word (s : State) (w len : Nat) (mark : Bool)
  /-- The instruction line at this engine address is not in the cache. -/
  | miss (line : Nat)
  /-- An access fault with this code, at this engine address. -/
  | fault (code addr : Nat)

/-- Two bytes of instruction at engine address `a`. -/
def State.fetchHalf (s : State) (n a : Nat) : Fetched :=
  let e := s.engine n
  if !e.pmpOk (s.machineMode n) a 2 2 then .fault 0 a
  else match s.engTarget n a with
    | .ram o =>
      let x := s.readLram n (o / 8)
      .word x.1 (x.2.2.toNat / 2 ^ (8 * (o % 8)) % 2 ^ 16) 2 x.2.1.bad
    | .rom o => .word s ((Config.maskRom (o / 8)).toNat / 2 ^ (8 * (o % 8)) % 2 ^ 16) 2 false
    | .dev d =>
      if ctlBase ≤ d % 2 ^ 48 ∧ d % 2 ^ 48 < ctlBase + 0x100_0000 ∧ a < 0x80000000 then .fault rDecode a
      else match e.icache.find? (fun l => l.1 == a / 64 * 64) with
        | some (_, bs, m) => .word s (ofBytes ((bs.drop (a % 64)).take 2)) 2 (m.testBit (a % 64 / 8))
        | none => .miss (a / 64 * 64)
    | .none => .fault rDecode a

/-- The instruction at the pc. -/
def State.fetch (s : State) (n : Nat) : Fetched :=
  let a := (s.engine n).pc.toNat
  match s.fetchHalf n a with
  | .word s w _ m =>
    if rvLen w = 2 then .word s w 2 m
    else match s.fetchHalf n ((a + 2) % 2 ^ 32) with
      | .word s w' _ m' => .word s (w + w' * 2 ^ 16) 4 (m || m')
      | r => r
  | r => r

/-- The instruction cache asks for a line, once (R209, R211); a gate that is not RUNNING lets no request out (R446). -/
def State.requestLine (s : State) (n line : Nat) : State :=
  if (s.engine n).fetching.contains line || s.gateState n != 0 then s
  else match s.engTarget n line with
    | .dev d =>
      let s := s.mapEngine n (fun e => { e with fetching := e.fetching ++ [line] })
      s.accept n 0 7 .read d 64 [] [] none (tagFetch line)
    | _ => s

/-! ### Retiring -/

/-- An instruction of `len` bytes retires and writes x(rd). -/
def State.finish (s : State) (n len rd : Nat) (v : Word32) (mark : Bool) : State :=
  s.mapEngine n (fun e => { e.put rd v mark with pc := e.pc + BitVec.ofNat 32 len, instret := e.retired })

/-- The instruction of `len` bytes holds the pipeline. -/
def State.hold (s : State) (n len : Nat) (b : EngBusy) : State :=
  (s.mapEngine n (fun e => { e with busy := b, next := e.pc + BitVec.ofNat 32 len })).showEngine n

/-! ### Loads (R208, R223–R225, R227) -/

def formLd64 : Nat := 8
def formPtest : Nat := 9

/-- The bytes that a load form reads. -/
def formSize (form : Nat) : Nat :=
  if form = 0 ∨ form = 4 then 1 else if form = 1 ∨ form = 5 then 2 else if form = 2 then 4 else 8

/-- The value of a load of at most four bytes. -/
def loadValue (form : Nat) (bytes : List Byte) : Word32 :=
  let v := ofBytes bytes
  match form with
  | 0 => sext 8 v
  | 1 => sext 16 v
  | _ => BitVec.ofNat 32 v

/-- A load of an engine whose pipeline it held ends with data, with a mark or without, and with a response code. -/
def State.loadEnd (s : State) (n rd form : Nat) (bytes : List Byte) (mark : Bool) (code : Nat) : State :=
  let v := ofBytes bytes
  let s := s.mapEngine n (fun e =>
    if form = formPtest then e.retire rd (BitVec.ofNat 32 (16 * code + b2n (mark || code == rPoison))) false
    else if form = formLd64 then (e.retire rd (BitVec.ofNat 32 v) mark).put (rd + 1) (BitVec.ofNat 32 (v / 2 ^ 32)) mark
    else e.retire rd (loadValue form bytes) mark)
  s.showEngine n

/-- The code that xq.ptest gives a local RAM word (R223). -/
def lramCode (c : WordClass) : Nat :=
  match c with
  | .clean => rOK
  | .corrected => rCorrected
  | _ => rPoison

/-- A load of form `form` at engine address `a` (R206, R210, R227). -/
def State.engRead (s : State) (n len form rd a : Nat) : State :=
  let size := formSize form
  let a := if form = formPtest then a / 8 * 8 else a
  let held (s : State) : State := s.hold n len (.load rd form a)
  if a % size ≠ 0 then s.trap n (s.engine n).pc causeLoadAlign false (BitVec.ofNat 32 a)
  else if !(s.engine n).pmpOk (s.dataMachine n) a size 0 then s.accessFault n causeLoad 1 0 a
  else match s.engTarget n a with
    | .ram o =>
      let x := (held s).readLram n (o / 8)
      x.1.loadEnd n rd form (((toBytes 8 x.2.2.toNat).drop (o % 8)).take size) x.2.1.bad (lramCode x.2.1)
    | .rom o => (held s).loadEnd n rd form (((toBytes 8 (Config.maskRom (o / 8)).toNat).drop (o % 8)).take size) false rOK
    | .dev d => if s.gateState n ≠ 0 then s else (held s).accept n 0 (bitsOf ((s.engine n).csrVal csrXqctl).toNat 2 0) .read d size [] [] none tagEngLoad
    | .none => s.accessFault n causeLoad 1 rDecode a

/-- The response of a network load (R227). -/
def State.loadAnswer (s : State) (n : Nat) (d : Delivered) : State :=
  match (s.engine n).busy with
  | .load rd form a =>
    if isErr d.code ∧ form ≠ formPtest then
      ((s.mapEngine n (fun e => { e with busy := .idle })).accessFault n causeLoad 1 d.code a).showEngine n
    else s.loadEnd n rd form d.bytes (d.marks.any (fun m => m)) d.code
  | _ => s

/-! ### Stores (R208, R224, R225, R228) -/

/-- A store of `data` at engine address `a`, with the mark of its register. -/
def State.engWrite (s : State) (n len a : Nat) (data : List Byte) (mark : Bool) : State :=
  let size := data.length
  if a % size ≠ 0 then s.trap n (s.engine n).pc causeStoreAlign false (BitVec.ofNat 32 a)
  else if !(s.engine n).pmpOk (s.dataMachine n) a size 1 then s.accessFault n causeStore 2 0 a
  else match s.engTarget n a with
    | .ram o => (s.writeLram n o data mark).finish n len 0 0 false
    | .dev d => if s.gateState n ≠ 0 then s else
      (s.accept n 0 (bitsOf ((s.engine n).csrVal csrXqctl).toNat 2 0) .write d size data [mark] none 0).finish n len 0 0 false
    | _ => s.accessFault n causeStore 2 rDecode a

/-! ### LR, SC and AMO (R204, R227) -/

/-- A word of local RAM read for an atomic instruction: its value, and its mark. -/
def State.atomicRead (s : State) (n a : Nat) : State × Word32 × Bool :=
  let x := s.readLram n (a / 8)
  (x.1, BitVec.ofNat 32 (x.2.2.toNat / 2 ^ (8 * (a % 8))), x.2.1.bad)

/-- LR, SC and AMO instructions. -/
def State.engAtomic (s : State) (n len : Nat) (i : Rv) : State :=
  let e := s.engine n
  let a (r : Nat) : Nat := (e.get r).toNat
  let check (r align bit : Nat) (k : Nat → State) : State :=
    if a r % 4 ≠ 0 then s.trap n e.pc align false (e.get r)
    else if !e.pmpOk (s.dataMachine n) (a r) 4 bit then
      s.accessFault n (if bit = 0 then causeLoad else causeStore) (if bit = 0 then 1 else 2) 0 (a r)
    else match s.engTarget n (a r) with
      | .ram o => k o
      | _ => s.accessFault n causeStore 2 rDecode (a r)
  match i with
  | .lr rd r => check r causeLoadAlign 0 (fun o =>
      let x := s.atomicRead n o
      (x.1.finish n len rd x.2.1 x.2.2).mapEngine n (fun e => { e with resv := some o }))
  | .sc rd r v => check r causeStoreAlign 1 (fun o =>
      let s := s.mapEngine n (fun e => { e with resv := none })
      if e.resv = some o then
        let m := (decodeWord (s.lramWord n (o / 8))).1.bad
        (s.writeLram n o (toBytes 4 (e.get v).toNat) false).finish n len rd 0 m
      else s.finish n len rd 1 false)
  | .amo f5 rd r v => check r causeStoreAlign 1 (fun o =>
      let x := s.atomicRead n o
      (x.1.writeLram n o (toBytes 4 (amoEval f5 x.2.1 (e.get v)).toNat) false).finish n len rd x.2.1 x.2.2)
  | _ => s

/-! ### Base instructions (R204, R213, R225) -/

/-- A CSR instruction: the old value goes to rd, marked where it is a poisoned operand (R225). -/
def State.engCsr (s : State) (n len f3 rd rs1 a : Nat) : State :=
  let e := s.engine n
  let old := s.csrRead n a
  let v : Word32 := if f3 < 4 then e.get rs1 else BitVec.ofNat 32 rs1
  let new := match f3 % 4 with
    | 1 => v
    | 2 => old ||| v
    | _ => old &&& ~~~v
  let mark := decide (0xCC2 ≤ a ∧ a < 0xCCA) && (e.csrVal csrXqtmpl).getLsbD (16 + (a - 0xCC2) / 2)
  let s := s.finish n len rd old mark
  if f3 % 4 = 1 ∨ rs1 ≠ 0 then s.csrWrite n a new else s

/-- A base instruction that makes no memory request. -/
def State.engBase (s : State) (n len w : Nat) (i : Rv) : State :=
  let e := s.engine n
  let pc := e.pc
  let goto (rd : Nat) (v target : Word32) : State :=
    s.mapEngine n (fun e => { e.put rd v false with pc := target, instret := e.retired })
  let link := pc + BitVec.ofNat 32 len
  match i with
  | .lui rd imm => s.finish n len rd imm false
  | .auipc rd imm => s.finish n len rd (pc + imm) false
  | .jal rd imm => goto rd link (pc + imm)
  | .jalr rd r imm => goto rd link ((e.get r + imm) &&& 0xFFFFFFFE)
  | .branch f3 a b imm => if branchTaken f3 (e.get a) (e.get b) then goto 0 0 (pc + imm) else s.finish n len 0 0 false
  | .aluImm op rd r imm => s.finish n len rd (op.eval (e.get r) imm) false
  | .aluReg op rd a b => s.finish n len rd (op.eval (e.get a) (e.get b)) false
  | .csr f3 rd r a => s.engCsr n len f3 rd r a
  | .wfi => s.finish n len 0 0 false
  | .mret => s.mret n
  | .ecall => s.trap n pc (if s.machineMode n then causeEcallM else causeEcallU) false 0
  | .ebreak => s.trap n pc causeBreak false (Config.breakTval pc)
  | .illegal => s.trap n pc causeIllegal false (Config.illegalTval (BitVec.ofNat 32 w))
  | _ => s

/-! ### Issue -/

/-- Whether the mode and xqctl let the instruction run (R213–R215). -/
def State.allowed (s : State) (n : Nat) (i : Rv) : Bool :=
  let e := s.engine n
  let m := s.machineMode n
  let ctl (b : Nat) : Bool := m || (e.csrVal csrXqctl).getLsbD b
  match i with
  | .mret => m
  | .csr f3 _ r a => !s.csrBad n a (f3 % 4 == 1 || r != 0)
  | .xq (.post _ _ _) => ctl 8
  | .xq (.wait _ _ _ _) => ctl 9
  | .xq (.done _) => ctl 9
  | .xq (.psel _ _) => ctl 10
  | .xq (.sacq _ _) => ctl 11
  | .xq (.srel _ _ _) => ctl 11
  | .xq (.cancel _ _) => ctl 12
  | _ => true

/-- Whether the engine could issue an instruction now: it runs, its domain is ON, it takes clock edges, and nothing holds its
pipeline. -/
def State.mayIssue (s : State) (n : Nat) : Bool :=
  s.estate n == esRunning && s.domState (128 + n) == dsOn && (s.engine n).busy == .idle && s.mode != modeOff &&
  (s.bit (Reg.ENG_CTL n) Fld.ENG_CTL_RUN || (s.engine n).stall) && !s.engGated n

/-- Whether an instruction waits at its issue: it touches the register of an outstanding xq.psel, or is a second xq.psel (R221), or an xq.post whose
queue is full (R216). -/
def State.pselStall (s : State) (n : Nat) (i : Rv) : Bool :=
  match (s.engine n).psel with
  | some (rd, _) => (rd != 0 && (i.uses ++ i.passes ++ i.writes).contains rd) || (match i with | .xq (.psel _ _) => true | _ => false)
  | none => false
def State.stalls (s : State) (n : Nat) (i : Rv) : Bool :=
  s.pselStall n i || (match i with | .xq (.post _ _ _) => s.queueFull n | _ => false)

/-- What the engine issues: after the fetch, a word poisoned, or an instruction; what the mode forbids counts as illegal. -/
inductive Issue where
  | none
  | miss (line : Nat)
  | fault (code addr : Nat)
  | poisoned (s : State)
  | instr (s : State) (w len : Nat) (i : Rv)

/-- The instruction at the pc of engine `n`; what the mode forbids counts as illegal. -/
def State.atPc (s : State) (n w : Nat) : Rv := if s.allowed n (decodeRv w) then decodeRv w else .illegal

/-- The instruction that engine `n` would issue now. -/
def State.toIssue (s : State) (n : Nat) : Issue :=
  if !s.mayIssue n then .none
  else match s.fetch n with
    | .miss l => .miss l
    | .fault c a => .fault c a
    | .word s w len mark =>
      if mark then .poisoned s
      else
        let i := s.atPc n w
        if s.pselStall n i then .none else .instr s w len i

/-- An instruction that stalled when RUN was cleared has gone on, and the engine halts (R231). -/
def State.unstall (s : State) (n : Nat) (before : Eng) : State :=
  if before.stall && s.engine n != before then (s.mapEngine n (fun e => { e with stall := false })).showEngine n else s

/-- The lowest-numbered source register whose mark the instruction would consume (R225, R226). -/
def Eng.poisonedUse (e : Eng) (i : Rv) : Option Nat := (List.range 32).find? (fun r => i.uses.contains r && e.marked r)

/-- The issue of an instruction of one row: `p` says which instructions the row has, `run` what they do. A marked source raises the
poison exception instead; a line that is not in the cache is asked for. -/
def State.issueRow (s : State) (n : Nat) (p : Rv → Bool) (run : State → Nat → Nat → Rv → State) : State :=
  match s.toIssue n with
  | .miss l => s.requestLine n l
  | .instr s' w len i =>
    if !p i then s
    else match (s'.engine n).poisonedUse i with
      | some r => (s'.poisonTrap n r false).unstall n (s'.engine n)
      | none => (run s' w len i).unstall n (s'.engine n)
  | _ => s

/-- Base instructions that make no memory request: those that no other row has. -/
def Rv.isBase : Rv → Bool
  | .load _ _ _ _ => false
  | .store _ _ _ _ => false
  | .lr _ _ => false
  | .sc _ _ _ => false
  | .amo _ _ _ _ => false
  | .fence => false
  | .fenceI => false
  | .xq _ => false
  | _ => true

/-! ### Responses (R227) -/

/-- An instruction line arrives (R209, R226, R227): it fills the cache, taking the place of a line that the spec does not name where
the cache is full; a failing one raises the access fault of an instruction that waits for it, be it for its second half. -/
def State.lineAnswer (s : State) (n line : Nat) (d : Delivered) : State :=
  let e := s.engine n
  let s := s.setEngine n { e with fetching := e.fetching.erase line }
  if isErr d.code then
    let a := e.pc.toNat
    let long := match s.fetchHalf n a with
      | .word _ w _ _ => rvLen w != 2
      | _ => false
    if s.mayIssue n ∧ (a / 64 * 64 = line ∨ ((a + 2) / 64 * 64 = line ∧ long = true)) then
      s.accessFault n causeFetch 0 d.code (if a / 64 * 64 = line then a else line)
    else s
  else
    let keep := if e.icache.length < 512 then e.icache else e.icache.eraseIdx (Config.freeNat s.fresh % 512)
    let s := if e.icache.length < 512 then s else s.draw
    s.mapEngine n (fun e => { e with icache := keep ++ [(line, d.bytes, marksMask d.marks)] })

/-- What an engine does with a response (R211, R227, R231). -/
def State.engAnswer (s : State) (n : Nat) (d : Delivered) : State :=
  if d.tag = tagEngLoad then s.loadAnswer n d
  else if d.tag = tagEngFence then
    (match (s.engine n).busy with
      | .fence => (s.mapEngine n (fun e => e.retire 0 0 false)).showEngine n
      | _ => s)
  else if tagFetch 0 ≤ d.tag then s.lineAnswer n (d.tag - tagFetch 0) d
  else s

/-- The responses that wait for engine `n`, but for those of the root firmware. -/
def State.engInbox (s : State) (n : Nat) : State :=
  let mine (d : Delivered) : Bool := d.src == n && d.tag != tagFirmware
  let l := s.noc.inbox.filter mine
  if s.engGated n then s else l.foldl (fun s d => s.engAnswer n d) { s with noc := { s.noc with inbox := s.noc.inbox.filter (fun d => !mine d) } }

/-! ### Xqtally (R216–R224) -/

/-- xq.post (R216): the token enters the engine's queue, or the instruction stalls (R156). -/
def State.xqPost (s : State) (n len : Nat) (a b c : Nat) : State :=
  let e := s.engine n
  let h := (e.get a).toNat
  if s.queueFull n then s
  else
    let v := BitVec.ofNat 64 ((e.get b).toNat + (e.get c).toNat * 2 ^ 32)
    (s.pushToken n ⟨h % 2 ^ 28, h / 2 ^ 28 % 4, v, e.marked b || e.marked c⟩).finish n len 0 0 false

/-- xq.wait (R217). -/
def State.xqWait (s : State) (n len rd a b opt : Nat) : State :=
  let e := s.engine n
  if opt.testBit 0 && (e.bound || n == 0) then s.finish n len rd (BitVec.ofNat 32 (4 * 2 ^ 28)) false
  else
    let w := s.secondSc
    let s := s.hold n len (.wait opt ((e.get a).toNat % 2 ^ 28) (e.get b).toNat rd w)
    if opt.testBit 0 then { s with sch := { s.sch with waits := tins s.sch.waits n (w / scLen) } } else s

/-- The outcome of engine `n`'s wait at the sc edge of now, in the order of R218: the code, the handle, and a task's record. -/
def State.waitOutcome (s : State) (n opt handle limit : Nat) : Option (Nat × Nat × Option Nat) :=
  let time := s.tallyNow % 2 ^ 32
  match tfind s.sch.offer n with
  | some i => some (0, s.handleOf i, some i)
  | none =>
    if opt.testBit 1 && !s.current handle then some (1, handle, none)
    else if opt.testBit 2 && decide ((time + 2 ^ 32 - limit) % 2 ^ 32 < 2 ^ 31) then some (2, 0, none)
    else if (s.firstInt n).isSome then some (3, 0, none)
    else none

/-- The end of a wait at its deciding edge D, the sc edge of now (R217, R218). -/
def State.waitEnd (s : State) (n : Nat) : State :=
  match (s.engine n).busy with
  | .wait opt handle limit rd w =>
    if s.scEdge < w ∨ s.engGated n then s
    else match s.waitOutcome n opt handle limit with
      | none => s
      | some (code, h, task) =>
        let s := { s with sch := { s.sch with waits := tdel s.sch.waits n, offer := tdel s.sch.offer n } }
        (s.mapEngine n (fun e => { e with
          busy := .ended (ncAfter (s.scEdge + scLen)) rd (BitVec.ofNat 32 (code * 2 ^ 28 + h)) task })).showEngine n
  | _ => s

/-- xq.done (R219). -/
def State.xqDone (s : State) (n len rd : Nat) : State :=
  let e := s.engine n
  if !e.bound then s.finish n len rd 1 false
  else
    let edge := s.secondSc
    let s := s.mapEngine n (fun e => { e with done := some (edge, handleIdx (e.csrVal csrXqtask).toNat) })
    s.hold n len (.due (ncAfter edge) rd 0 true)

/-- The report of engine `n` has reached the scheduler, which frees the record at the first sc edge after it (R162). -/
def State.engineDone (s : State) (n : Nat) : State :=
  match (s.engine n).done with
  | none => s
  | some (edge, i) =>
    if s.now < edge + scLen then s
    else (s.mapEngine n (fun e => { e with done := none })).freeRec i

/-- xq.cancel (R220). -/
def State.xqCancel (s : State) (n len rd a : Nat) : State :=
  (s.addCancel (.engine n) ((s.engine n).get a).toNat s.secondSc).hold n len (.cancel rd s.secondSc)

/-- xq.psel (R221): the request sets out for the beam, and the instruction retires. -/
def State.xqPsel (s : State) (n len rd a : Nat) : State :=
  let v := ((s.engine n).get a).toNat
  let x := s.secondSc
  let due := ncAfter (x + scLen)
  let s := s.finish n len 0 0 false
  let s := s.mapEngine n (fun e => { e with psel := some (rd, due) })
  s.addSwReq (n + 64 * (v / 2 ^ 16 % 2)) ⟨x, x + fcLen, .engine n due, .ptr
    (if v.testBit 12 then none else some (v % 8)) (if v.testBit 13 then none else some (v / 16 % 4)) (v.testBit 14)⟩

/-- The outcome of the xq.psel of engine `n` is written (R221). An engine that has been reset since has no use for it (R231). -/
def State.pselResult (s : State) (n : Nat) : State :=
  match tfind s.fab.psel n with
  | none => s
  | some (mine, code) =>
    let gone (s : State) : State := { s with fab := { s.fab with psel := tdel s.fab.psel n } }
    match (s.engine n).psel with
    | none => gone s
    | some (rd, due) =>
      if due ≠ mine then gone s
      else if s.now < due ∨ s.engGated n then s
      else (gone s).mapEngine n (fun e => { e.put rd (BitVec.ofNat 32 code) false with psel := none })

/-- A handover asked for by an engine sets out for its edge H (R222, R239). -/
def State.xqHandover (s : State) (n len rd bank new : Nat) (clear : Bool) : State :=
  let h := s.secondSc
  if 96 ≤ bank then s.hold n len (.due (ncAfter (h + scLen)) rd (BitVec.ofNat 32 hoNoBank) false)
  else
    let ask : HoAsk := ⟨bank, ownEngine n, some n, new, clear, h⟩
    let s := { s with scr := { s.scr with asks := s.scr.asks ++ [ask] } }
    s.hold n len (.scratch rd h)

/-! ### Control (R231) -/

/-- The engine is reset: pipeline, CSRs and instruction cache; registers and local RAM keep what they hold. -/
def State.resetEngine (s : State) (n : Nat) : State :=
  let s := (s.loseEngine n).orphan n
  let s := { s with sch := { s.sch with answers := s.sch.answers.filter (fun a => a.1 != CancelBy.engine n) } }
  let s := s.mapEngine n (fun e => { Eng.idle with x := e.x, marks := e.marks, ram := e.ram })
  (s.setFld (Reg.ENG_STATUS n) Fld.ENG_STATUS_PRIV 1).showEngine n

/-- A released engine with RUN = 1 that has not started since its reset starts at ENG_BOOT_ADDR. -/
def State.startEngine (s : State) (n : Nat) : State :=
  let e := s.engine n
  let s := if e.started || (s.reg (Reg.RST_ROD n)).getLsbD 10 || s.bit (Reg.ENG_CTL n) Fld.ENG_CTL_RESET || !s.bit (Reg.ENG_CTL n) Fld.ENG_CTL_RUN then s
    else s.setEngine n { e with pc := s.reg (Reg.ENG_BOOT_ADDR n) &&& 0xFFFFFFFC, started := true, cycles := (0, s.now) }
  s.showEngine n

/-- Whether the instruction at the pc of engine `n` stalls (R231). -/
def State.stalled (s : State) (n : Nat) : Bool :=
  s.mayIssue n && (match s.fetch n with
    | .word s w _ mark => !mark && s.stalls n (s.atPc n w)
    | _ => false)

/-- RUN and RESET of engine `n` written: an instruction that stalls as RUN is cleared completes first (R231). -/
def State.engCtlSet (s : State) (n v : Nat) : State :=
  let wait := s.stalled n
  let s := s.setReg (Reg.ENG_CTL n) (BitVec.ofNat 32 (v % 4))
  let s := if wait then s.mapEngine n (fun e => { e with stall := !v.testBit 0 }) else s
  if v.testBit 1 then s.resetEngine n else s.startEngine n

/-- A write of ENG_CTL(n); that of engine 0 takes the writes of engine 0 alone (R232, R4). -/
def State.engCtlWrite (s : State) (src n v : Nat) : State :=
  s.ctlWrite src (Reg.ENG_CTL n) (fun s => if n = 0 ∧ src ≠ 0 then s else s.engCtlSet n v)

/-! ### Mailbox (R233, R234) -/

def mbOK : Nat := 0
def mbBadSig : Nat := 1
def mbBadNonce : Nat := 2
def mbBadCmd : Nat := 3
def mbRead : Nat := 4

/-- ENG_MBOX_IN(n) written. -/
def State.mboxIn (s : State) (n v : Nat) : State :=
  if s.bit (Reg.ENG_MBOX_DB n) Fld.ENG_MBOX_DB_IN then s.setFld (Reg.ENG_MBOX_DB n) Fld.ENG_MBOX_DB_LOST 1
  else (s.setReg (Reg.ENG_MBOX_IN n) (BitVec.ofNat 32 v)).setFld (Reg.ENG_MBOX_DB n) Fld.ENG_MBOX_DB_IN 1

/-- ENG_MBOX_OUT(n) written. -/
def State.mboxOut (s : State) (n v : Nat) : State :=
  (s.setReg (Reg.ENG_MBOX_OUT n) (BitVec.ofNat 32 v)).setFld (Reg.ENG_MBOX_DB n) Fld.ENG_MBOX_DB_OUT 1

/-- The root firmware answers the command that it has taken: it takes the message (DB.IN clears), and writes ENG_MBOX_OUT. -/
def State.mboxAnswer (s : State) (cmd outcome : Nat) : State :=
  (s.setFld (Reg.ENG_MBOX_DB 0) Fld.ENG_MBOX_DB_IN 0).mboxOut 0 (cmd * 2 ^ 24 + outcome)

/-- The command that waits for the root firmware, and its argument. -/
def State.mboxCommand (s : State) : Option (Nat × Nat) :=
  let v := (s.reg (Reg.ENG_MBOX_IN 0)).toNat
  if s.bit (Reg.ENG_MBOX_DB 0) Fld.ENG_MBOX_DB_IN ∧ s.estate 0 ≠ esReset then some (v / 2 ^ 24, v % 2 ^ 24) else none

/-- NONCE, and BAD_CMD for a command that R233 does not list. -/
def State.mboxNonce (s : State) : State :=
  match s.mboxCommand with
  | none => s
  | some (cmd, _) =>
    if cmd = 1 then
      let v := BitVec.ofNat 32 (Config.freeNat s.fresh)
      ({ s.draw with nonce := some v }.setReg (Reg.ENG_MBOX_DATA 0) v).mboxAnswer cmd mbOK
    else if cmd = 2 then s
    else s.mboxAnswer cmd mbBadCmd

end Sys2Proof.Machine
end

