-- ==== Sys2Proof/Machine/Loader.lean ====
section
/-!
DEFINITION. The configuration loader (R108–R134, R140–R145, R546): the image format and its checks, and a load as it passes through
its states. One read of a memory source is outstanding at a time; read and write rates decide only when the work is done (R120, log
entry 26).
-/
namespace Sys2Proof.Machine


/-! ### Failure codes (R144) -/

def lfNone : Nat := 0x00
def lfMagic : Nat := 0x01
def lfHdrCrc : Nat := 0x02
def lfVersion : Nat := 0x03
def lfPart : Nat := 0x04
def lfStack : Nat := 0x05
def lfKind : Nat := 0x06
def lfMalformed : Nat := 0x07
def lfKey : Nat := 0x08
def lfUnsigned : Nat := 0x09
def lfNeeds : Nat := 0x0A
def lfChunk : Nat := 0x0B
def lfSource : Nat := 0x0C
def lfEarly : Nat := 0x0D
def lfFrame : Nat := 0x0E
def lfStream : Nat := 0x0F
def lfSettings : Nat := 0x10
def lfActive : Nat := 0x11
def lfNoTrailer : Nat := 0x12
def lfGcm : Nat := 0x13
def lfDigest : Nat := 0x14
def lfSignature : Nat := 0x15
def lfCancel : Nat := 0x16
def lfReset : Nat := 0x17
def lfBusy : Nat := 0x18
def lfMode : Nat := 0x19

/-- CFG_LOAD_STATUS.RESULT. -/
def lrCompleted : Nat := 0
def lrRefused : Nat := 1
def lrAborted : Nat := 2
def lrNotStarted : Nat := 3

/-- The states of R121. -/
def lsHeader : Nat := 1
def lsNeeds : Nat := 2
def lsDict : Nat := 3
def lsOpen : Nat := 4
def lsStream : Nat := 5
def lsSettings : Nat := 6
def lsTrailer : Nat := 7
def lsClose : Nat := 8
def lsApply : Nat := 9

/-! ### The stored image (R108–R118) -/

/-- A chunk of content, and the bytes that it takes in the stored image with its CRC. -/
def chunkLen : Nat := 65536
def chunkStored : Nat := 65540

/-- The stored offset of content byte `c`. -/
def storedOff (c : Nat) : Nat := c + 4 * (c / chunkLen)

/-- Content bytes `c` to `c + n - 1` of a stored prefix that holds them; `fuel` bounds the chunks that they touch. -/
def contentBytes : Nat → List Byte → Nat → Nat → List Byte
  | 0, _, _, _ => []
  | fuel + 1, raw, c, n =>
    let k := min n (chunkLen - c % chunkLen)
    if n = 0 then [] else (raw.drop (storedOff c)).take k ++ contentBytes fuel raw (c + k) (n - k)

def natBytes (l : List Byte) : List Nat := l.map (·.toNat)

/-- A little-endian field of `n` bytes at byte `a`. -/
def leField (l : List Byte) (a n : Nat) : Nat := ofBytes ((l.drop a).take n)
def byteAt (l : List Byte) (a : Nat) : Nat := (l.getD a 0).toNat

/-- The header fields that a load needs (R109). -/
def Load.header (l : Load) : List Byte := l.raw.take 256
def Load.planes (l : Load) : List Nat := (List.range 8).filter (fun p => (byteAt l.header 32).testBit p)
def Load.regions (l : Load) : List Nat := (List.range 128).filter (fun r => (byteAt l.header (36 + r / 8)).testBit (r % 8))
def Load.enc (l : Load) : Bool := byteAt l.header 14 == 1
def Load.declared (l : Load) : Nat := leField l.header 56 8
def Load.dictSize (l : Load) : Nat := leField l.header 64 4
def Load.streamLen (l : Load) : Nat := leField l.header 68 4
def Load.settings (l : Load) : Nat := leField l.header 72 4
def Load.frameCount (l : Load) : Nat := leField l.header 52 4

/-- Where the parts of the content start, and C of R110. -/
def Load.dictAt (l : Load) : Nat := 256 + 16 * l.regions.length
def Load.streamAt (l : Load) : Nat := l.dictAt + 4096 * l.dictSize
def Load.settingsAt (l : Load) : Nat := l.streamAt + l.streamLen
def Load.content (l : Load) : Nat := l.settingsAt + 8 * l.settings
def Load.chunks (l : Load) : Nat := (l.content + chunkLen - 1) / chunkLen
/-- T of R116. -/
def Load.trailerAt (l : Load) : Nat := l.declared - 272

/-- Content bytes in the clear (R118). -/
def Load.bytes (l : Load) (key : List Byte) (c n : Nat) : List Byte :=
  let b := contentBytes (n / chunkLen + 2) l.raw c n
  if l.enc ∧ 256 ≤ c then
    List.zipWith (fun x k => x ^^^ BitVec.ofNat 8 k) b (gcmStream (natBytes key) (natBytes ((l.header.drop 76).take 12)) (c - 256) n)
  else b

/-- The first header field that R110 finds malformed, by offset. -/
def headerFault (h : List Byte) : Option Nat :=
  let zero (a b : Nat) : Bool := ((h.drop a).take (b + 1 - a)).all (· == 0)
  let nP := weight 8 (byteAt h 32)
  let nR := weight 128 (leField h 36 16)
  let c := 256 + 16 * nR + 4096 * leField h 64 4 + leField h 68 4 + 8 * leField h 72 4
  let bad : List (Nat × Bool) :=
    [(13, decide (1 < byteAt h 13)), (14, decide (1 < byteAt h 14)), (15, decide (1 < byteAt h 15)),
     (32, byteAt h 32 == 0), (33, !zero 33 35), (36, leField h 36 16 == 0), (52, leField h 52 4 != nP * nR * 64),
     (56, leField h 56 8 != c + 4 * ((c + chunkLen - 1) / chunkLen) + 272), (64, decide (16384 < leField h 64 4)),
     (68, leField h 68 4 % 4 != 0),
     (72, decide (4096 < leField h 72 4) || (byteAt h 12 == 2 && leField h 72 4 != 0)), (88, !zero 88 251)]
  (bad.find? (·.2)).map (·.1)

def imageMagic : List Byte := [0x44, 0x57, 0x47, 0x46, 0x0D, 0x0A, 0x1A, 0x0A]
def trailerMagic : List Byte := [0x44, 0x57, 0x47, 0x54]

/-- The checks of HEADER in their order (R121): the code and the offset of the first that fails. -/
def State.headerCheck (s : State) (l : Load) : Option (Nat × Nat) :=
  let h := l.header
  let kind := byteAt h 12
  if h.take 8 ≠ imageMagic then some (lfMagic, 0)
  else if crc32c (h.take 252) ≠ leField h 252 4 then some (lfHdrCrc, 252)
  else if leField h 8 2 ≠ 0x0100 then some (lfVersion, 8)
  else if leField h 10 2 ≠ 0x7164 then some (lfPart, 10)
  else if byteAt h 13 = 0 ∧ natBytes ((h.drop 16).take 16) ≠ stackSig s.fuse then some (lfStack, 16)
  else if !(kind == 1 || kind == 2) || (!l.verify && (kind == 1) != (l.boot != 0)) then some (lfKind, 12)
  else match headerFault h with
    | some a => some (lfMalformed, a)
    | none =>
      if l.enc ∧ s.fuse.imgKey.isNone then some (lfKey, 14)
      else if s.fuse.secureBoot ∧ byteAt h 15 ≠ 1 then some (lfUnsigned, 15)
      else none

/-! ### The needs table (R111, R128) -/

/-- PLANE_FAB_RC_AVAIL of a region as 64 bits. -/
def State.rcAvail (s : State) (r : Nat) : Nat :=
  (s.reg (Reg.PLANE_FAB_RC_AVAIL_LO r)).toNat + (s.reg (Reg.PLANE_FAB_RC_AVAIL_HI r)).toNat * 2 ^ 32

/-- It as it stood before the sc edge `c`: retirements at `c` or later left out (R128). -/
def State.rcAvailAt (s : State) (r c : Nat) : Nat :=
  (s.stk.rcLost.filter (fun x => x.1 == r && decide (c ≤ x.2.2))).foldl (fun a x => a ||| 2 ^ x.2.1) (s.rcAvail r)

/-- DRIVE and READ of needs entry `i`. -/
def Load.need (l : Load) (key : List Byte) (i : Nat) : Nat × Nat :=
  let b := l.bytes key (256 + 16 * i) 16
  (leField b 0 8, leField b 8 8)

/-- Whether needs `x` of region `r` name a group that was not available before the sc edge `c`. -/
def State.needFails (s : State) (r : Nat) (x : Nat × Nat) (c : Nat) : Bool :=
  x.1 &&& s.rcAvailAt r c != x.1 || x.2 &&& s.rcAvailAt ((r + 64) % 128) c != x.2

def State.imageKey (s : State) : List Byte := s.fuse.imgKey.getD []

/-- The content offset of the first needs entry that failed before the sc edge `c`. -/
def State.needsFault (s : State) (l : Load) (c : Nat) : Option Nat :=
  ((l.regions.zipIdx).find? (fun p => s.needFails p.1 (l.need s.imageKey p.2) c)).map (fun p => 256 + 16 * p.2)

/-- Planes closed by a load whose needs name channels retired after the check of CLOSE, which R128 counts as after it, become INVALID at
CLOSE + 1 fc (R484). -/
def State.closeLost (s : State) (l : Load) : State :=
  match ((l.regions.zipIdx).filter (fun p => s.needFails p.1 (l.need s.imageKey p.2) (s.now + 1))).map (·.1) with
  | [] => s
  | rs => s.later s.fcNext (.planesInvalid rs l.planes false)

/-! ### Malformed frames (R43, R50, R51, R99, R124, R546) -/

/-- A column control of R546 that is malformed. -/
def columnBad (f : List Byte) : Bool :=
  bitsAt f 4064 127 77 != 0 ||
  [0, 1, 2, 3].any (fun k =>
    let src := bitsAt f 4064 (16 * k + 7) (16 * k)
    let row := bitsAt f 4064 (16 * k + 15) (16 * k + 8)
    decide (0x87 ≤ src) || (decide (src < 0x80) && decide (200 ≤ row)) || (decide (0x80 ≤ src) && row != 0))

/-- The deck RAM configuration of a frame that is malformed. -/
def ramBad (f : List Byte) : Bool :=
  let c := ramCfg f
  bitsAt f 4032 4 2 != 0 || bitsAt f 4032 255 18 != 0 || c.mode == 3 || decide (5 ≤ c.widthA) || decide (5 ≤ c.widthB) ||
  c.echoA == 3 || c.echoB == 3 || clkBad (bitsAt f 4032 17 15) || (c.mode == 1 && (c.widthA == 4) != (c.widthB == 4))

/-- Border settings that are malformed: a reserved bit, or FLOAT outside PIN_P. -/
def borderBad (f : List Byte) : Bool :=
  bitsAt f 4080 127 26 != 0 || (List.range 10).any (fun i => bitsAt f 4080 (2 * i + 1) (2 * i) == 3)

/-- A frame malformed wherever it stands. -/
def frameBad (f : List Byte) : Bool :=
  f.any (· != 0) &&
  ((List.range 200).any (fun k => beadBad ((f.drop (20 * k)).take 20)) ||
   bitsAt f 4000 255 10 != 0 || clkBad (bitsAt f 4000 7 7 * 4 + bitsAt f 4000 6 5) ||
   ramBad f || columnBad f || borderBad f)

/-- A frame malformed in column `c` of region `r`. -/
def frameBadAt (f : List Byte) (r c : Nat) : Bool :=
  (c % 4 == 3 && bitsAt f 4032 255 0 != 0) || (decide (4 ≤ c) && bitsAt f 4080 25 20 != 0) ||
  (decide (64 ≤ r) && bitsAt f 4080 19 18 != 0)

/-! ### The end of a load (R119, R122, R127, R145) -/

def State.setLoad (s : State) (l : Option Load) : State := { s with cfg := { s.cfg with load := l } }

/-- DONE, RESULT and FAIL written, and CFG_INT_STATUS.LOAD set. -/
def State.loadRecord (s : State) (result code : Nat) : State :=
  let a := Reg.CFG_LOAD_STATUS
  let s := (s.setFld a Fld.CFG_LOAD_STATUS_DONE 1).setFld a Fld.CFG_LOAD_STATUS_RESULT result
  (s.setFld a Fld.CFG_LOAD_STATUS_FAIL code).setFld Reg.CFG_INT_STATUS Fld.CFG_INT_STATUS_LOAD 1

/-- Planes `ps` of region `r` take state `v`; requests due at this edge find them LOADING, except after a CLOSE, where they find them INVALID
(R126, R127, R484). -/
def State.setPlanes (s : State) (r v : Nat) (ps : List Nat) (first : Bool) : State :=
  let put (s : State) : State := ps.foldl (fun s p => s.setPstate r p v) s
  if first then (put s).resolve r else put (s.resolve r)

/-- The planes that the load opened become VALID, and BGEN of each region in its mask increases (R126). -/
def State.closePlanes (s : State) (l : Load) : State :=
  l.regions.foldl (fun s r => (s.setPlanes r psValid l.planes false).bumpBgen r) s

/-- Planes become INVALID at their edge (R127, R484). A beam reset that has come first has made them so, and moves no BGEN (R547). -/
def State.planesInvalid (s : State) (regions planes : List Nat) (abort : Bool) : State :=
  if s.beamReset then s
  else regions.foldl (fun s r =>
    let s := s.setPlanes r psInvalid planes (!abort)
    if abort then s.bumpBgen r else s) s

/-- The device leaves LOAD or FALLBACK for its run mode (R467). -/
def State.enterRunMode (s : State) : State := s.setMode (s.fld Reg.PWR_MODE_STATUS Fld.PWR_MODE_STATUS_RUN_MODE)

/-- A boot load from a slot begins (R140). -/
def State.startBoot (s : State) (boot slot : Nat) : State :=
  let s := (s.setFld Reg.CFG_LOAD_STATUS Fld.CFG_LOAD_STATUS_BUSY 1).setFld Reg.CFG_LOAD_STATUS Fld.CFG_LOAD_STATUS_STATE lsHeader
  let s := s.setReg Reg.CFG_LOAD_PROGRESS 0
  s.setLoad (some ⟨false, boot, some slot, 0, 2 ^ 25, [], false, lsHeader, 0, 0, 0, none, [], 0, false, false⟩)

/-- What follows the end of a boot load (R141); CFG_BOOT_LOG takes its code. -/
def State.bootEnd (s : State) (boot slot code : Nat) : State :=
  let a := Reg.CFG_BOOT_LOG
  let ok := code == lfNone
  let booted (s : State) : State := (s.setFld Reg.DEV_STATUS Fld.DEV_STATUS_BOOT_SLOT slot).enterRunMode
  if slot = 0 then
    let s := (s.setFld a Fld.CFG_BOOT_LOG_GOLD_TRIED 1).setFld a Fld.CFG_BOOT_LOG_GOLD_FAIL code
    if ok then booted s else s.setMode modeService
  else
    let s := (s.setFld a Fld.CFG_BOOT_LOG_WORK_TRIED 1).setFld a Fld.CFG_BOOT_LOG_WORK_FAIL code
    let s := s.setFld a Fld.CFG_BOOT_LOG_WORK_SLOT slot
    if ok then booted s else if boot = 1 then (s.setMode modeFallback).startBoot 2 0 else s

/-- The tags of the loader's source reads, of the fence of APPLY (R129), and of the requests of a load that has ended. -/
def tagLoad : Nat := 1
def tagApply : Nat := 2
def tagEnded : Nat := 3

/-- What the load has outstanding is no longer waited for: its answers go to no later load. -/
def State.disownReads (s : State) : State :=
  s.disown (fun src tag => src == srcLoader && (tag == tagLoad || tag == tagApply)) tagEnded

/-- The load has ended: its cache lines are released (R112). -/
def State.finishLoad (s : State) (l : Load) (result code : Nat) : State :=
  let s := (s.setLoad none).releaseLines.disownReads
  let a := Reg.CFG_LOAD_STATUS
  let s := (s.setFld a Fld.CFG_LOAD_STATUS_BUSY 0).setFld a Fld.CFG_LOAD_STATUS_STATE 0
  let s := s.loadRecord result code
  if l.boot = 0 then s else s.bootEnd l.boot (l.slot.getD 0) code

/-- The load fails at stored offset `off`: a refusal before the OPEN edge, an abort after it, whose planes become INVALID at the first fc edge
after this (R122, R127). -/
def State.failLoad (s : State) (l : Load) (code off : Nat) : State :=
  let s := s.setReg Reg.CFG_LOAD_FAIL_OFFSET (BitVec.ofNat 32 off)
  if l.opened then (s.later s.fcNext (.planesInvalid l.regions l.planes true)).finishLoad l lrAborted code
  else s.finishLoad l lrRefused code

/-! ### The items of a load in reading order -/

/-- The load moves on to state `st`. -/
def State.stageTo (s : State) (l : Load) (st : Nat) : State :=
  (s.setLoad (some { l with stage := st, idx := 0 })).setFld Reg.CFG_LOAD_STATUS Fld.CFG_LOAD_STATUS_STATE st

/-- The position of frame `i` in the order of R113: plane, region, column. -/
def Load.position (l : Load) (i : Nat) : Nat × Nat × Nat :=
  let n := l.regions.length
  (l.planes.getD (i / 64 / n) 0, l.regions.getD (i / 64 % n) 0, i % 64)

/-- The OPEN edge (R125): requests due at this edge act first (R71). -/
def State.loadOpen (s : State) (l : Load) : State :=
  let s := l.regions.foldl (fun s r => s.resolve r) s
  if l.regions.any (fun r => l.planes.any (fun p => s.planeActive r p)) then s.failLoad l lfActive (storedOff l.streamAt)
  else
    let s := l.regions.foldl (fun s r => l.planes.foldl (fun s p => s.setPstate r p psLoading) s) s
    s.stageTo { l with opened := true } lsStream

/-- A frame is written to the next position, and counted (R113, R124); none where it is malformed there. -/
def State.writeFrame (s : State) (l : Load) (f : List Byte) (zero : Bool) : Option (State × Load) :=
  let (p, r, c) := l.position l.frames
  if !zero && frameBadAt f r c then none
  else
    let s := if l.verify then s
      else { s with fab := { s.fab with frames := tput (fun _ => []) s.fab.frames (frameKey r p c) f } }
    let l := { l with lastF := f, frames := l.frames + 1 }
    some ((s.setReg Reg.CFG_LOAD_PROGRESS (BitVec.ofNat 32 l.frames)).setLoad (some l), l)

/-- A frame of zero bytes. -/
def zeroFrame : List Byte := List.replicate 4096 0

/-- One step of the running operation of the stream: one frame, whose bytes are given for LIT (R113). -/
def State.streamFrame (s : State) (l : Load) (o : LoadOp) (f : List Byte) : State :=
  let f := if o.kind = 3 then zeroFrame else if o.kind = 4 then l.lastF else f
  if l.frameCount ≤ l.frames then s.failLoad l lfStream o.off
  else if o.kind = 1 ∧ frameBad f then s.failLoad l lfFrame o.off
  else match s.writeFrame l f (o.kind == 3) with
    | none => s.failLoad l lfFrame o.off
    | some (s, l) =>
      s.setLoad (some { l with
        op := if o.left = 1 then none else some { o with left := o.left - 1 }
        pos := if o.kind = 1 then l.pos + 4096 else l.pos })

/-- The next operation word of the stream, or its end (R113). -/
def State.streamWord (s : State) (l : Load) (w : Nat) : State :=
  let off := storedOff l.pos
  let k := w / 2 ^ 28
  let n := w % 2 ^ 24
  let room := l.settingsAt - l.pos
  let bad := w / 2 ^ 24 % 16 != 0 || !(k == 1 || k == 2 || k == 3 || k == 4) || (k == 1 && n != 0) ||
    (k == 1 && decide (room < 4100)) || (k == 2 && decide (l.dictSize ≤ n)) || ((k == 3 || k == 4) && n == 0) ||
    (k == 4 && l.frames == 0) || decide (l.frameCount < l.frames + (if k = 3 ∨ k = 4 then n else 1))
  if bad then s.failLoad l lfStream off
  else
    let l := { l with pos := l.pos + 4 }
    if k = 2 then
      match s.writeFrame l (l.bytes s.imageKey (l.dictAt + 4096 * n) 4096) false with
      | none => s.failLoad l lfFrame off
      | some (s, _) => s
    else s.setLoad (some { l with op := some ⟨k, if k = 1 then 1 else n, off⟩ })

/-- The spans in which a settings record may write (R114): PLANE, TALLY, LANE, PIN and TRIG. -/
def settingsSpan (a : Nat) : Bool :=
  a % 4 == 0 && (decide (0x80000 ≤ a ∧ a < 0xA0000) || decide (0x100000 ≤ a ∧ a < 0x180000) ||
    decide (0x580000 ≤ a ∧ a < 0x600000) || decide (0x680000 ≤ a ∧ a < 0x780000))

/-- The signature checks of R117 over a trailer and the bytes that DIGEST covers. -/
def State.signatureFault (s : State) (tr : List Byte) (hash : List Nat) : Option Nat :=
  let k := byteAt tr 72
  let pub := natBytes ((tr.drop 80).take 96)
  if 3 < k ∨ !s.fuse.keyPresent.testBit k ∨ s.fuse.keyRevoked.testBit k ∨ sha384 pub ≠ natBytes (s.fuse.keyHash.getD k []) then
    some 72
  else
    let sg := natBytes ((tr.drop 176).take 96)
    if ecdsaOk hash (beNat (pub.take 48)) (beNat (pub.drop 48)) (beNat (sg.take 48)) (beNat (sg.drop 48)) then none else some 176

/-- The checks of TRAILER in their order (R116, R117, R121): the code and the offset of the first that fails. -/
def State.trailerCheck (s : State) (l : Load) : Option (Nat × Nat) :=
  let t := l.trailerAt
  let tr := (l.raw.drop t).take 272
  let tag := natBytes ((tr.drop 8).take 16)
  let goodTag := if l.enc then
      gcmTag (natBytes s.imageKey) (natBytes ((l.header.drop 76).take 12)) (natBytes l.header)
        (natBytes (contentBytes (l.chunks + 1) l.raw 256 (l.content - 256)))
    else List.replicate 16 0
  let hash := sha384 (natBytes (l.raw.take (t + 24)))
  if tr.take 4 ≠ trailerMagic ∨ leField tr 4 4 ≠ 0 ∨ leField tr 73 7 ≠ 0 then some (lfNoTrailer, t)
  else if tag ≠ goodTag then some (lfGcm, t + 8)
  else if natBytes ((tr.drop 24).take 48) ≠ hash then some (lfDigest, t + 24)
  else if s.fuse.secureBoot then (s.signatureFault tr hash).map (fun o => (lfSignature, t + o))
  else none

/-- The needs masks of the load kept for its planes (R484). -/
def State.keepNeeds (s : State) (l : Load) : State :=
  (l.regions.zipIdx).foldl (fun s x =>
    l.planes.foldl (fun s p => { s with cfg := { s.cfg with needs := tins s.cfg.needs (8 * x.1 + p) (l.need s.imageKey x.2) } }) s) s

/-- CLOSE (R126, R128): the needs are checked again, and the planes close. -/
def State.loadClose (s : State) (l : Load) : State :=
  match s.needsFault l (s.scEdge - scLen) with
  | some a => s.failLoad l lfNeeds (storedOff a)
  | none =>
    let s := ((s.keepNeeds l).closePlanes l).closeLost l
    let s := l.regions.foldl (fun s r => s.clearStale r) s
    if l.boot ≠ 0 ∧ l.settings ≠ 0 then s.stageTo l lsApply else s.finishLoad l lrCompleted lfNone

/-- How many content bytes the next item takes; the trailer is no content. -/
def Load.itemLen (l : Load) : Nat :=
  if l.stage = lsHeader then 256
  else if l.stage = lsNeeds then (if l.idx < l.regions.length then 16 else 0)
  else if l.stage = lsDict then (if l.idx < l.dictSize then 4096 else 0)
  else if l.stage = lsStream then
    (match l.op with
      | some o => if o.kind = 1 then 4096 else 0
      | none => if l.pos < l.settingsAt then 4 else 0)
  else if l.stage = lsSettings then (if l.idx < l.settings then 8 else 0)
  else 0

/-- Where, in stored bytes, the next item ends. -/
def Load.itemEnd (l : Load) : Nat :=
  if l.stage = lsTrailer then l.declared
  else if l.itemLen = 0 then 0
  else storedOff (l.pos + l.itemLen - 1) + 1

/-- Whether the next chunk CRC comes before the next item, and where it ends. -/
def Load.nextCrc (l : Load) : Option Nat :=
  let known := l.stage != lsHeader
  let e := if known then min ((l.chunk + 1) * chunkLen) l.content else (l.chunk + 1) * chunkLen
  if known && decide (l.chunks ≤ l.chunk) then none
  else
    let stop := e + 4 * l.chunk + 4
    if l.stage = lsTrailer ∨ stop ≤ l.itemEnd ∨ (l.itemLen = 0 ∧ e ≤ l.pos) then some stop else none

/-- The CRC of the next chunk is checked (R115). -/
def State.chunkCheck (s : State) (l : Load) (stop : Nat) : State :=
  let start := l.chunk * chunkStored
  let body := (l.raw.drop start).take (stop - 4 - start)
  if crc32c body = leField l.raw (stop - 4) 4 then s.setLoad (some { l with chunk := l.chunk + 1 })
  else s.failLoad l lfChunk start

/-- The next item, whose bytes have all been read, is taken. -/
def State.loadItem (s : State) (l : Load) : State :=
  let n := l.itemLen
  let b := l.bytes s.imageKey l.pos n
  if l.stage = lsHeader then
    match s.headerCheck l with
    | some (c, o) => s.failLoad l c o
    | none => s.stageTo { l with pos := 256 } lsNeeds
  else if l.stage = lsNeeds then
    if n = 0 then s.stageTo l lsDict
    else if s.rodRetired (l.regions.getD l.idx 0 % 64) || s.needFails (l.regions.getD l.idx 0) (leField b 0 8, leField b 8 8) (s.now + 1) then
      s.failLoad l lfNeeds (storedOff l.pos)
    else s.setLoad (some { l with pos := l.pos + n, idx := l.idx + 1 })
  else if l.stage = lsDict then
    if n = 0 then s.stageTo l (if l.verify then lsStream else lsOpen)
    else if frameBad b then s.failLoad l lfFrame (storedOff l.pos)
    else (s.stageEntry l.idx b).setLoad (some { l with pos := l.pos + n, idx := l.idx + 1 })
  else if l.stage = lsOpen then s.loadOpen l
  else if l.stage = lsStream then
    match l.op with
    | some o => s.streamFrame l o b
    | none =>
      if n ≠ 0 then s.streamWord l (ofBytes b)
      else if l.frames < l.frameCount then s.failLoad l lfStream (storedOff l.settingsAt)
      else s.stageTo l lsSettings
  else if l.stage = lsSettings then
    if n = 0 then s.stageTo l lsTrailer
    else if settingsSpan (leField b 0 4) then s.setLoad (some { l with pos := l.pos + n, idx := l.idx + 1 })
    else s.failLoad l lfSettings (storedOff l.pos)
  else if l.stage = lsTrailer then
    match s.trailerCheck l with
    | some (c, o) => s.failLoad l c o
    | none => if l.verify then s.finishLoad l lrCompleted lfNone else s.stageTo l lsClose
  else s.loadClose l

/-! ### Reading (R123) -/

/-- An image-store word. -/
def State.imageWord (s : State) (k : Nat) : Word64 := tget Config.storeImage s.cfg.image k

/-- `n` bytes of a slot from offset `off`. -/
def State.slotBytes (s : State) (slot off n : Nat) : List Byte :=
  bytesOfWords off n (fun w => s.imageWord (slot * 2 ^ 22 + w))

/-- The loader reads on: at once from a slot, and by one request of up to 128 bytes from memory; at the end of the source it fails
with EARLY_END. Bytes beyond DECLARED_LENGTH are not read, so that HEADER, which learns it, reads 256 bytes (R121). -/
def State.loadRead (s : State) (l : Load) : State :=
  let have_ := l.raw.length
  let stop := min l.limit (if l.stage = lsHeader then 256 else l.declared)
  if stop ≤ have_ then s.failLoad l lfEarly have_
  else match l.slot with
    | some k => s.setLoad (some { l with raw := l.raw ++ s.slotBytes k have_ (min 8000 (stop - have_)) })
    | none =>
      if l.asked then s
      else (s.setLoad (some { l with asked := true })).accept srcLoader 0 0 .read (l.base + have_)
        (min 128 (stop - have_)) [] [] none tagLoad

/-- What an item costs of the beam's write time in sc (R133). -/
def Load.cost (l : Load) : Nat :=
  match l.op with
  | some o => if o.kind = 3 then 8 else 48
  | none => 0

/-- Up to `fuel` items, as far as the bytes read and the beam's time in this step allow (R120, R133). -/
def State.loadRun : Nat → Nat → State → State
  | 0, _, s => s
  | fuel + 1, budget, s =>
    match s.cfg.load with
    | none => s
    | some l =>
      if l.stage = lsApply ∨ budget < l.cost then s
      else match l.nextCrc with
        | some stop => if stop ≤ l.raw.length then State.loadRun fuel budget (s.chunkCheck l stop) else s
        | none =>
          if l.itemEnd ≤ l.raw.length then State.loadRun fuel (budget - l.cost) (s.loadItem l) else s

/-- One step of the loader: it takes what it has read, then reads on (R120, R121). -/
def State.loadStep (s : State) : State :=
  let s := State.loadRun 2048 1600 s
  match s.cfg.load with
  | none => s
  | some l =>
    let need := match l.nextCrc with
      | some stop => stop
      | none => l.itemEnd
    if l.stage ≠ lsApply ∧ l.raw.length < need then s.loadRead l else s

/-- A source read is answered (R123): data, or SOURCE for a code from 0x2 to 0xB. -/
def State.loadAnswer_ (s : State) (d : Delivered) : State :=
  match s.cfg.load with
  | none => s
  | some l =>
    if !l.asked then s
    else if isErr d.code ∨ d.code = rPoison then s.failLoad l lfSource l.raw.length
    else (s.setLoad (some { l with asked := false, raw := l.raw ++ d.bytes })).loadStep

/-- The fence after a settings record has completed (R129); after the last one the load is complete. -/
def State.applyFence (s : State) : State :=
  match s.cfg.load with
  | none => s
  | some l =>
    if l.stage ≠ lsApply ∨ !l.wait then s
    else if l.idx + 1 < l.settings then s.setLoad (some { l with idx := l.idx + 1, wait := false })
    else s.finishLoad l lrCompleted lfNone

/-- APPLY issues its next record: a posted write of 4 bytes and a fence that covers it (R129). -/
def State.applyNext (s : State) : State :=
  match s.cfg.load with
  | none => s
  | some l =>
    if l.stage ≠ lsApply ∨ l.wait then s
    else
      let b := l.bytes s.imageKey (l.settingsAt + 8 * l.idx) 8
      let dev := s.fld Reg.DEV_BOARD Fld.DEV_BOARD_DEVNUM * 2 ^ 48
      let s := s.setLoad (some { l with wait := true })
      let s := s.accept srcLoader 0 0 .write (dev + ctlBase + leField b 0 4) 4 (b.drop 4) [false] none tagApply
      s.acceptFence srcLoader 0 0 allStreams [0] true tagApply

/-- The address of the image in device memory, in this device (R119). -/
def State.srcAddr (s : State) (lo hi : Nat) : Nat :=
  s.fld Reg.DEV_BOARD Fld.DEV_BOARD_DEVNUM * 2 ^ 48 + (s.reg lo).toNat / 128 * 128 + (s.reg hi).toNat % 2 ^ 16 * 2 ^ 32

/-! ### GO and CANCEL (R119, R130, R132) -/

/-- The modes in which a GO starts a load. -/
def State.loadMode (s : State) : Bool :=
  [modeService, modeRun, modePaired, modeDegraded, modeQuiesce].contains s.mode

/-- CFG_LOAD_CTL.GO; the other fields of the word have been written. Where several objections of R119 hold at one GO the spec does not say which
is recorded: BUSY comes before MODE, and MODE before RESET (DESIGN CHOICE: log entry 91). -/
def State.loadGo (s : State) : State :=
  let a := Reg.CFG_LOAD_CTL
  let slot := s.fld a Fld.CFG_LOAD_CTL_SLOT
  let mem := !s.bit a Fld.CFG_LOAD_CTL_SRC
  let busyStore := !mem && s.cfg.store.any (fun o => o.write && o.slot == slot)
  if s.cfg.load.isSome ∨ busyStore then s.loadRecord lrNotStarted lfBusy
  else if !s.loadMode then s.loadRecord lrNotStarted lfMode
  else if s.beamReset then s.loadRecord lrNotStarted lfReset
  else
    let s := (s.setFld Reg.CFG_LOAD_STATUS Fld.CFG_LOAD_STATUS_BUSY 1).setFld Reg.CFG_LOAD_STATUS Fld.CFG_LOAD_STATUS_STATE lsHeader
    let s := s.setReg Reg.CFG_LOAD_PROGRESS 0
    s.setLoad (some ⟨s.bit a Fld.CFG_LOAD_CTL_VERIFY, 0, if mem then none else some slot, s.srcAddr Reg.CFG_LOAD_SRC_LO Reg.CFG_LOAD_SRC_HI,
      if mem then (s.reg Reg.CFG_LOAD_LEN).toNat else 2 ^ 25, [], false, lsHeader, 0, 0, 0, none, [], 0, false, false⟩)

/-- CFG_LOAD_CTL.CANCEL: it ends a load before its CLOSE edge (R130). -/
def State.loadCancel (s : State) : State :=
  match s.cfg.load with
  | none => s
  | some l => if l.stage = lsApply then s else s.failLoad l lfCancel l.raw.length

/-- A beam reset ends the load (R131): RESET, ABORTED; the planes are INVALID by the reset itself. -/
def State.loadBeamReset (s : State) : State :=
  match s.cfg.load with
  | none => s
  | some l => (s.setReg Reg.CFG_LOAD_FAIL_OFFSET (BitVec.ofNat 32 l.raw.length)).finishLoad l lrAborted lfReset

/-- A write of CFG_LOAD_CTL: the fields that keep their value, CANCEL, then GO. With both 1 the spec gives no order: the running load is cancelled,
and the GO then finds none (DESIGN CHOICE: log entry 91). -/
def State.loadCtlWrite (s : State) (v : Nat) : State :=
  let s := s.setReg Reg.CFG_LOAD_CTL (BitVec.ofNat 32 (v &&& 0x701))
  let s := if v.testBit 30 then s.loadCancel else s
  if v.testBit 31 then s.loadGo else s

end Sys2Proof.Machine
end

