-- ==== Sys2Proof/Machine/Store.lean ====
section
/-!
DEFINITION. The image store and its commands (R135–R139), the boot selection (R140), the settings records of APPLY (R129), the
responses that the loader's interface takes, and the root firmware's UNLOCK_GOLDEN (R136, R233).
-/
namespace Sys2Proof.Machine


/-! ### Outcomes (R143, CFG_STORE_STATUS) -/

def soDone : Nat := 0
def soProtected : Nat := 1
def soWorn : Nat := 2
def soRange : Nat := 3
def soBusy : Nat := 4
def soSlotInUse : Nat := 5
def soSource : Nat := 6
def soDest : Nat := 7

/-- A slot and a unit of the store, in bytes. -/
def slotSize : Nat := 2 ^ 25
def storeUnit : Nat := 4096

def State.setStore (s : State) (o : Option StoreOp) : State := { s with cfg := { s.cfg with store := o } }

/-- DONE, OUTCOME, and CFG_INT_STATUS.STORE (R145). -/
def State.storeRecord (s : State) (outcome : Nat) : State :=
  let a := Reg.CFG_STORE_STATUS
  ((s.setFld a Fld.CFG_STORE_STATUS_DONE 1).setFld a Fld.CFG_STORE_STATUS_OUTCOME outcome).setFld
    Reg.CFG_INT_STATUS Fld.CFG_INT_STATUS_STORE 1

/-- CFG_STORE_GOLDEN.UNLOCK clears at a WRITE that names slot 0 (R136). -/
def State.lockGolden (s : State) (write : Bool) (slot : Nat) : State :=
  if write && slot == 0 then s.setFld Reg.CFG_STORE_GOLDEN Fld.CFG_STORE_GOLDEN_UNLOCK 0 else s

/-- UNLOCK clears at any reset (R136). -/
def State.lockStore (s : State) : State := s.setFld Reg.CFG_STORE_GOLDEN Fld.CFG_STORE_GOLDEN_UNLOCK 0

/-- A store command ends. -/
def State.storeEnd (s : State) (o : StoreOp) (outcome : Nat) : State :=
  let s := (s.setStore none).setFld Reg.CFG_STORE_STATUS Fld.CFG_STORE_STATUS_BUSY 0
  (s.storeRecord outcome).lockGolden o.write o.slot

def State.writeCount (s : State) (slot : Nat) : Nat := tget (fun _ => 0) s.cfg.wcount slot

/-- 10,000 (R138). -/
def wornCount : Nat := 10000

/-- An accepted WRITE counts (R138). -/
def State.countWrite (s : State) (slot : Nat) : State :=
  let n := s.writeCount slot + 1
  let s := { s with cfg := { s.cfg with wcount := tput (fun _ => 0) s.cfg.wcount slot n } }
  if n = wornCount then s.setFld Reg.CFG_INT_STATUS Fld.CFG_INT_STATUS_WORN 1 else s

/-- Whether the loader reads slot `slot` now. -/
def State.loaderReads (s : State) (slot : Nat) : Bool :=
  match s.cfg.load with
  | some l => l.slot == some slot && decide (l.stage ≤ lsTrailer)
  | none => false

/-- The refusal of a store command, in the order of R137. -/
def State.storeRefusal (s : State) (op slot off len : Nat) : Option Nat :=
  if s.cfg.store.isSome then some soBusy
  else if 2 ≤ op ∨ len = 0 ∨ slotSize < (off + len) * storeUnit then some soRange
  else if op = 1 ∧ slot = 0 ∧ s.fuse.protected_ ∧ !s.bit Reg.CFG_STORE_GOLDEN Fld.CFG_STORE_GOLDEN_UNLOCK then some soProtected
  else if op = 1 ∧ wornCount ≤ s.writeCount slot then some soWorn
  else if op = 1 ∧ s.loaderReads slot then some soSlotInUse
  else none

/-- CFG_STORE_CTL.GO; OP and SLOT have been written. -/
def State.storeGo (s : State) : State :=
  let a := Reg.CFG_STORE_CTL
  let op := s.fld a Fld.CFG_STORE_CTL_OP
  let slot := s.fld a Fld.CFG_STORE_CTL_SLOT
  let off := s.fld Reg.CFG_STORE_OFFSET Fld.CFG_STORE_OFFSET_OFFSET
  let len := s.fld Reg.CFG_STORE_LEN Fld.CFG_STORE_LEN_LEN
  match s.storeRefusal op slot off len with
  | some c => (s.storeRecord c).lockGolden (op == 1) slot
  | none =>
    let s := if op = 1 then s.countWrite slot else s
    let s := (s.setFld Reg.CFG_STORE_STATUS Fld.CFG_STORE_STATUS_BUSY 1).setFld Reg.CFG_STORE_STATUS Fld.CFG_STORE_STATUS_PROGRESS 0
    s.setStore (some ⟨op == 1, slot, off * storeUnit, s.srcAddr Reg.CFG_STORE_ADDR_LO Reg.CFG_STORE_ADDR_HI, len, [], false, false⟩)

/-- A write of CFG_STORE_CTL. -/
def State.storeCtlWrite (s : State) (v : Nat) : State :=
  let s := s.setReg Reg.CFG_STORE_CTL (BitVec.ofNat 32 (v &&& 0x303))
  if v.testBit 31 then s.storeGo else s

/-! ### Moving units (R139) -/

/-- The tags of the store's requests: request `i` of a unit at `tagStore + i`, and the fence after a unit's writes. -/
def tagStore : Nat := 100
def tagStoreFence : Nat := 99

/-- The requests of the next unit: 32 of 128 bytes; after the writes of a READ, a fence that tells when they have been performed. -/
def State.storeIssue (s : State) (o : StoreOp) : State :=
  let s := s.setStore (some { o with issued := true, got := [] })
  if o.write then
    (List.range 32).foldl (fun s i => s.accept srcLoader 0 0 .read (o.addr + 128 * i) 128 [] [] none (tagStore + i)) s
  else
    let s := (List.range 32).foldl (fun s i => s.accept srcLoader 0 0 .write (o.addr + 128 * i) 128
      (s.slotBytes o.slot (o.off + 128 * i) 128) (List.replicate 16 false) none (tagStore + i)) s
    s.acceptFence srcLoader 0 0 allStreams [0] true tagStoreFence

/-- One sequencer step of the store: the next unit's requests go out. A power-fail interval starts no new unit of a write (R521). -/
def State.storeStep (s : State) : State :=
  match s.cfg.store with
  | none => s
  | some o => if o.issued || (o.write && s.pwr.failAt.isSome) then s else s.storeIssue o

/-- A unit has been moved. -/
def State.storeMoved (s : State) (o : StoreOp) : State :=
  let s := s.bump Reg.CFG_STORE_STATUS Fld.CFG_STORE_STATUS_PROGRESS 1
  let o := { o with off := o.off + storeUnit, addr := o.addr + storeUnit, left := o.left - 1, got := [], issued := false }
  if o.left = 0 then s.storeEnd o soDone else s.setStore (some o)

/-- A unit read from memory goes into the slot. -/
def State.storeWords (s : State) (o : StoreOp) : State :=
  let data := o.got.flatMap (·.2)
  let base := o.slot * 2 ^ 22 + o.off / 8
  (List.range 512).foldl (fun s i => { s with cfg := { s.cfg with
    image := tput Config.storeImage s.cfg.image (base + i) (BitVec.ofNat 64 (ofBytes ((data.drop (8 * i)).take 8))) } }) s

/-- A response for the store. A WRITE's source read: once all 32 have answered, the unit goes to the slot, or the command stops with
SOURCE. A READ's failed write, and the fence after it: DEST, or the next unit. -/
def State.storeAnswer (s : State) (d : Delivered) : State :=
  match s.cfg.store with
  | none => s
  | some o =>
    if !o.issued then s
    else if o.write then
      if d.kind ≠ .read then s
      else
        let bad := isErr d.code || d.code == rPoison
        let o := { o with got := tins o.got (d.tag - tagStore) d.bytes, fail := o.fail || bad }
        if o.got.length < 32 then s.setStore (some o)
        else if o.fail then s.storeEnd o soSource else (s.storeWords o).storeMoved o
    else if d.kind = .fence then
      if o.fail ∨ isErr d.code then s.storeEnd o soDest else s.storeMoved o
    else s.setStore (some { o with fail := true })

/-! ### The loader's interface (R123, R129, R137) -/

/-- The responses chosen by `mine` leave the inbox, oldest first, each taken by `f`. -/
def State.takeInbox (s : State) (mine : Delivered → Bool) (f : State → Delivered → State) : State :=
  let l := s.noc.inbox.filter mine
  l.foldl f { s with noc := { s.noc with inbox := s.noc.inbox.filter (fun d => !mine d) } }

/-- A response of SRC 0xC2, taken by the load or the store command that asked for it. -/
def State.loaderTake (s : State) (d : Delivered) : State :=
  if d.tag = tagLoad then s.loadAnswer_ d
  else if d.tag = tagApply then (if d.kind = .fence then s.applyFence else s)
  else if d.tag = tagEnded then s else s.storeAnswer d

/-- The loader's interface takes what it has. -/
def State.loaderInbox (s : State) : State := s.takeInbox (fun d => d.src == srcLoader) State.loaderTake

/-! ### UNLOCK_GOLDEN (R136, R233) -/

/-- The address of the block that the command names. -/
def State.unlockAddr (s : State) (arg : Nat) : Nat := s.fld Reg.DEV_BOARD Fld.DEV_BOARD_DEVNUM * 2 ^ 48 + 128 * arg

/-- The outcome of UNLOCK_GOLDEN on a block that has been read, against the kept nonce. -/
def State.unlockOutcome (s : State) (nonce : Word32) (b : List Byte) : Nat :=
  let k := byteAt b 4
  let pub := natBytes ((b.drop 104).take 96)
  let hash := sha384 (leBytes 8 s.fuse.serial ++ leBytes 4 nonce.toNat ++ [2])
  let sg := natBytes ((b.drop 8).take 96)
  if leField b 0 4 ≠ nonce.toNat then mbBadNonce
  else if 3 < k ∨ leField b 5 3 ≠ 0 ∨ !s.fuse.keyPresent.testBit k ∨ s.fuse.keyRevoked.testBit k ∨
      sha384 pub ≠ natBytes (s.fuse.keyHash.getD k []) then mbBadSig
  else if ecdsaOk hash (beNat (pub.take 48)) (beNat (pub.drop 48)) (beNat (sg.take 48)) (beNat (sg.drop 48)) then mbOK else mbBadSig

/-- The firmware answers UNLOCK_GOLDEN and forgets the nonce. -/
def State.unlockAnswer (s : State) (outcome : Nat) : State :=
  let s := if outcome = mbOK then s.setFld Reg.CFG_STORE_GOLDEN Fld.CFG_STORE_GOLDEN_UNLOCK 1 else s
  { s with nonce := none }.mboxAnswer 2 outcome

/-- UNLOCK_GOLDEN: the firmware reads the block by two requests of engine 0, and judges it once both have answered. -/
def State.unlockGolden (s : State) : State :=
  match s.mboxCommand with
  | none => s
  | some (cmd, arg) =>
    if cmd ≠ 2 then s
    else match s.nonce with
      | none => s.unlockAnswer mbBadNonce
      | some nonce =>
        let a := s.unlockAddr arg
        let mine (d : Delivered) : Bool := d.src == 0 && d.tag == tagFirmware
        let got := s.noc.inbox.filter mine
        if s.noc.reqs.any (fun r => r.src == 0 && r.tag == tagFirmware && !r.done) then s
        else match got.find? (fun d => d.addr == a), got.find? (fun d => d.addr == a + 128) with
          | some d0, some d1 =>
            let s := { s with noc := { s.noc with inbox := s.noc.inbox.filter (fun d => !mine d) } }
            if isErr d0.code ∨ isErr d1.code ∨ d0.code = rPoison ∨ d1.code = rPoison then s.unlockAnswer mbRead
            else s.unlockAnswer (s.unlockOutcome nonce (d0.bytes ++ d1.bytes))
          | _, _ =>
            let s := { s with noc := { s.noc with inbox := s.noc.inbox.filter (fun d => !mine d) } }
            (s.accept 0 0 0 .read a 128 [] [] none tagFirmware).accept 0 0 0 .read (a + 128) 72 [] [] none tagFirmware

/-! ### Boot selection (R140) -/

/-- A write of CFG_BOOT_SEL goes to the system area. -/
def State.bootSelWrite (s : State) (v : Nat) : State :=
  { s with cfg := { s.cfg with bootSel := BitVec.ofNat 32 (v &&& 0x383) } }

/-- LOAD is entered (R140): the boot load begins from the slot that CFG_BOOT_SEL names, and NEXT_VALID clears. -/
def State.enterLoad (s : State) : State :=
  let b := s.cfg.bootSel.toNat
  let s := (s.setReg Reg.CFG_BOOT_LOG 0).setMode modeLoad
  if b.testBit 7 then
    { s with cfg := { s.cfg with bootSel := s.cfg.bootSel &&& 0x303 } }.startBoot 1 (b / 256 % 4)
  else s.startBoot 1 (b % 4)

/-! ### The commands -/

/-- UNLOCK written. -/
def State.goldenSet (s : State) (v : Nat) : State := s.setFld Reg.CFG_STORE_GOLDEN Fld.CFG_STORE_GOLDEN_UNLOCK (v / 2)

/-- A write of CFG_STORE_GOLDEN: UNLOCK is written by the secure domain alone (R136, R4 RWO). -/
def State.goldenWrite (s : State) (src v : Nat) : State :=
  s.ctlWrite src Reg.CFG_STORE_GOLDEN (fun s => if src ≠ 0 then s else s.goldenSet v)

end Sys2Proof.Machine
end

