-- ==== Sys2Proof/Machine/Dma.lean ====
section
/-!
DEFINITION. The host controller's shared operations (chapter 14): what it sends, errors and MSI-X (R382, R384, R388, R402), the completion
queues (R400, R401) and the DMA channels (R396).
-/
namespace Sys2Proof.Machine

def HostQ.idle : HostQ := ⟨[], 0, [], [], []⟩
def Dma.idle : Dma := ⟨none, [], 63⟩

def State.mapHost (s : State) (f : HostIf → HostIf) : State := { s with host := f s.host }
def State.hostQ (s : State) (q : Nat) : HostQ := tget (fun _ => HostQ.idle) s.host.q q
def State.setHostQ (s : State) (q : Nat) (x : HostQ) : State :=
  s.mapHost (fun h => { h with q := tput (fun _ => HostQ.idle) h.q q x })
def State.mapHostQ (s : State) (q : Nat) (f : HostQ → HostQ) : State := s.setHostQ q (f (s.hostQ q))
def State.dma (s : State) (d : Nat) : Dma := tget (fun _ => Dma.idle) s.host.dma d
def State.setDma (s : State) (d : Nat) (x : Dma) : State := s.mapHost (fun h => { h with dma := tput (fun _ => Dma.idle) h.dma d x })
def State.mapDma (s : State) (d : Nat) (f : Dma → Dma) : State := s.setDma d (f (s.dma d))

/-! ### Codes -/

/-- HSTAT (R400). -/
def hsDone : Nat := 0
def hsBadOp : Nat := 1
def hsBadArg : Nat := 2
def hsTimeout : Nat := 3
def hsHostErr : Nat := 4
def hsAborted : Nat := 5
def hsDevErr : Nat := 6

/-- Completion status of a TLP. -/
def csSuccess : Nat := 0
def csUnsupported : Nat := 1
def csAbort : Nat := 2

/-- HOST_Q_STATUS.STATE (R390). -/
def hqDisabled : Nat := 0
def hqActive : Nat := 1
def hqDraining : Nat := 2
def hqError : Nat := 3

/-- HOST_ERR_LOG.KIND (R407). -/
def heBar0Read : Nat := 0
def heBar2Read : Nat := 1
def heEpWrite : Nat := 2
def heHostMem : Nat := 3
def heLinkDown : Nat := 4
def heBar0Write : Nat := 5

/-- Bits of AER's uncorrectable error status in the base specification. -/
def aerPoisoned : Word32 := 0x00001000
def aerUnsupported : Word32 := 0x00100000

/-! ### Sending and errors -/

/-- An error recorded in HOST_ERR_LOG. -/
def State.hostErr (s : State) (kind code : Nat) : State :=
  s.logEvent Reg.HOST_ERR_LOG s.now 0 (BitVec.ofNat 32 (kind * 2 ^ 8 + code)) [] none

def State.aer (s : State) (b : Word32) : State := s.mapHost (fun h => { h with aer := h.aer ||| b })

/-- The payload of a TLP. -/
def HostTlp.payload : HostTlp → List Byte
  | .write _ b _ => b
  | .cpl _ _ _ b _ => b
  | .cfg v => toBytes 4 v.toNat
  | .msix _ v => toBytes 4 v.toNat
  | .read _ _ _ _ _ => []

/-- A TLP sent to the host; while the link is down it is discarded and counted (R406). -/
def State.sendHost (s : State) (p : HostTlp) : State :=
  if s.host.up then (s.mapHost (fun h => { h with sent := h.sent ++ [p] })).pairLog (.tlp p.payload) else s.hostErr heLinkDown 0

/-! ### MSI-X (R389, R402) -/

/-- An unlisted word of the MSI-X table is zero, but for the mask bit of vector control. -/
def msixReset (k : Nat) : Word32 := if k % 4 = 3 then 1 else 0
def State.msixWord (s : State) (v i : Nat) : Word32 := tget msixReset s.host.msix (4 * v + i)

/-- Whether vector `v` is masked. -/
def State.msixMasked (s : State) (v : Nat) : Bool := s.host.msixMask || (s.msixWord v 3).getLsbD 0

/-- The message of vector `v`. -/
def State.msixSend (s : State) (v : Nat) : State :=
  s.sendHost (.msix ((s.msixWord v 0).toNat + (s.msixWord v 1).toNat * 2 ^ 32) (s.msixWord v 2))

/-- Vector `v` is signalled; a masked one is kept pending. -/
def State.msixSignal (s : State) (v : Nat) : State :=
  if !s.host.msixEn then s
  else if s.msixMasked v then s.mapHost (fun h => { h with pba := if h.pba.contains v then h.pba else h.pba ++ [v] })
  else s.msixSend v

/-- Pending vectors that are no longer masked are sent. -/
def State.msixFlush (s : State) : State :=
  (s.host.pba.filter (fun v => !s.msixMasked v)).foldl (fun s v =>
    (s.mapHost (fun h => { h with pba := h.pba.filter (fun x => x != v) })).msixSend v) s

/-! ### Queues and completions (R390, R400, R401) -/

def State.hqState (s : State) (q : Nat) : Nat := s.fld (Reg.HOST_Q_STATUS q) Fld.HOST_Q_STATUS_STATE
def State.setHqState (s : State) (q v : Nat) : State := s.setFld (Reg.HOST_Q_STATUS q) Fld.HOST_Q_STATUS_STATE v
def State.sqSize (s : State) (q : Nat) : Nat := 2 ^ s.fld (Reg.HOST_Q_CFG q) Fld.HOST_Q_CFG_SIZE
def State.cqSize (s : State) (q : Nat) : Nat := 2 ^ s.fld (Reg.HOST_CQ_CFG q) Fld.HOST_CQ_CFG_SIZE

/-- The descriptor at ring index `idx` of queue `q` completes: its entry is owed. -/
def State.oweEntry (s : State) (q idx tag : Nat) (irq : Bool) (hstat code result : Nat) : State :=
  let head := (idx + 1) % s.sqSize q
  let s := s.mapHostQ q (fun x => { x with
    runs := x.runs.filter (fun r => r.idx != idx)
    owed := x.owed ++ [⟨tag, head, hstat, code, result, irq⟩] })
  s.setFld (Reg.HOST_Q_STATUS q) Fld.HOST_Q_STATUS_HEAD head

/-- The tags of the sequencer's requests for queue `q`, and one that nothing waits for. -/
def tagSeqPoll (q : Nat) : Nat := 100 + q
def tagSeqCreate (q : Nat) : Nat := 200 + q
def tagSeqWrite (q : Nat) : Nat := 300 + q
def tagStray : Nat := 9999

/-- What queue `q` has outstanding in the sequencer is no longer waited for. -/
def State.disownSeq (s : State) (q : Nat) : State :=
  s.disown (fun src tag => src == srcSeq && (tag == tagSeqPoll q || tag == tagSeqCreate q || tag == tagSeqWrite q)) tagStray

/-- A running descriptor ends. -/
def State.endRun (s : State) (q : Nat) (r : Run) (hstat code result : Nat) : State := s.oweEntry q r.idx r.tag r.irq hstat code result

/-- Whether writing the next entry would make the completion ring full (R401). -/
def State.cqFull (s : State) (q : Nat) : Bool :=
  let a := Reg.HOST_CQ_STATUS q
  (s.fld a Fld.HOST_CQ_STATUS_TAIL + 1) % s.cqSize q == s.fld a Fld.HOST_CQ_STATUS_HEAD

/-- FULL follows the ring while an entry waits. -/
def State.showFull (s : State) (q : Nat) : State :=
  s.setFld (Reg.HOST_CQ_STATUS q) Fld.HOST_CQ_STATUS_FULL (b2n (!(s.hostQ q).owed.isEmpty && s.cqFull q))

/-- The 16 bytes of an entry (R400). -/
def CqEntry.bytes (e : CqEntry) (phase : Nat) : List Byte :=
  toBytes 4 e.tag ++ toBytes 2 e.head ++ [BitVec.ofNat 8 e.hstat, BitVec.ofNat 8 (e.code + 128 * phase)] ++ toBytes 8 e.result

/-- The oldest owed entry is written, and signalled (R401, R402). -/
def State.completionWrite (s : State) (q : Nat) : State :=
  match (s.hostQ q).owed with
  | [] => s
  | e :: rest =>
    if s.cqFull q ∧ s.host.up then s.showFull q
    else
      let a := Reg.HOST_CQ_STATUS q
      let i := s.fld a Fld.HOST_CQ_STATUS_TAIL
      let p := s.fld a Fld.HOST_CQ_STATUS_PHASE
      let base := (s.reg (Reg.HOST_CQ_BASE_LO q)).toNat + (s.reg (Reg.HOST_CQ_BASE_HI q)).toNat * 2 ^ 32
      let s := s.sendHost (.write (base + 16 * i) (e.bytes p) false)
      let s := s.mapHostQ q (fun x => { x with owed := rest })
      let i' := (i + 1) % s.cqSize q
      let s := s.setFld a Fld.HOST_CQ_STATUS_TAIL i'
      let s := if i' = 0 then s.setFld a Fld.HOST_CQ_STATUS_PHASE (1 - p) else s
      let s := s.showFull q
      let c := Reg.HOST_CQ_CFG q
      if s.host.up && (e.irq || s.bit c Fld.HOST_CQ_CFG_IRQ_ALL) then s.msixSignal (s.fld c Fld.HOST_CQ_CFG_VECTOR) else s

/-! ### DMA channels (R396) -/

def tagDmaRead : Nat := 1
def tagDmaWrite : Nat := 2
def tagDmaFence : Nat := 3

/-- The next copy of the channel: its queues in turn, each queue's copies in order. -/
def nextCopy (last : Nat) (w : List Copy) : Option Copy :=
  (List.range 64).findSome? (fun k => w.find? (fun c => c.q == (last + 1 + k) % 64))

def State.setCopy (s : State) (d : Nat) (c : Copy) : State := s.mapDma d (fun x => { x with run := some c })

/-- The end of a copy: it completes a fence over its streams. -/
def State.copyFence (s : State) (d : Nat) (c : Copy) : State :=
  (s.setCopy d { c with fenced := true }).acceptFence (srcDma d) 0 0 allStreams [0] true tagDmaFence

/-- The next step of the copy that runs: its end, or its next read of up to 256 bytes. -/
def State.copyStep (s : State) (d : Nat) (c : Copy) : State :=
  if c.asked || c.fenced then s.setCopy d c
  else if c.ended.isSome then s.copyFence d c
  else if c.abort then s.copyFence d { c with ended := some (hsAborted, 0) }
  else if c.len ≤ c.pos then s.copyFence d { c with ended := some (hsDone, 0) }
  else
    let a := c.src + c.pos
    let n := min (c.len - c.pos) (256 - a % 256)
    let s := s.setCopy d { c with asked := true }
    if c.srcHost then s.sendHost (.read 1 d 0 a n)
    else s.accept (srcDma d) 0 0 .read a n [] [] c.key tagDmaRead

/-- The channel runs on: with its copy, or with the next that waits. -/
def State.dmaStep (s : State) (d : Nat) : State :=
  let x := s.dma d
  match x.run with
  | some c => s.copyStep d c
  | none =>
    match nextCopy x.last x.wait with
    | none => s
    | some c => (s.setDma d ⟨some c, x.wait.erase c, c.q⟩).copyStep d c

/-- A copy fails: the first failure stands. -/
def Copy.fail (c : Copy) (hstat code : Nat) : Copy := { c with ended := some (c.ended.getD (hstat, code)) }

/-- A write split as R260 and R349 require: pieces of up to 128 bytes that do not cross a 128-byte boundary, a keyed piece of more than 112
bytes cut after its first 64. -/
def writePieces (keyed : Bool) : Nat → Nat → Nat → List (Nat × Nat)
  | 0, _, _ => []
  | fuel + 1, a, n =>
    if n = 0 then []
    else
      let k := min n (128 - a % 128)
      (if keyed && decide (112 < k) then [(a, 64), (a + 64, k - 64)] else [(a, k)]) ++ writePieces keyed fuel (a + k) (n - k)

/-- Bytes with a mark each, from the marks of the 64-bit words that hold them. -/
def markBytes (a : Nat) (bytes : List Byte) (marks : List Bool) : List (Byte × Bool) :=
  bytes.zipIdx.map (fun p => (p.1, marks.getD ((a + p.2) / 8 - a / 8) false))

/-- The mark of each 64-bit word of a write at `a`: set where the word takes a marked byte. -/
def wordMarks (a : Nat) (l : List (Byte × Bool)) : List Bool :=
  (wordSpan a l.length).map (fun w => l.zipIdx.any (fun p => p.1.2 && (a + p.2) / 8 == w))

/-- The bytes of an answered read are written on. -/
def State.copyWrite (s : State) (d : Nat) (c : Copy) (l : List (Byte × Bool)) : State :=
  let a := c.dst + c.pos
  let s := s.setCopy d { c with asked := false, pos := c.pos + l.length, done := c.done + l.length }
  (writePieces c.key.isSome (l.length + 1) a l.length).foldl (fun s p =>
    let b := (l.drop (p.1 - a)).take p.2
    if c.dstHost then s.sendHost (.write p.1 (b.map (·.1)) (b.any (·.2)))
    else s.accept (srcDma d) 0 0 .write p.1 p.2 (b.map (·.1)) (wordMarks p.1 b) c.key tagDmaWrite) s

/-- A read of the copy is answered with data. -/
def State.copyData (s : State) (d : Nat) (l : List (Byte × Bool)) : State :=
  match (s.dma d).run with
  | none => s
  | some c =>
    if !c.asked then s
    else if c.abort || c.ended.isSome then (s.setCopy d { c with asked := false }).dmaStep d
    else (s.copyWrite d c l).dmaStep d

/-- A read or write of the copy fails. -/
def State.copyFail (s : State) (d hstat code : Nat) (read : Bool) (at_ : Option Nat) : State :=
  match (s.dma d).run with
  | none => s
  | some c =>
    let c := { c.fail hstat code with asked := c.asked && !read, done := match at_ with
      | some a => min c.done (a - c.dst)
      | none => c.done }
    (s.setCopy d c).dmaStep d

/-- A response of a DMA channel (R396): data, a failure, or its fence. -/
def State.dmaTake (s : State) (d : Nat) (r : Delivered) : State :=
  if r.tag = tagDmaFence then
    s.mapDma d (fun x => { x with run := x.run.map (fun c => { c with closed := true }) })
  else if r.kind = .read then
    if isErr r.code then s.copyFail d hsDevErr r.code true none else s.copyData d (markBytes r.addr r.bytes r.marks)
  else if isErr r.code then s.copyFail d hsDevErr r.code false (some r.addr)
  else s

/-- The responses that wait for the DMA channels. -/
def State.dmaInbox (s : State) : State :=
  s.takeInbox (fun r => decide (0xD0 ≤ r.src ∧ r.src ≤ 0xDF)) (fun s r => s.dmaTake (r.src - 0xD0) r)

/-- A read of host memory for a channel is completed (R388, R396): `status` 0 data, 1 Unsupported Request, 2 Completer Abort, 3 EP. -/
def State.dmaHostData (s : State) (d status : Nat) (bytes : List Byte) : State :=
  match (s.dma d).run with
  | none => s
  | some c =>
    if !c.asked || !c.srcHost then s
    else if status = 0 then s.copyData d (bytes.map (fun b => (b, false)))
    else (s.hostErr heHostMem 0).copyFail d hsHostErr 0 true none

/-- The queue number of a copy whose queue is DISABLED: no completion is owed for it. -/
def noQueue : Nat := 64

/-- The source of DMA completion tokens (R155). -/
def srcDmaToken : Nat := 256

/-- A copy whose fence has completed (R396): its token enters the queue, then its completion is owed, and the next copy starts. -/
def State.copyComplete (s : State) (d : Nat) : State :=
  match (s.dma d).run with
  | none => s
  | some c =>
    if !c.closed then s
    else
      let e := c.ended.getD (hsDone, 0)
      let fin (s : State) : State :=
        let irq := ((s.hostQ c.q).runs.find? (fun r => r.idx == c.idx)).any (·.irq)
        let s := s.mapDma d (fun x => { x with run := none })
        let s := if c.q = noQueue then s else s.oweEntry c.q c.idx c.tag irq e.1 (if e.1 = hsDevErr then e.2 else 0) c.done
        s.dmaStep d
      match c.token with
      | none => fin s
      | some (h, slot) =>
        if s.queueFull srcDmaToken then s
        else fin (s.pushToken srcDmaToken ⟨h, slot, BitVec.ofNat 64 (c.tag + e.2 * 2 ^ 32 + e.1 * 2 ^ 36), false⟩)

/-- Copies of queues that `p` names end with ABORTED: at the next request boundary of the one that runs (R406); one that waits, at once, or
in its turn behind a copy of its queue that runs, since completions are owed in ring order (R401). -/
def State.abortCopies (s : State) (p : Nat → Bool) : State :=
  (List.range 16).foldl (fun s d =>
    let x := s.dma d
    let behind (c : Copy) : Bool := x.run.any (fun r => r.q == c.q)
    let s := (x.wait.filter (fun c => p c.q && !behind c)).foldl (fun s c => s.oweEntry c.q c.idx c.tag
      (((s.hostQ c.q).runs.find? (fun r => r.idx == c.idx)).any (·.irq)) hsAborted 0 0) s
    let stop (c : Copy) : Copy := if p c.q then { c with abort := true } else c
    let s := s.mapDma d (fun x => { x with wait := (x.wait.filter (fun c => !p c.q || behind c)).map stop, run := x.run.map stop })
    match x.run with
    | some c => if p c.q then s.dmaStep d else s
    | none => s) s

/-- No completion is owed any more for the copies of queue `q`. -/
def State.orphanCopies (s : State) (q : Nat) : State :=
  (List.range 16).foldl (fun s d => s.mapDma d (fun x =>
    { x with wait := x.wait.filter (fun c => c.q != q)
             run := x.run.map (fun c => if c.q = q then { c with q := noQueue } else c) })) s

end Sys2Proof.Machine
end

