-- ==== Sys2Proof/Machine/Host.lean ====
section
/-!
DEFINITION. The host interface and its command queues (chapter 14): the link (R381–R383), BAR0, BAR2 and BAR4 (R384–R389), queues and
descriptors (R390–R399), and the service turns of the command sequencer (R404).
-/
namespace Sys2Proof.Machine


/-! ### Requests of the host (R384–R388) -/

/-- The tags of the controller's own requests: reads of the host by their PCI Express tag, and the fence of a queue's FENCE. -/
def tagHostRead (tag : Nat) : Nat := 1000 + tag
def tagHostFence (q : Nat) : Nat := 100 + q

/-- Whether a host posted write accepted before request number `m` has not been performed. -/
def State.hostWritesPending (s : State) (m : Nat) : Bool :=
  s.noc.reqs.any (fun r => r.src == srcHost && r.kind == .write && decide (r.id < m) && r.parts.any (fun p => !p.performed))

/-- An internal fence that completes every earlier host posted write; later host requests wait for it (R387). -/
def State.hostFence (s : State) (stream : Nat) : State :=
  if s.hostWritesPending s.noc.nextId then s.acceptFence srcHost 0 stream allStreams allStreams false 0 else s

/-- The targets of a request. -/
def State.targetsOf (s : State) (a len : Nat) : List (Nat × Nat) :=
  match s.decodeRequest srcHost a len with
  | .ok l => l.map (fun p => (p.router, p.port))
  | .error _ => []

def State.pcieOrder (s : State) : Bool := s.bit Reg.HOST_CTL Fld.HOST_CTL_PCIE_ORDER

/-- A posted write of the host enters the network (R387). -/
def State.hostWrite (s : State) (stream a : Nat) (data : List Byte) (key : Option Nat) : State :=
  let tg := s.targetsOf a data.length
  let s := if s.pcieOrder && s.host.lastW.isSome && s.host.lastW != some (tg, stream) then s.hostFence stream else s
  let s := s.mapHost (fun h => { h with lastW := some (tg, stream) })
  s.accept srcHost 0 stream .write a data.length data (List.replicate (wordSpan a data.length).length false) key 0

/-- The pieces of a read: up to 256 bytes, none across a 256-byte boundary. -/
def readPieces : Nat → Nat → Nat → List (Nat × Nat)
  | 0, _, _ => []
  | fuel + 1, a, n => if n = 0 then [] else (a, min n (256 - a % 256)) :: readPieces fuel (a + min n (256 - a % 256)) (n - min n (256 - a % 256))

/-- A read of the host enters the network, split into NoC reads (R385–R387). -/
def State.hostRead (s : State) (tag stream a len : Nat) (key : Option Nat) (bar2 : Bool) : State :=
  let l := readPieces (len + 1) a len
  let s := s.mapHost (fun h => { h with reads := h.reads.filter (fun r => r.tag != tag) ++ [⟨tag, a, l.length, bar2, false⟩] })
  let s := if s.pcieOrder then s.hostFence stream else s
  l.foldl (fun s p => s.accept srcHost 0 stream .read p.1 p.2 [] [] key (tagHostRead tag)) s

def State.cplErr (s : State) (kind code : Nat) : State :=
  (s.hostErr kind code).setFld Reg.HOST_INT_STATUS Fld.HOST_INT_STATUS_CPL_ERR 1

/-- The device address of a BAR0 offset. -/
def State.bar0Addr (s : State) (off : Nat) : Nat := s.fld Reg.DEV_BOARD Fld.DEV_BOARD_DEVNUM * 2 ^ 48 + ctlBase + off

/-- Whether R31 or R32 refuses a BAR0 TLP (R384). -/
def bar0Bad (off len : Nat) : Bool := !ctlShape off len || !inControlSpan off

/-- A read of BAR0 (R384). -/
def State.bar0Read (s : State) (tag off len : Nat) : State :=
  if !s.host.up then s
  else if bar0Bad off len then
    ((s.cplErr heBar0Read rDecode).aer aerUnsupported).sendHost (.cpl tag 0 csUnsupported [] false)
  else s.hostRead tag 0 (s.bar0Addr off) len none false

/-- A host write whose EP bit is set is discarded (R388). -/
def State.epDiscard (s : State) : State := (s.hostErr heEpWrite 0).aer aerPoisoned

/-- A write to BAR0 (R384, R388). -/
def State.bar0Write (s : State) (off : Nat) (data : List Byte) (ep : Bool) : State :=
  if !s.host.up then s
  else if ep then s.epDiscard
  else if bar0Bad off data.length then (s.cplErr heBar0Write rDecode).aer aerUnsupported
  else s.hostWrite 0 (s.bar0Addr off) data none

/-- The window of a BAR2 offset: its stream, the device address and the key index; none where it is disabled (R386). -/
def State.window (s : State) (off : Nat) : Option (Nat × Nat × Option Nat) :=
  let k := off / 2 ^ 32 % 16
  let a := Reg.HOST_WIN_CTL k
  if s.bit a Fld.HOST_WIN_CTL_EN then
    some (s.fld a Fld.HOST_WIN_CTL_STREAM, s.fld (Reg.HOST_WIN_BASE k) Fld.HOST_WIN_BASE_BASE * 2 ^ 32 + off % 2 ^ 32,
      if s.bit a Fld.HOST_WIN_CTL_KEYED then some (s.fld a Fld.HOST_WIN_CTL_KEYIDX) else none)
  else none

/-- A read of BAR2. -/
def State.bar2Read (s : State) (tag off len : Nat) : State :=
  if !s.host.up then s
  else match s.window off with
    | none => (s.aer aerUnsupported).sendHost (.cpl tag 0 csUnsupported [] false)
    | some (st, a, key) => s.hostRead tag st a len key true

/-- A write to BAR2. -/
def State.bar2Write (s : State) (off : Nat) (data : List Byte) (ep : Bool) : State :=
  if !s.host.up then s
  else if ep then s.epDiscard
  else match s.window off with
    | none => s.aer aerUnsupported
    | some (st, a, key) =>
      (writePieces key.isSome (data.length + 1) a data.length).foldl
        (fun s p => s.hostWrite st p.1 ((data.drop (p.1 - a)).take p.2) key) s

/-- A NoC response to a host read becomes a completion (R385). -/
def State.hostCompletion (s : State) (d : Delivered) : State :=
  match s.host.reads.find? (fun r => tagHostRead r.tag == d.tag) with
  | none => s
  | some r =>
    let psn := d.code == rPoison
    let s := if psn && !r.used then s.consume consHost 0 0 0 else s
    let r := { r with left := r.left - 1, used := r.used || psn }
    let s := s.mapHost (fun h => { h with
      reads := if r.left = 0 then h.reads.filter (fun x => x.tag != r.tag) else h.reads.map (fun x => if x.tag = r.tag then r else x) })
    let off := d.addr - r.addr
    if isErr d.code then
      let s := s.cplErr (if r.bar2 then heBar2Read else heBar0Read) d.code
      s.sendHost (.cpl r.tag off (if d.code = rDecode then csUnsupported else csAbort) [] false)
    else s.sendHost (.cpl r.tag off csSuccess d.bytes psn)

/-! ### Configuration space and MSI-X table (R382, R383, R389) -/

/-- What dword `d` of the configuration space reads as. -/
def State.cfgRead (s : State) (d : Nat) : Word32 :=
  let w := tget (fun _ => 0) s.host.cfg d
  if d = 0 then 0x71642A1D
  else if d = 2 then BitVec.ofNat 32 (0x11800000 + s.fuse.step % 256)
  else if d = 4 then (w &&& 0xFF000000) ||| 0x4
  else if d = 5 then w
  else if d = 6 then 0xC
  else if d = 7 then w &&& 0xFFFFFFF0
  else if d = 8 then (w &&& 0xFFFFC000) ||| 0x4
  else if d = 9 then w
  else Config.cfgWord d w

/-- Bytes of `new` that `be` enables over `old`. -/
def mergeDword (old new : Word32) (be : Nat) : Word32 :=
  BitVec.ofNat 32 (ofBytes ((List.range 4).map (fun i =>
    BitVec.ofNat 8 ((if be.testBit i then new.toNat else old.toNat) / 256 ^ i))))

/-- A configuration request: a write with its byte enables, or a read (R383). -/
def State.configRequest (s : State) (d : Nat) (w : Option (Nat × Nat)) : State :=
  if !s.host.up then s
  else match w with
    | none => s.sendHost (.cfg (s.cfgRead d))
    | some (be, v) =>
      let x := mergeDword (tget (fun _ => 0) s.host.cfg d) (BitVec.ofNat 32 v) be
      let s := s.mapHost (fun h => { h with cfg := tput (fun _ => 0) h.cfg d x })
      let s := if d = Config.msixDword then
          (s.mapHost (fun h => { h with msixEn := x.getLsbD 31, msixMask := x.getLsbD 30 })).msixFlush
        else s
      s.sendHost (.cfg 0)

/-- A write to BAR4 outside the doorbells (R389): an MSI-X table word; every other write does nothing. -/
def State.bar4Write (s : State) (off v : Nat) : State :=
  if 0x1000 ≤ off ∧ off < 0x2000 then
    (s.mapHost (fun h => { h with msix := tput msixReset h.msix ((off - 0x1000) / 4) (BitVec.ofNat 32 v) })).msixFlush
  else s

/-! ### Doorbells and descriptor fetch (R391, R392) -/

/-- The queue prefetches up to four descriptors ahead of its head. -/
def State.prefetch : Nat → Nat → State → State
  | 0, _, s => s
  | fuel + 1, q, s =>
    let x := s.hostQ q
    if s.hqState q ≠ hqActive ∨ 4 ≤ x.fetched.length + x.asked.length ∨
        x.next = s.fld (Reg.HOST_Q_STATUS q) Fld.HOST_Q_STATUS_TAIL then s
    else
      let base := (s.reg (Reg.HOST_Q_BASE_LO q)).toNat + (s.reg (Reg.HOST_Q_BASE_HI q)).toNat * 2 ^ 32
      let s := s.sendHost (.read 0 q x.next (base + 64 * x.next) 64)
      State.prefetch fuel q (s.setHostQ q { x with next := (x.next + 1) % s.sqSize q, asked := x.asked ++ [x.next] })

/-- An SQ_TAIL write is acted on (R391). -/
def State.sqTail (s : State) (q v : Nat) : State :=
  let a := Reg.HOST_Q_STATUS q
  let n := s.sqSize q
  let head := s.fld a Fld.HOST_Q_STATUS_HEAD
  let tail := s.fld a Fld.HOST_Q_STATUS_TAIL
  let used := (tail + n - head) % n
  let more := (v + n - tail) % n
  if s.hqState q ≠ hqActive ∨ n ≤ v ∨ n - 1 < used + more then s.setFld a Fld.HOST_Q_STATUS_DB_REFUSED 1
  else State.prefetch 4 q (s.setFld a Fld.HOST_Q_STATUS_TAIL v)

/-- A CQ_HEAD write releases entries (R391). -/
def State.cqHead (s : State) (q v : Nat) : State :=
  (s.setFld (Reg.HOST_CQ_STATUS q) Fld.HOST_CQ_STATUS_HEAD (v % 4096)).showFull q

/-- The doorbells whose earlier host posted writes have all been performed are acted on, in order (R391). -/
def State.ringBells : List (Nat × Nat × Bool × Nat) → State → State
  | [], s => s
  | b :: bs, s =>
    if s.hostWritesPending b.1 then s.mapHost (fun h => { h with bells := b :: bs })
    else
      let s := s.mapHost (fun h => { h with bells := bs })
      State.ringBells bs (if b.2.2.1 then s.cqHead b.2.1 b.2.2.2 else s.sqTail b.2.1 b.2.2.2)

/-- A doorbell write arrives. -/
def State.doorbell (s : State) (q : Nat) (cq : Bool) (v : Nat) : State :=
  if s.host.up then State.ringBells (s.host.bells ++ [(s.noc.nextId, q, cq, v % 4096)]) s else s

/-- The place of ring index `i` of queue `q`, counted from the oldest descriptor not completed. -/
def State.ringPos (s : State) (q i : Nat) : Nat :=
  (i + s.sqSize q - s.fld (Reg.HOST_Q_STATUS q) Fld.HOST_Q_STATUS_HEAD) % s.sqSize q

/-- A descriptor fetch is answered (R392), its descriptor taking its place in the ring's order: `status` 0 data, 1 Unsupported Request, 2 Completer Abort, 3 EP. -/
def State.fetchAnswer (s : State) (q idx status : Nat) (bytes : List Byte) : State :=
  let x := s.hostQ q
  if !x.asked.contains idx then s
  else
    let s := s.setHostQ q { x with asked := x.asked.erase idx }
    if s.hqState q = hqDisabled ∨ s.hqState q = hqDraining then s
    else if status ≠ 0 then
      ((s.setHqState q hqError).setFld Reg.HOST_INT_STATUS Fld.HOST_INT_STATUS_QERR 1).hostErr heHostMem 0
    else
      let before (y : Nat × List Byte) : Bool := decide (s.ringPos q y.1 ≤ s.ringPos q idx)
      s.mapHostQ q (fun x => { x with
        fetched := x.fetched.takeWhile before ++ (idx, bytes.take 64) :: x.fetched.dropWhile before })

/-! ### Descriptors (R393–R399) -/

/-- An operation that a descriptor asks for. -/
inductive DescOp where
  | nop
  | copy (c : Copy)
  | regseq (pairs : List (Nat × Nat)) (poll : Option (Nat × Nat × Nat × Nat))
  | token (h slot : Nat) (poison : Bool) (v : Nat)
  | cancel (h : Nat)
  | create (t : Nat)
  | fence
  /-- BAD_OP or BAD_ARG. -/
  | bad (hstat : Nat)
  deriving DecidableEq, Repr

/-- A descriptor as it is read: WAIT, IRQ, TAG and its operation. -/
structure Desc where
  wait : Bool
  irq  : Bool
  tag  : Nat
  op   : DescOp
  deriving DecidableEq, Repr

/-- Whether bytes `a` to `b` are all zero. -/
def zeroBytes (d : List Byte) (a b : Nat) : Bool := ((d.drop a).take (b + 1 - a)).all (· == 0)

/-- A copy that has not begun. -/
def newCopy (q idx src dst len flags : Nat) (key : Option Nat) (token : Option (Nat × Nat)) (tag : Nat) : Copy :=
  ⟨q, idx, src, dst, len, flags.testBit 0, flags.testBit 1, key, token, tag, 0, 0, false, none, false, false, false⟩

/-- Whether the addresses of a copy are in range: a device address has bits 63:52 zero (R396). -/
def copyInRange (c : Copy) : Bool :=
  (c.srcHost || decide (c.src < 2 ^ 52)) && (c.dstHost || decide (c.dst < 2 ^ 52)) && c.len != 0

/-- A native descriptor (R393, R394). -/
def nativeDesc (q idx : Nat) (d : List Byte) : Desc :=
  let op := byteAt d 0
  let f := byteAt d 1
  let copy := op == 1
  let commonBad := decide (16 ≤ f) || (!copy && decide (4 ≤ f)) || decide (16 ≤ byteAt d 2) || byteAt d 3 != 0
  let x : DescOp :=
    if op = 0 then (if commonBad || !zeroBytes d 8 63 then .bad hsBadArg else .nop)
    else if op = 1 then
      let tk := leField d 32 4
      let c := newCopy q idx (leField d 8 8) (leField d 16 8) (leField d 24 4) (byteAt d 28)
        (if f.testBit 2 then some (byteAt d 2) else none)
        (if f.testBit 3 then some (tk % 2 ^ 28, tk / 2 ^ 28 % 4) else none) (leField d 4 4)
      if commonBad || decide (4 ≤ byteAt d 28) || !zeroBytes d 29 31 || decide (2 ^ 30 ≤ tk) || !zeroBytes d 36 63 || !copyInRange c then
        .bad hsBadArg
      else .copy c
    else if op = 2 then
      let n := byteAt d 8
      if commonBad || decide (5 < n) || decide (2 ≤ byteAt d 9) then .bad hsBadArg
      else .regseq ((List.range n).map (fun i => (leField d (24 + 8 * i) 4, leField d (28 + 8 * i) 4)))
        (if byteAt d 9 = 1 then some (leField d 10 2, leField d 12 4, leField d 16 4, leField d 20 4) else none)
    else if op = 3 then
      let w := leField d 8 4
      if commonBad || decide (2 ^ 31 ≤ w) || !zeroBytes d 12 15 || !zeroBytes d 24 63 then .bad hsBadArg
      else .token (w % 2 ^ 28) (w / 2 ^ 28 % 4) (w.testBit 30) (leField d 16 8)
    else if op = 4 then
      if commonBad || decide (2 ^ 28 ≤ leField d 8 4) || !zeroBytes d 12 63 then .bad hsBadArg else .cancel (leField d 8 4)
    else if op = 5 then
      if commonBad || decide (4096 ≤ leField d 8 2) || !zeroBytes d 10 63 then .bad hsBadArg else .create (leField d 8 2)
    else if op = 6 then (if commonBad || !zeroBytes d 8 63 then .bad hsBadArg else .fence)
    else .bad hsBadOp
  ⟨f.testBit 0, f.testBit 1, leField d 4 4, x⟩

/-- A forerunner descriptor (R399). -/
def legacyDesc (q idx : Nat) (d : List Byte) : Desc :=
  let op := byteAt d 20
  let f := byteAt d 21
  let bad := decide (16 ≤ f) || decide (16 ≤ byteAt d 22) || byteAt d 23 != 0 || !zeroBytes d 28 63
  let x : DescOp :=
    if 3 < op then .bad hsBadOp
    else if bad then .bad hsBadArg
    else if op = 0 then .nop
    else if op = 1 then
      let c := newCopy q idx (leField d 0 8) (leField d 8 8) (leField d 16 4) (f / 2)
        (if f.testBit 3 then some (byteAt d 22) else none) none (leField d 24 4)
      if copyInRange c then .copy c else .bad hsBadArg
    else if op = 2 then .regseq [(leField d 16 4, leField d 8 4)] none
    else .fence
  ⟨true, f.testBit 0, leField d 24 4, x⟩

/-- The descriptor at the head of queue `q`; an earlier one still being fetched keeps the head (R395). -/
def State.headDesc (s : State) (q : Nat) : Option (Nat × Desc) :=
  match (s.hostQ q).fetched with
  | [] => none
  | (idx, b) :: _ => if (s.hostQ q).asked.any (fun i => decide (s.ringPos q i < s.ringPos q idx)) then none else some (idx, if s.bit (Reg.HOST_Q_CFG q) Fld.HOST_Q_CFG_LEGACY then legacyDesc q idx b else nativeDesc q idx b)

/-- Whether R395, R390 and R401 let the head descriptor start. -/
def State.mayStart (s : State) (q : Nat) (d : Desc) : Bool :=
  let x := s.hostQ q
  (s.hqState q == hqActive || s.hqState q == hqError) && !(!x.owed.isEmpty && s.cqFull q) &&
  (match d.op with
    | .copy _ => if d.wait then x.runs.isEmpty else x.runs.all (fun r => r.kind == .copy)
    | _ => x.runs.isEmpty)

/-- The head descriptor is taken off, as a run of kind `k`; the next ones are fetched. -/
def State.popDesc (s : State) (q idx : Nat) (d : Desc) (k : RunKind) : State :=
  State.prefetch 4 q (s.mapHostQ q (fun x => { x with fetched := x.fetched.drop 1, runs := x.runs ++ [⟨idx, d.tag, d.irq, k⟩] }))

/-- The TALLY create window (R154). -/
def createWindow (t : Nat) : Nat := 0x100000 + 0x60000 + 8 * t

/-- The head descriptor of queue `q` starts, if `want` names it and it may start (R395). A TOKEN whose ingress queue is full stays. -/
def State.startHead (s : State) (q : Nat) (want : Bool → DescOp → Bool) : State :=
  match s.headDesc q with
  | none => s
  | some (idx, d) =>
    if !s.mayStart q d || !want (s.bit (Reg.HOST_Q_CFG q) Fld.HOST_Q_CFG_LEGACY) d.op then s
    else
      let pop (k : RunKind) : State := s.popDesc q idx d k
      match d.op with
      | .nop => (pop .fence).oweEntry q idx d.tag d.irq hsDone 0 0
      | .bad h => (pop .fence).oweEntry q idx d.tag d.irq h 0 0
      | .copy c =>
        let ch := s.fld (Reg.HOST_Q_CFG q) Fld.HOST_Q_CFG_CHAN
        ((pop .copy).mapDma ch (fun x => { x with wait := x.wait ++ [c] })).dmaStep ch
      | .regseq pairs poll => pop (.regseq pairs poll none s.now false 0)
      | .token h slot psn v =>
        if s.queueFull (192 + q) then s
        else ((pop .fence).pushToken (192 + q) ⟨h, slot, BitVec.ofNat 64 v, psn⟩).oweEntry q idx d.tag d.irq hsDone 0 0
      | .cancel h => (pop .cancel).addCancel (.queue q) h s.secondSc
      | .create t => (pop .create).accept srcSeq 0 0 .read (s.bar0Addr (createWindow t)) 8 [] [] none (tagSeqCreate q)
      | .fence => (pop .fence).acceptFence srcHost 0 0 allStreams allStreams true (tagHostFence q)

/-! ### REGSEQ (R397) and the other running descriptors -/

/-- The run of queue `q` changed by `f`. -/
def State.mapRun (s : State) (q idx : Nat) (f : Run → Run) : State :=
  s.mapHostQ q (fun x => { x with runs := x.runs.map (fun r => if r.idx = idx then f r else r) })

/-- A run of queue `q` whose kind `p` accepts. -/
def State.findRun (s : State) (q : Nat) (p : RunKind → Bool) : Option Run := (s.hostQ q).runs.find? (fun r => p r.kind)

def isRegseq : RunKind → Bool
  | .regseq _ _ _ _ _ _ => true
  | _ => false

/-- HOST_SEQ_OP(k).BUSY follows the operations: one that has started has no steps and no queue yet (R404, R407). -/
def State.seqSync (s : State) : State :=
  (List.range 11).foldl (fun s k =>
    let a := Reg.HOST_SEQ_OP k
    let b := s.seqBusy k
    if b && !s.bit a Fld.HOST_SEQ_OP_BUSY then s.setReg a 0x80000000
    else if !b && s.bit a Fld.HOST_SEQ_OP_BUSY then s.setFld a Fld.HOST_SEQ_OP_BUSY 0
    else s) s

/-- The kind of operation that a register write starts (R403). -/
def goKind (off v : Nat) : Option Nat :=
  let go := v.testBit 31
  if off = Reg.CFG_LOAD_CTL ∧ go then some 0
  else if off = Reg.CFG_STORE_CTL ∧ go then some 1
  else if off = Reg.SCRUB_CTL ∧ go then some 2
  else if off = Reg.CACHE_CMD ∧ go then some 3
  else if off = Reg.EMC_FILL_CTL ∧ go then some 4
  else if (List.range 4).any (fun c => off == Reg.EMC_CH_CFG c) ∧ v.testBit 30 then some (5 + (off - Reg.EMC_CH_CFG 0) / 0x10)
  else if (List.range 8).any (fun j => off == Reg.XTS_ROT j) ∧ go then some 9
  else if off = Reg.NOC_CTL then some 10
  else none

/-- A register write of a REGSEQ of queue `q` has been performed: an operation that it has just started is shown as the queue's. -/
def State.seqFrom (s : State) (q off v : Nat) : State :=
  let before (k : Nat) : Bool := s.bit (Reg.HOST_SEQ_OP k) Fld.HOST_SEQ_OP_BUSY
  let s' := s.seqSync
  match goKind off v with
  | some k =>
    if s'.seqBusy k && !before k then
      (s'.setFld (Reg.HOST_SEQ_OP k) Fld.HOST_SEQ_OP_FROM_Q 1).setFld (Reg.HOST_SEQ_OP k) Fld.HOST_SEQ_OP_QUEUE q
    else s'
  | none => s'

/-- The next register pair of a REGSEQ is written, or its writes are over. -/
def State.seqWrite (s : State) (q : Nat) (r : Run) : State :=
  match r.kind with
  | .regseq (p :: ps) poll none _ pg v =>
    let s := s.accept srcSeq 0 0 .write (s.bar0Addr p.1) 4 (toBytes 4 p.2) [false] none (tagSeqWrite q)
    s.mapRun q r.idx (fun r => { r with kind := .regseq ps poll (some (s.noc.nextId - 1, p.1, p.2)) s.now pg v })
  | .regseq [] none none _ _ v => s.endRun q r hsDone 0 v
  | _ => s

/-- A REGSEQ whose write is no longer in the network goes on (R397). -/
def State.seqProgress (s : State) (q : Nat) : State :=
  match s.findRun q isRegseq with
  | none => s
  | some r =>
    match r.kind with
    | .regseq ps poll (some (id, off, v)) _ pg x =>
      if (s.findReq id).isSome then s
      else
        let s := s.seqFrom q off v
        let r : Run := { r with kind := .regseq ps poll none s.now pg x }
        (s.mapRun q r.idx (fun _ => r)).seqWrite q r
    | .regseq _ _ none _ _ _ => s.seqWrite q r
    | _ => s

/-- One poll read of a REGSEQ whose writes are over (R397, R404). -/
def State.seqPoll (s : State) (q : Nat) : State :=
  match s.findRun q isRegseq with
  | none => s
  | some r =>
    match r.kind with
    | .regseq [] (some p) none t false x =>
      let s := s.mapRun q r.idx (fun r => { r with kind := .regseq [] (some p) none t true x })
      s.accept srcSeq 0 0 .read (s.bar0Addr p.2.1) 4 [] [] none (tagSeqPoll q)
    | _ => s

/-- A response of the sequencer (R397, R398). -/
def State.seqTake (s : State) (d : Delivered) : State :=
  if d.kind = .write then
    let q := d.tag - 300
    match s.findRun q isRegseq with
    | some r => if 300 ≤ d.tag ∧ isErr d.code then s.endRun q r hsDevErr d.code 0 else s
    | none => s
  else if 200 ≤ d.tag then
    let q := d.tag - 200
    match s.findRun q (fun k => k == .create) with
    | some r => if isErr d.code then s.endRun q r hsDevErr d.code 0 else s.endRun q r hsDone 0 (ofBytes d.bytes)
    | none => s
  else
    let q := d.tag - 100
    match s.findRun q isRegseq with
    | some r =>
      match r.kind with
      | .regseq ps (some p) w t true _ =>
        let v := ofBytes d.bytes
        if isErr d.code then s.endRun q r hsDevErr d.code 0
        else if v &&& p.2.2.1 = p.2.2.2 then s.endRun q r hsDone 0 v
        else s.mapRun q r.idx (fun r => { r with kind := .regseq ps (some p) w t false v })
      | _ => s
    | none => s

/-- A response of the host controller: a host read's completion, or the fence of a FENCE descriptor. -/
def State.hostTake (s : State) (d : Delivered) : State :=
  if d.kind = .read then s.hostCompletion d
  else if d.kind = .fence ∧ 100 ≤ d.tag then
    let q := d.tag - 100
    match s.findRun q (fun k => k == .fence) with
    | some r => if d.code = rOK then s.endRun q r hsDone 0 0 else s.endRun q r hsDevErr d.code 0
    | none => s
  else s

/-- The outcome of a queue's cancel (R174, R398). -/
def State.cancelTake (s : State) (q : Nat) : State :=
  match s.findRun q (fun k => k == .cancel), s.sch.answers.find? (fun a => a.1 == .queue q) with
  | some r, some a =>
    ({ s with sch := { s.sch with answers := s.sch.answers.erase a } }).endRun q r hsDone 0 a.2.1
  | _, _ => s

/-- Queues with something in hand. -/
def State.openQueues (s : State) : List Nat := (s.host.q.filter (fun p => !p.2.runs.isEmpty)).map (·.1)

/-- The controller takes what has come for it: responses, doorbells that may now be acted on, and the ends of what its descriptors wait
for. Interrupt lines that have fallen are noted (R402). -/
def State.hostSettle (s : State) : State :=
  let s := ((s.takeInbox (fun d => d.src == srcHost) State.hostTake).takeInbox (fun d => d.src == srcSeq) State.seqTake).dmaInbox
  let s := State.ringBells s.host.bells s
  let s := s.openQueues.foldl (fun s q => (s.seqProgress q).cancelTake q) s
  s.mapHost (fun h => { h with lines := h.lines &&& s.extLines })

/-- A poll that has not matched within POLL_MS ends (R397). -/
def State.pollTimeout (s : State) (q : Nat) : State :=
  match s.findRun q isRegseq with
  | none => s
  | some r =>
    match r.kind with
    | .regseq [] (some p) none t _ v => if p.1 ≠ 0 ∧ t + p.1 * 4800000 ≤ s.now then (s.endRun q r hsTimeout 0 v).disownSeq q else s
    | _ => s

/-! ### Enabling and draining queues (R390, R406) -/

/-- A write of HOST_Q_CFG(q) while the queue is DISABLED, and its enable. -/
def State.queueEnable (s : State) (q v : Nat) : State :=
  let a := Reg.HOST_Q_CFG q
  if s.hqState q ≠ hqDisabled then s
  else
    let s := s.setReg a (BitVec.ofNat 32 (v &&& 0x4F00F000))
    let ok (n : Nat) : Bool := decide (4 ≤ n ∧ n ≤ 12)
    if !v.testBit 31 then s
    else if ok (s.fld a Fld.HOST_Q_CFG_SIZE) && ok (s.fld (Reg.HOST_CQ_CFG q) Fld.HOST_CQ_CFG_SIZE) then
      let s := (s.setFld a Fld.HOST_Q_CFG_EN 1).setHostQ q HostQ.idle
      let st := Reg.HOST_Q_STATUS q
      let s := ((s.setHqState q hqActive).setFld st Fld.HOST_Q_STATUS_HEAD 0).setFld st Fld.HOST_Q_STATUS_TAIL 0
      s.setReg (Reg.HOST_CQ_STATUS q) 0x40000000
    else s.setFld (Reg.HOST_Q_STATUS q) Fld.HOST_Q_STATUS_DB_REFUSED 1

/-- The queue is DISABLED. -/
def State.queueDown (s : State) (q : Nat) : State :=
  (((s.setHqState q hqDisabled).setFld (Reg.HOST_Q_CFG q) Fld.HOST_Q_CFG_EN 0).setHostQ q HostQ.idle).orphanCopies q |>.disownSeq q
    |>.disown (fun src tag => src == srcHost && tag == tagHostFence q) tagStray

/-- An ACTIVE queue enters DRAINING (R406). -/
def State.queueDrain (s : State) (q : Nat) : State :=
  let s := (s.setHqState q hqDraining).setFld (Reg.HOST_Q_CFG q) Fld.HOST_Q_CFG_EN 0
  let s := s.mapHostQ q (fun x => { x with fetched := [], asked := [] })
  let s := match s.findRun q isRegseq with
    | some r =>
      match r.kind with
      | .regseq [] (some _) none _ _ v => (s.endRun q r hsAborted 0 v).disownSeq q
      | _ => s
    | none => s
  s.abortCopies (fun x => x == q)

/-- A write of EN = 0. -/
def State.queueDisable (s : State) (q v : Nat) : State :=
  if s.hqState q = hqActive then s.queueDrain q
  else if s.hqState q = hqError then (s.abortCopies (fun x => x == q)).queueDown q
  else s.queueEnable q (v % 2 ^ 31)

/-- DRAINING ends when no descriptor runs and every owed completion has been written. -/
def State.queueDrained (s : State) (q : Nat) : State :=
  let x := s.hostQ q
  if s.hqState q = hqDraining ∧ x.runs.isEmpty ∧ x.owed.isEmpty then s.queueDown q else s

/-! ### The link (R381, R383, R406) -/

/-- The link is in L0 at the rate and width that both ends allow. -/
def State.linkUp (s : State) (gen width : Nat) : State :=
  if s.pwr.perst ∨ s.mode = modeOff then s
  else
    let a := Reg.HOST_LINK_STATUS
    let s := (s.mapHost (fun h => { h with up := true })).setFld a Fld.HOST_LINK_STATUS_L0 1
    let s := s.setFld a Fld.HOST_LINK_STATUS_GEN (min gen (s.fld Reg.HOST_CTL Fld.HOST_CTL_MAX_GEN))
    s.setFld a Fld.HOST_LINK_STATUS_WIDTH (min width (s.fld Reg.HOST_CTL Fld.HOST_CTL_MAX_WIDTH))

/-- A write of HOST_CTL; RETRAIN takes the link out of L0 until it has trained again under the new limits. -/
def State.hostCtlWrite (s : State) (v : Nat) : State :=
  let s := s.setReg Reg.HOST_CTL (BitVec.ofNat 32 (v &&& 0x731))
  if v.testBit 31 then s.setFld Reg.HOST_LINK_STATUS Fld.HOST_LINK_STATUS_L0 0 else s

/-- The link goes down (R383, R406). -/
def State.linkDown (s : State) : State :=
  let a := Reg.HOST_LINK_STATUS
  let s := s.disown (fun src tag => src == srcHost && decide (1000 ≤ tag)) tagStray
  let s := ((s.mapHost (fun h => { h with up := false, reads := [], bells := [] })).setFld a Fld.HOST_LINK_STATUS_L0 0).setFld a
    Fld.HOST_LINK_STATUS_DOWN_SEEN 1
  let s := s.setFld Reg.HOST_INT_STATUS Fld.HOST_INT_STATUS_LINK 1
  (List.range 64).foldl (fun s q => if s.hqState q = hqActive then s.queueDrain q else s) s

/-- PERST resets the host controller, every HOST register, the windows, the queues and the MSI-X table (R383). -/
def State.hostReset (s : State) : State :=
  let s := s.disown (fun src tag => src == srcHost || (src == srcSeq && decide (100 ≤ tag)) || decide (0xD0 ≤ src ∧ src ≤ 0xDF)) tagStray
  { s with host := { HostIf.reset with sent := s.host.sent, clkreq := s.host.clkreq }
           regs := s.regs.filter (fun p => p.1 < 0x600000 || 0x680000 ≤ p.1)
           logs := tdel s.logs Reg.HOST_ERR_LOG }

/-- DMA copies end with ABORTED in SECURE HALT (R471). -/
def State.hostHalt (s : State) : State := s.abortCopies (fun _ => true)

/-! ### Windows (R386) -/

def winRefusedBase (b : Nat) : Bool := b % 2 ^ 16 == 0x00F0

/-- A write of HOST_WIN_CTL(k). -/
def State.winCtlWrite (s : State) (k v : Nat) : State :=
  let a := Reg.HOST_WIN_CTL k
  let bad := v.testBit 31 && winRefusedBase (s.fld (Reg.HOST_WIN_BASE k) Fld.HOST_WIN_BASE_BASE)
  let s := s.setReg a (BitVec.ofNat 32 ((v &&& 0xCF000007) - (if bad then 2 ^ 31 else 0)))
  if bad then s.setFld Reg.HOST_INT_STATUS Fld.HOST_INT_STATUS_WIN_REFUSED 1 else s

/-- A write of HOST_WIN_BASE(k). -/
def State.winBaseWrite (s : State) (k v : Nat) : State :=
  if s.bit (Reg.HOST_WIN_CTL k) Fld.HOST_WIN_CTL_EN && winRefusedBase v then
    s.setFld Reg.HOST_INT_STATUS Fld.HOST_INT_STATUS_WIN_REFUSED 1
  else s.setReg (Reg.HOST_WIN_BASE k) (BitVec.ofNat 32 (v % 2 ^ 20))

/-! ### Interrupt lines (R402) and service turns (R404) -/

/-- Line `i` of R230 rises. -/
def State.irqEdge (s : State) (i : Nat) : State :=
  if s.extLines.testBit i && !s.host.lines.testBit i then
    let s := s.mapHost (fun h => { h with lines := h.lines ||| 2 ^ i })
    let a := Reg.HOST_IRQ_MAP i
    if s.bit a Fld.HOST_IRQ_MAP_EN then s.msixSignal (s.fld a Fld.HOST_IRQ_MAP_VECTOR) else s
  else s

/-- A service turn: the queues in ascending order from the one after the last visited; each starts its head descriptor if it may, and
makes one poll read. -/
def State.serviceTurn (s : State) : State :=
  ((List.range 64).map (fun k => (s.host.turn + 1 + k) % 64)).foldl (fun s q =>
    let s := (s.startHead q (fun _ _ => true)).seqProgress q
    (s.seqPoll q).mapHost (fun h => { h with turn := q })) s

end Sys2Proof.Machine
end

