-- ==== Sys2Proof/Machine/Halt.lean ====
section
/-!
DEFINITION. SECURE HALT (R471): what its entry does.
-/
namespace Sys2Proof.Machine

/-! ### Aethene port states (ALINK_PORT_STATUS.STATE) -/

def lpOff : Nat := 0
def lpDisabled : Nat := 1
def lpTraining : Nat := 2
def lpUp : Nat := 3
def lpConflict : Nat := 5
def lpForeign : Nat := 6
def lpPair : Nat := 7
def lpAbsent : Nat := 4

def State.portState (s : State) (p : Nat) : Nat := s.fld (Reg.ALINK_PORT_STATUS p) Fld.ALINK_PORT_STATUS_STATE
def State.setPortState (s : State) (p v : Nat) : State := s.setFld (Reg.ALINK_PORT_STATUS p) Fld.ALINK_PORT_STATUS_STATE v

def APort.idle : APort := ⟨0, 0, [], [], (0, 0), [], 0, false, none, none, false⟩
def State.aport (s : State) (p : Nat) : APort := tget (fun _ => APort.idle) s.brd.ports p
def State.setAport (s : State) (p : Nat) (x : APort) : State :=
  { s with brd := { s.brd with ports := tput (fun _ => APort.idle) s.brd.ports p x } }
def State.mapAport (s : State) (p : Nat) (f : APort → APort) : State := s.setAport p (f (s.aport p))

/-- The link of a port ends: its frames in flight are lost, so that no flip waits for them; what has been sent stays on record. -/
def State.clearPort (s : State) (p : Nat) : State :=
  let s := s.mapAport p (fun x => { APort.idle with sent := x.sent })
  { s with brd := { s.brd with out := s.brd.out.map (fun d => if d.port = p then { d with delivered := true } else d) } }

/-- This device's coordinate (R495). -/
def State.boardAt (s : State) : Nat × Nat :=
  (s.fld Reg.ALINK_BOARD_STATUS Fld.ALINK_BOARD_STATUS_X, s.fld Reg.ALINK_BOARD_STATUS Fld.ALINK_BOARD_STATUS_Y)

/-- The departure port for device `d` (R502): the first UP port of the preferred X port, the preferred Y port, the other X port, the other Y
port. Ports: 0 N, 1 E, 2 S, 3 W. -/
def State.departurePort (s : State) (d : Nat) : Option Nat :=
  let dx := (d % 4 + s.boardX - s.boardAt.1) % s.boardX
  let dy := (d / 4 + s.boardY - s.boardAt.2) % s.boardY
  let px := if dx ≤ s.boardX / 2 then 1 else 3
  let py := if dy ≤ s.boardY / 2 then 0 else 2
  let l := (if dx ≠ 0 then [px] else []) ++ (if dy ≠ 0 then [py] else []) ++ (if dx ≠ 0 then [4 - px] else []) ++
    (if dy ≠ 0 then [2 - py] else [])
  if s.boardX ≤ d % 4 ∨ s.boardY ≤ d / 4 then none else l.find? (fun p => s.portState p == lpUp)

/-- A settled device rebuilds the inactive bank of ALINK_RT and requests a route computation (R502). -/
def State.rebuildRoutes (s : State) : State :=
  if !s.bit Reg.ALINK_BOARD_STATUS Fld.ALINK_BOARD_STATUS_SETTLED then s
  else
    let b := 1 - s.epochNow
    let s := (List.range 16).foldl (fun s d => match s.departurePort d with
      | some p => s.setReg (Reg.ALINK_RT b d) (BitVec.ofNat 32 (2 ^ 31 + p))
      | none => s.setReg (Reg.ALINK_RT b d) 0) s
    s.requestRecompute

/-- A port changes state: the interrupts of R513, and new routes where it enters or leaves UP (R502). -/
def State.setPort (s : State) (p v : Nat) : State :=
  let old := s.portState p
  if old = v then s
  else
    let s := (s.setPortState p v).setFld Reg.ALINK_INT_STATUS Fld.ALINK_INT_STATUS_PORT 1
    let s := if v = lpConflict then s.setFld Reg.ALINK_INT_STATUS Fld.ALINK_INT_STATUS_CONFLICT 1 else s
    if old = lpUp ∨ v = lpUp then s.rebuildRoutes else s

/-- An engine is reset and held: ENG_CTL reads RESET = 1, RUN = 0 (R471, R462). -/
def State.holdEngine (s : State) (n : Nat) : State := (s.setReg (Reg.ENG_CTL n) 2).resetEngine n

/-- The last fc edge at or before now. -/
def State.fcEdge (s : State) : Nat := s.now / fcLen * fcLen

/-- Whether SECURE HALT may be entered from the present mode: FILL onward, except SECURE HALT itself (R467). -/
def State.mayHalt (s : State) : Bool := decide (modeFill ≤ s.mode ∧ s.mode ≠ modeSecureHalt)

/-- The device enters SECURE HALT (R471). The scheduler stops with the mode: it makes no decision in it. -/
def State.enterSecureHalt (s : State) : State :=
  if !s.mayHalt then s
  else
    let e := s.fcEdge
    let s := (List.range 128).foldl (fun s r => if s.running r then s.isolateOver r e else s) s
    let s := s.setMode modeSecureHalt
    let s := ((List.range 63).map (· + 1)).foldl (fun s n => s.holdEngine n) s
    let s := s.hostHalt.lanesHalt
    [0, 1, 2, 3].foldl (fun s p => if s.portState p = lpOff then s else (s.clearPort p).setPort p lpDisabled) s

end Sys2Proof.Machine
end

