-- ==== Sys2Proof/Machine/Cache.lean ====
section
/-!
DEFINITION. The stacked cache (chapter 11): words and tags, lookup and allocation (R318, R319), accesses to DIRECT lines (R314–R317,
R322, R323), fills and write-backs (R318, R339), cache commands (R320), FILL (R321, R462) and channel retirement (R329–R332).
A place is a line number (slice × 16 + way) × 16,384 + set; word i of it has the key 32 × line + i.
-/
namespace Sys2Proof.Machine

/-- A fill's answer reaches its slice: the line is allocated and the forward served, or the forward gets the fill's code (R339). -/
def State.fillAnswer (s : State) (d : Delivered) : State :=
  match s.cache.fills.find? (fun f => f.id == d.id) with
  | none => s
  | some f =>
    let s := { s with cache := { s.cache with fills := s.cache.fills.filter (fun g => g.id != d.id) } }
    let each (s : State) (g : State → Request → State) : State :=
      f.wait.foldl (fun s i => match s.findReq i with
        | some r => if r.parts.any (fun q => !q.performed) then g s r else s
        | none => s) s
    if isErr d.code then each s (fun s r => s.respond r.id 0 (codeAnswer d.code))
    else
      let set := extSet (f.line * 256)
      if !sixteen.any (s.allocWay f.slice set) then each s (fun s r => s.respond r.id 0 ⟨rOK, [], [], true⟩)
      else
        let w := plruWalk (s.allocWay f.slice set) (s.plru f.slice set) 4 1
        let s := s.allocate f.slice f.line d.bytes d.marks w
        each s (fun s r => s.serveForward r f.slice w d.code)

/-- An access of the CACHE port is performed. -/
def State.cacheServe (s : State) (r : Request) (q : Part) (p : Nat) : State :=
  match r.kind with
  | .forward => s.forwardAtSlice r q.router
  | .read =>
    let x := s.directAccess (q.addr % 2 ^ 48) q.len false [] []
    x.1.respond r.id p x.2
  | .write =>
    let x := s.directAccess (q.addr % 2 ^ 48) q.len true (partData r q) (partMarks r q)
    x.1.respond r.id p (codeAnswer x.2.code)
  | _ => s

/-- An access in progress is performed where its time has come and everything earlier of its ordering domain has been (R284, R313). -/
def State.cacheTry (s : State) (x : CacheAcc) : State :=
  let gone (s : State) : State := { s with cache := { s.cache with acc := s.cache.acc.erase x } }
  match (s.findReq x.id).bind (fun r => r.parts[x.part]?) with
  | none => gone s
  | some q =>
    if q.performed then gone s
    else if s.now < x.due then s
    else match s.servable x.id x.part with
      | none => s
      | some (r, q) => (gone s).cacheServe r q x.part

/-- Every access whose time has come is performed, in the order in which they reached the slices. -/
def State.cacheRun (s : State) : State := s.cache.acc.foldl State.cacheTry s

/-- The slices take what has come for them, and what waited behind it goes on. -/
def State.cacheInbox (s : State) : State :=
  (s.takeInbox (fun d => d.src == srcCache && d.kind != .forward) (fun s d => if d.kind = .read then s.fillAnswer d else s)).cacheRun

/-- The place that an access would use as things stand, where it finds one without a fill. -/
def State.accessLine (s : State) (r : Request) (q : Part) : Option Nat :=
  if r.kind = .forward then
    (State.lookup q.router (extSet r.addr) (extTag r.addr) sixteen s).2.map (fun w => cacheLine q.router w (extSet r.addr))
  else match (s.directLine (q.addr % 2 ^ 48)).2 with
    | .ok line => some line
    | .error _ => none

/-- The time from the arrival of an access at its slice until it is performed (R313): a read that hits, or a write, on the die of its way. A miss, and
an access that no line serves, go on at once (log entry 92). -/
def State.accessTime (s : State) (r : Request) (q : Part) : Nat :=
  match s.accessLine r q with
  | none => 0
  | some line =>
    let die := lineWay line / 4
    let a := q.addr % 2 ^ 48
    let merge := (wordSpan a q.len).any (fun w => byteEnables a q.len w != 0xFF)
    ccLen * (if r.kind = .write ∨ !r.data.isEmpty then 4 + die + 6 + (q.len + 7) / 8 + (if merge then 6 else 0)
      else 30 + 2 * die + (if 128 < q.len then 16 else 0))

/-- A request part reaches the CACHE port of its slice (R313). -/
def State.cacheRequest (s : State) (id p : Nat) : State :=
  match s.reaching id p with
  | none => s
  | some (r, q) =>
    if q.port ≠ portCACHE ∨ !(r.kind = .forward ∨ r.kind = .read ∨ r.kind = .write) then s
    else
      let due := s.now + s.accessTime r q
      let s := s.arriveAt id p
      let s := { s with cache := { s.cache with acc := s.cache.acc ++ [({ id := id, part := p, due := due } : CacheAcc)] } }
      (if s.now < due then s.later due .cacheServe else s).cacheRun

/-- An idle cycle of channel `w` of slice `n`: the oldest corrected word is written back (R322). -/
def State.cacheWriteback (s : State) (n w : Nat) : State :=
  match s.cache.back.find? (fun p => p.1 / 32 / 16384 == n * 16 + w) with
  | none => s
  | some (k, d) => s.setCacheWord (k / 32) (k % 32) (encodeWord d)

/-! ### Cache commands (R320) -/

def ccBusy : Nat := 1
def ccBad : Nat := 2
def ccRetired : Nat := 3

def State.cacheOutcome (s : State) (o : Nat) : State :=
  (s.setFld Reg.CACHE_CMD_STATUS Fld.CACHE_CMD_STATUS_DONE 1).setFld Reg.CACHE_CMD_STATUS Fld.CACHE_CMD_STATUS_OUTCOME o

/-- A write of CACHE_CMD (R320). -/
def State.cacheCmdWrite (s : State) (v : Nat) : State :=
  let a := Reg.CACHE_CMD
  let s := s.setReg a (BitVec.ofNat 32 (v &&& 0xF303))
  let op := s.fld a Fld.CACHE_CMD_OP
  let way := s.fld a Fld.CACHE_CMD_WAY
  let use := s.fld a Fld.CACHE_CMD_USE
  if !v.testBit 31 then s
  else if s.bit Reg.CACHE_CMD_STATUS Fld.CACHE_CMD_STATUS_BUSY then s.cacheOutcome ccBusy
  else if op = 0 ∨ (op = 3 ∧ (way = 15 ∨ use = 3)) then s.cacheOutcome ccBad
  else if op = 3 ∧ use ≠ useCache ∧ (List.range 64).any (fun n => s.wayRetired n way) then s.cacheOutcome ccRetired
  else
    let s := (s.setFld Reg.CACHE_CMD_STATUS Fld.CACHE_CMD_STATUS_BUSY 1).setFld Reg.CACHE_CMD_STATUS Fld.CACHE_CMD_STATUS_PROGRESS 0
    { s with cache := { s.cache with cmd := some ⟨op, way, use, 0⟩, setuse := if op = 3 then [way] else [] } }

/-- Sets of a step: 4 µs at 32 cc a set. -/
def cmdSets : Nat := 150

/-- The places with a tag entry in the sets `lo` to `hi - 1` of the ways of `ok`; every other place is invalid. -/
def State.tagsIn (s : State) (lo hi : Nat) (ok : Nat → Nat → Bool) : List Nat :=
  (s.cache.tags.filter (fun p => decide (lo ≤ lineSet p.1 ∧ lineSet p.1 < hi) && ok (lineSlice p.1) (lineWay p.1))).map (·.1)

/-- A line's tag is read, and a dirty line written back; it stays valid if `keep`. -/
def State.flushLine (s : State) (keep : Bool) (line : Nat) : State :=
  let x := s.readTag line
  if !x.2.valid then x.1
  else
    let s := if x.2.dirty then x.1.writeBack line x.2.tag else x.1
    s.setTag line (if keep then { x.2 with dirty := false } else noTag)

/-- The places of the sets `lo` to `hi - 1` of a way, in every slice, are zero and clean. -/
def State.zeroSets (s : State) (way lo hi : Nat) : State :=
  let inside (k : Nat) : Bool := lineWay (k / 32) == way && decide (lo ≤ lineSet (k / 32) ∧ lineSet (k / 32) < hi)
  { s with cache := { s.cache with
    mem := s.cache.mem.filter (fun p => !inside p.1), back := s.cache.back.filter (fun p => !inside p.1) } }

/-- A cache command performs its next step, and completes after the last set. -/
def State.cacheStep (s : State) : State :=
  match s.cache.cmd with
  | none => s
  | some c =>
    let hi := min 16384 (c.set + cmdSets)
    let s := if c.op = 3 then
        let wasCache := s.wayUse c.way == useCache
        let l := s.tagsIn c.set hi (fun n w => w == c.way && !s.wayRetired n w)
        (l.foldl (fun s k => if wasCache then s.flushLine false k else s.setTag k noTag) s).zeroSets c.way c.set hi
      else
        (s.tagsIn c.set hi (fun n w => s.wayUse w == useCache && !s.wayRetired n w)).foldl (fun s k => s.flushLine (c.op == 1) k) s
    let s := s.setFld Reg.CACHE_CMD_STATUS Fld.CACHE_CMD_STATUS_PROGRESS hi
    if hi < 16384 then { s with cache := { s.cache with cmd := some { c with set := hi } } }
    else
      let s := { s with cache := { s.cache with cmd := none, setuse := [] } }
      let s := if c.op = 3 then (s.setFld (Reg.CACHE_WAY_CFG c.way) Fld.CACHE_WAY_CFG_USE c.use).capSync else s
      (s.setFld Reg.CACHE_CMD_STATUS Fld.CACHE_CMD_STATUS_BUSY 0).cacheOutcome 0

/-! ### FILL (R321, R462) -/

/-- A line that a retaining FILL keeps. -/
def retainedLine (line : Nat) : Bool := lineWay line == 15 && decide (lineSet line < 12288)

/-- Every line is filled: zero data, valid check bits, invalid tags. A retaining FILL decodes each word of a retained clean line, and
stamps every word of a retained line that is not clean. -/
def State.cacheFillMode (s : State) : State :=
  if s.mode ≠ modeFill ∨ s.cache.fillAt.isSome then s
  else
    let kept (k : Nat) : Bool := s.pwr.retain && retainedLine (k / 32) && !s.wayRetired (lineSlice (k / 32)) 15
    let fix (w : Word72) : Word72 :=
      let d := decodeWord w
      match d.1 with
      | .clean => w
      | .corrected => encodeWord d.2
      | _ => stampWord (wordData w)
    let mem := (s.cache.mem.filter (fun p => kept p.1)).map (fun p => (p.1, fix p.2))
    let dirty := s.cache.unclean.filter (fun l => kept (32 * l))
    let s' := { s with
      cache := { s.cache with mem := mem.filter (fun p => p.2 != 0), tags := [], plru := [], back := [], unclean := [], fills := [], fillAt := some s.now }
      pwr := { s.pwr with retain := false } }
    dirty.foldl (fun t l => (List.range 32).foldl (fun t i => t.setCacheWord l i (stampWord (wordData (s.cacheWord l i)))) t) s'

/-- The time that FILL takes: 16,384 lines of 32 cc on every channel. -/
def fillLen : Nat := 16384 * 32 * ccLen

/-- FILL ends (R321): STORE_READY and FILLED become 1, engine 0 leaves reset (R232), and the device enters LOAD. -/
def State.fillEnd (s : State) : State :=
  match s.cache.fillAt with
  | none => s
  | some e =>
    if s.mode ≠ modeFill ∨ s.now < e + fillLen then s
    else
      let s := { s with cache := { s.cache with fillAt := none } }
      let s := (s.setFld Reg.CACHE_STATUS Fld.CACHE_STATUS_FILLED 1).setFld Reg.TALLY_STATUS Fld.TALLY_STATUS_STORE_READY 1
      ((s.setReg (Reg.ENG_CTL 0) 1).startEngine 0).enterLoad

/-! ### Channel retirement (R329–R332) -/

/-- Every record of the pinned window in slice `n` is lost, and its indices are never issued again (R332). -/
def State.loseRecords (s : State) (n : Nat) : State :=
  let hit := s.sch.recs.filter (fun p => recSlice p.1 == n && p.2.state != tsFree)
  let s := { s with
    cache := { s.cache with dead := if s.cache.dead.contains n then s.cache.dead else s.cache.dead ++ [n] }
    sch := { s.sch with free := s.sch.free.filter (fun i => recSlice i != n) } }
  hit.foldl (fun s p => (s.freeRec p.1).logFault faultLost (if p.2.engine then 0 else p.2.unit) (s.handleOf p.1)) s

/-- The lines of DIRECT way `d` in slice `n` move to the highest CACHE way that is not retired (R331), or are not remapped (R332). Before
FILL has ended nothing is lost, and the remap is part of FILL (R321). -/
def State.retireDirect (s : State) (n d : Nat) : State :=
  let filled := s.bit Reg.CACHE_STATUS Fld.CACHE_STATUS_FILLED
  match (sixteen.filter (fun w => s.capWay n w && !s.cache.setuse.contains w)).getLast? with
  | none =>
    let s := { s with cache := { s.cache with served := tdel s.cache.served (n * 16 + d) } }
    if d = 15 then s.loseRecords n else s
  | some v =>
    let s := { s with cache := { s.cache with
      served := tins s.cache.served (n * 16 + d) v, victims := s.cache.victims ++ [n * 16 + v] } }
    let s := s.setFld (Reg.CACHE_SLICE n) Fld.CACHE_SLICE_VICTIM v
    if !filled then s
    else
      let s := (s.setRemaps (s.cache.remaps.filter (fun m => !(m.slice == n && m.way == d)) ++ [⟨n, d, some v, 0, []⟩])).setFld
        (Reg.CACHE_SLICE n) Fld.CACHE_SLICE_REMAP 1
      if d = 15 then s.loseRecords n else s

/-- Accesses in progress on channel `c` of slice `n` end at once (R329): a read with zero data and every word marked, a write unperformed with
ERR_RETIRED. -/
def State.endAccesses (s : State) (n c : Nat) : State :=
  s.cache.acc.foldl (fun s x => match (s.findReq x.id).bind (fun r => (r.parts[x.part]?).map (fun q => (r, q))) with
    | none => s
    | some (r, q) =>
      if q.performed ∨ x.due ≤ s.now ∨ !(s.accessLine r q).any (fun l => lineSlice l == n && lineWay l == c) then s
      else
        let s := { s with cache := { s.cache with acc := s.cache.acc.erase x } }
        if r.kind = .write ∨ !r.data.isEmpty then s.respond x.id x.part (codeAnswer rRetired)
        else s.respond x.id x.part ⟨rPoison, List.replicate q.len 0,
          List.replicate (wordSpan (q.addr % 2 ^ 48) q.len).length true, false⟩) s

/-- A group of channel `c` of slice `n` is retired at this sc edge (R329). A victim way is treated as the DIRECT way that it serves. -/
def State.retireChannel (s : State) (n c : Nat) : State :=
  if s.wayRetired n c then s
  else
    let a := Reg.CACHE_SLICE n
    let s := s.endAccesses n c
    let was := s.isVictim n c
    let s := s.setFld a Fld.CACHE_SLICE_RETIRED (s.fld a Fld.CACHE_SLICE_RETIRED + 2 ^ c)
    let s := s.setFld Reg.CACHE_INT_STATUS Fld.CACHE_INT_STATUS_RETIRED 1
    let s := if was then
        sixteen.foldl (fun s d => if tfind s.cache.served (n * 16 + d) = some c then s.retireDirect n d else s) s
      else if s.wayUse c ≠ useCache then s.retireDirect n c
      else if !s.bit Reg.CACHE_STATUS Fld.CACHE_STATUS_FILLED then s
      else (s.setRemaps (s.cache.remaps ++ [⟨n, c, none, 0, []⟩])).setFld a Fld.CACHE_SLICE_REMAP 1
    s.capSync

/-! ### The commands -/

/-- The value of a CACHE_CMD write with GO and the given OP. -/
def cmdWord (v op : Nat) : Nat := 2 ^ 31 + v / 4 * 4 % 2 ^ 31 + op

end Sys2Proof.Machine
end

