-- ==== Sys2Proof/Machine/Emc.lean ====
section
/-!
DEFINITION. External memory and inline encryption (chapter 12): the stored words (R338), protected lines (R343–R348), the security alarm
(R353, R354), requests at a controller (R339, R342), training and the map (R336, R337), and fills (R341). Memory is sparse: an unlisted
word is zero with valid check bytes; no request reads it before its granule is FILLED (R342).
-/
namespace Sys2Proof.Machine


/-! ### Stored words (R338) -/

/-- DDR5 stores both check bytes; DDR4 one. -/
def State.twoCopies (s : State) (c : Nat) : Bool := s.fld (Reg.EMC_CH_CFG c) Fld.EMC_CH_CFG_GEN == 0

/-- A word as a channel stores it, stamped or not. -/
def dramWord (two stamp : Bool) (d : Word64) : BitVec 80 :=
  let w := storeWord stamp d
  BitVec.ofNat 80 (w.toNat + (if two then wordCheck w * 2 ^ 72 else 0))

/-- A stored word decoded with the first check byte; an uncorrectable one again with the second (R338). -/
def dramDecode (two : Bool) (w : BitVec 80) : WordClass × Word64 :=
  let a := decodeWord (w.setWidth 72)
  if a.1 = .uncorrectable ∧ two then
    let b := decodeWord (packWord (w.toNat / 2 ^ 72) (w.setWidth 64))
    if b.1.bad then a else b
  else a

def dramKey (c w : Nat) : Nat := c * 2 ^ 34 + w
def State.dram (s : State) (c w : Nat) : BitVec 80 := tget (fun _ => 0) s.emc.mem (dramKey c w)
def State.setDram (s : State) (c w : Nat) (v : BitVec 80) : State :=
  { s with emc := { s.emc with mem := tput (fun _ => 0) s.emc.mem (dramKey c w) v } }

/-- What the decode of a word found, counted (R338). -/
def State.countDram (s : State) (c : Nat) (k : WordClass) : State :=
  match k with
  | .clean => s
  | .corrected => s.bump (Reg.EMC_CH_ERR c) Fld.EMC_CH_ERR_CORR 1
  | _ =>
    let s := if s.fld (Reg.EMC_CH_ERR c) Fld.EMC_CH_ERR_UNCORR = 0 then s.setFld Reg.EMC_INT_STATUS Fld.EMC_INT_STATUS_UNCORR 1 else s
    s.bump (Reg.EMC_CH_ERR c) Fld.EMC_CH_ERR_UNCORR 1

/-- Channel-local words from `w` on are decoded. -/
def State.dramRead (c : Nat) : Nat → Nat → State → State × List (WordClass × Word64)
  | 0, _, s => (s, [])
  | n + 1, w, s =>
    let d := dramDecode (s.twoCopies c) (s.dram c w)
    let x := State.dramRead c n (w + 1) (s.countDram c d.1)
    (x.1, d :: x.2)

/-- Words stored from channel-local word `w` on, each stamped or not. -/
def State.dramWrite (c : Nat) : List (Word64 × Bool) → Nat → State → State
  | [], _, s => s
  | x :: l, w, s => State.dramWrite c l (w + 1) (s.setDram c w (dramWord (s.twoCopies c) x.2 x.1))

/-! ### Ranges and keys (R343, R348) -/

/-- The enabled range that holds address `a`. -/
def State.rangeOf (s : State) (a : Nat) : Option Nat :=
  (List.range 8).find? (fun j => s.bit (Reg.XTS_RANGE_CTL j) Fld.XTS_RANGE_CTL_EN &&
    decide (s.fld (Reg.XTS_RANGE_BASE j) Fld.XTS_RANGE_BASE_GRANULE ≤ a / 2 ^ 20 ∧
      a / 2 ^ 20 ≤ s.fld (Reg.XTS_RANGE_LIMIT j) Fld.XTS_RANGE_LIMIT_GRANULE))

def State.compat (s : State) (j : Nat) : Bool := s.bit (Reg.XTS_RANGE_CTL j) Fld.XTS_RANGE_CTL_MODE

/-- Key sets: CUR and NEW of a range, a slot, a link. -/
def setCur (j : Nat) : Nat := j
def setNew (j : Nat) : Nat := 8 + j
def setSlot (k : Nat) : Nat := 16 + k
def setLink (p : Nat) : Nat := 32 + p

/-- Key `k` of a set: 0 data, 1 tweak, 2 MAC; one not loaded is zero (log entry 32). -/
def State.xtsKey (s : State) (set k : Nat) : List Nat := leBytes 32 (tget (fun _ => 0) s.emc.keys (4 * set + k)).toNat

/-- The key set for a line of range `j`, and its source code in XTS_ALARM_LOG: under rotation the lines below the pointer use NEW (R352);
a COMPAT range uses the slot of the request's key index, or DEFAULT_SLOT (R348). -/
def State.keyFor (s : State) (j a : Nat) (key : Option Nat) : Nat × Nat :=
  if s.compat j then
    let k := key.getD (s.fld (Reg.XTS_RANGE_CTL j) Fld.XTS_RANGE_CTL_DEFAULT_SLOT)
    (setSlot k, 0x10 + k)
  else match s.emc.rot with
    | some x => if x.range = j ∧ a / 256 < x.line then (setNew j, j) else (setCur j, j)
    | none => (setCur j, j)

/-! ### The security alarm (R353, R354) -/

/-- Every key is zero and unloaded, and a rotation ends (R354). -/
def State.zeroise (s : State) : State :=
  let s := { s with emc := { s.emc with keys := [], rot := none } }
  let s := (List.range 8).foldl (fun s j =>
    ((s.setFld (Reg.XTS_RANGE_CTL j) Fld.XTS_RANGE_CTL_NEW_LOADED 0).setFld (Reg.XTS_RANGE_CTL j) Fld.XTS_RANGE_CTL_CUR_LOADED 0).setFld
      (Reg.XTS_ROT j) Fld.XTS_ROT_BUSY 0) s
  let s := (List.range 16).foldl (fun s k => s.setFld (Reg.XTS_SLOT k) Fld.XTS_SLOT_LOADED 0) s
  let s := (List.range 4).foldl (fun s p => s.setFld (Reg.XTS_LINK p) Fld.XTS_LINK_LOADED 0) s
  s.setFld Reg.XTS_STATUS Fld.XTS_STATUS_ZEROISED 1

/-- RAISED is set; under POLICY ZEROISE the edge at which it is set zeroises, and the device enters SECURE HALT (R354). -/
def State.raiseAlarm (s : State) : State :=
  if s.bit Reg.XTS_ALARM Fld.XTS_ALARM_RAISED then s
  else
    let s := (s.setFld Reg.XTS_ALARM Fld.XTS_ALARM_RAISED 1).setFld Reg.XTS_INT_STATUS Fld.XTS_INT_STATUS_ALARM 1
    if s.bit Reg.XTS_ALARM Fld.XTS_ALARM_POLICY then s.zeroise.enterSecureHalt else s

/-- A tag check fails (R353): of a link, or of memory. `num` is the channel or port. -/
def State.tagFail (s : State) (link : Bool) (keysrc num where_ src a : Nat) : State :=
  let s := s.setFld Reg.XTS_ALARM (if link then Fld.XTS_ALARM_LINK_TAG else Fld.XTS_ALARM_MEM_TAG) 1
  let s := s.bump Reg.XTS_CNT_AUTH Fld.XTS_CNT_AUTH_COUNT 1
  let s := s.logSc Reg.XTS_ALARM_LOG num
    (BitVec.ofNat 32 (keysrc * 2 ^ 16 + num * 2 ^ 14 + where_ * 2 ^ 12 + src))
    [(Reg.XTS_ALARM_ADDR_LO, BitVec.ofNat 32 a), (Reg.XTS_ALARM_ADDR_HI, BitVec.ofNat 32 (a / 2 ^ 32 % 2 ^ 16))] none
  s.raiseAlarm

/-! ### Protected lines (R343–R347) -/

def nats (l : List Byte) : List Nat := l.map (·.toNat)
def bytesOf (l : List Nat) : List Byte := l.map (BitVec.ofNat 8)
def wordBytes (l : List Word64) : List Nat := l.flatMap (fun d => leBytes 8 d.toNat)
/-- The words of a run of whole words. -/
def wordsOf (l : List Nat) : List Word64 := (chunks 8 (l.length / 8) l).map (fun b => BitVec.ofNat 64 (leNat b))

/-- The tag of R344: 8 bytes. -/
def lineTag (mac cipher : List Nat) (b : Nat) : List Nat := (cmac mac (cipher ++ leBytes 8 b)).take 8

/-- The word of the tag region that holds the tag of the line at channel-local offset `off` (R345). -/
def State.tagWord (s : State) (c off : Nat) : Nat :=
  (s.fld (Reg.EMC_CH_CFG c) Fld.EMC_CH_CFG_CAP * 2 ^ 30 * 31 / 32) / 8 + off / 256

/-- A line of a tag buffer is evicted: it is written back if a word of it was written (R345). -/
def State.tagEvict (s : State) (x : TagLine) : State :=
  let s := if x.dirty then x.words.zipIdx.foldl (fun s w => s.setDram x.chan (x.line * 32 + w.2) w.1) s else s
  { s with emc := { s.emc with tags := s.emc.tags.filter (fun y => !(y.chan == x.chan && y.line == x.line)) } }

/-- The buffer of channel `c` comes to hold tag line `line`. DESIGN CHOICE: which line a full buffer evicts is a free value (log entry 93). -/
def State.tagFetch (s : State) (c line : Nat) : State :=
  if s.emc.tags.any (fun y => y.chan == c && y.line == line) then s
  else
    let mine := s.emc.tags.filter (fun y => y.chan == c)
    let s := match mine[Config.freeNat s.fresh % 64]? with
      | some x => if mine.length < 64 then s else s.draw.tagEvict x
      | none => s
    { s with emc := { s.emc with tags := s.emc.tags ++ [⟨c, line, (List.range 32).map (fun i => s.dram c (line * 32 + i)), false⟩] } }

/-- Tag word `w` of channel `c`, read through the buffer, decoded and counted (R338, R345). -/
def State.tagRead (s : State) (c w : Nat) : State × (WordClass × Word64) :=
  let s := s.tagFetch c (w / 32)
  let x := (s.emc.tags.find? (fun y => y.chan == c && y.line == w / 32)).getD default
  let d := dramDecode (s.twoCopies c) (x.words.getD (w % 32) 0)
  (s.countDram c d.1, d)

/-- Tag word `w` of channel `c`, written into the buffer. -/
def State.tagWrite (s : State) (c w : Nat) (v : Word64) : State :=
  let s := s.tagFetch c (w / 32)
  { s with emc := { s.emc with tags := s.emc.tags.map (fun y => if y.chan == c && y.line == w / 32
    then { y with words := y.words.set (w % 32) (dramWord (s.twoCopies c) false v), dirty := true } else y) } }

/-- What the read of a protected line finds (R346): its 32 plaintext words and whether a word was corrected; or that the tag did not match;
or that it could not be checked, with the words as decrypted from the bits read. -/
inductive ProtRead where
  | ok (plain : List Word64) (corrected : Bool)
  | auth
  | unverified (plain : List Word64)
  deriving DecidableEq, Repr

/-- A protected line at address `a`, channel `c`, offset `off`, read under key set `set`. -/
def State.readProt (s : State) (c off a set keysrc where_ src : Nat) : State × ProtRead :=
  let b := a / 256
  let x := State.dramRead c 32 (off / 8) s
  let cipher := wordBytes (x.2.map (·.2))
  let plain := wordsOf (xts false (s.xtsKey set 0) (s.xtsKey set 1) b cipher)
  if x.2.any (fun d => d.1.bad) then
    (x.1.bump Reg.XTS_CNT_UNVERIFIED Fld.XTS_CNT_UNVERIFIED_COUNT 1, .unverified plain)
  else
    let t := x.1.tagRead c (s.tagWord c off)
    if t.2.1.bad then (t.1.bump Reg.XTS_CNT_UNVERIFIED Fld.XTS_CNT_UNVERIFIED_COUNT 1, .unverified plain)
    else if wordBytes [t.2.2] = lineTag (s.xtsKey set 2) cipher b then
      (t.1, .ok plain (x.2.any (fun d => d.1 == .corrected) || t.2.1 == .corrected))
    else (t.1.tagFail false keysrc c where_ src a, .auth)

/-- Whether the AES block of word `i` holds a marked word. -/
def blockMarked (marks : List Bool) (i : Nat) : Bool := marks.getD (i / 2 * 2) false || marks.getD (i / 2 * 2 + 1) false

/-- A protected line encrypted, tagged and stored; both ciphertext words of a block with a marked word are stamped (R347). -/
def State.writeProt (s : State) (c off a set : Nat) (plain : List Word64) (marks : List Bool) : State :=
  let b := a / 256
  let cipher := xts true (s.xtsKey set 0) (s.xtsKey set 1) b (wordBytes plain)
  let tag := lineTag (s.xtsKey set 2) cipher b
  let ws := (wordsOf cipher).zipIdx.map (fun p => (p.1, blockMarked marks p.2))
  let s := State.dramWrite c ws (off / 8) s
  s.tagWrite c (s.tagWord c off) (BitVec.ofNat 64 (leNat tag))

/-- The line's plaintext words with the bytes of a write merged, and which words the write marks. -/
def mergeLine (a : Nat) (plain : List Word64) (from_ : Nat) (data : List Byte) (marks : List Bool) : List Word64 × List Bool :=
  let ws := (List.range 32).map (fun i =>
    mergeWord (plain.getD i 0) (byteEnables from_ data.length (a / 8 + i)) (wordOfBytes from_ data (a / 8 + i)))
  (ws, (List.range 32).map (fun i => byteEnables from_ data.length (a / 8 + i) != 0 && marks.getD (a / 8 + i - from_ / 8) false))

/-! ### Serving a piece of one line -/

def State.granuleFilled (s : State) (g : Nat) : Bool := (s.reg (Reg.EMC_FILLED (g / 32))).getLsbD (g % 32)

/-- What a controller does with a piece at address `a` for initiator `src`, before it touches DRAM. -/
inductive EmcGate where
  | answer (s : State) (code : Nat)
  | forward
  | direct
  
/-- The checks in order: the granule is FILLED (R342); the keys have not been zeroised (R354); and whether the cache serves it (R339). -/
def State.emcGate (s : State) (a src : Nat) (bypass : Bool) : EmcGate :=
  if !s.granuleFilled (a / 2 ^ 20) then .answer (s.bump Reg.EMC_CNT_UNINIT Fld.EMC_CNT_UNINIT_COUNT 1) rUninit
  else if s.bit Reg.XTS_STATUS Fld.XTS_STATUS_ZEROISED && (s.rangeOf a).isSome then .answer s rAuth
  else if s.bit Reg.EMC_CTL Fld.EMC_CTL_CACHE_EN && !bypass && src != srcScrub && src != srcCache && src != srcFill &&
      !(s.rangeOf a).any s.compat then .forward
  else .direct

/-- Whether a write of `len` bytes needs no read of DRAM: outside every range, or of a whole line (R347). -/
def State.noRead (s : State) (a len : Nat) : Bool := (s.rangeOf a).isNone || len == 256

/-- A read of a piece, its line having come from DRAM (R338, R346). -/
def State.servePieceRead (s : State) (a len src : Nat) (key : Option Nat) : State × Answer :=
  match s.extPlace a with
  | none => (s, codeAnswer rDecode)
  | some (c, off) =>
    let words := wordSpan a len
    match s.rangeOf a with
    | none =>
      let x := State.dramRead c words.length (off / 8) s
      (x.1, ⟨classCode (x.2.map (·.1)), bytesOfWords a len (fun w => (x.2.getD (w - a / 8) (.clean, 0)).2), x.2.map (fun d => d.1.bad), false⟩)
    | some j =>
      let k := s.keyFor j a key
      let b := a / 256 * 256
      let bytes (plain : List Word64) : List Byte := bytesOfWords a len (fun w => plain.getD (w - b / 8) 0)
      match s.readProt c (off / 256 * 256) b k.1 k.2 0 src with
      | (s, .ok plain corr) => (s, ⟨if corr then rCorrected else rOK, bytes plain, words.map (fun _ => false), false⟩)
      | (s, .auth) => (s, codeAnswer rAuth)
      | (s, .unverified plain) => (s, ⟨rPoison, bytes plain, words.map (fun _ => true), false⟩)

/-- One word of a write outside every range (R323). -/
def State.plainWrite (c off a : Nat) (data : List Byte) (marks : List Bool) : List Nat → State → State × Nat
  | [], s => (s, rOK)
  | w :: l, s =>
    let cw := off / 8 + (w - a / 8)
    let be := byteEnables a data.length w
    let new := wordOfBytes a data w
    let mark := marks.getD (w - a / 8) false
    let d := dramDecode (s.twoCopies c) (s.dram c cw)
    let s := if be = 0xFF then s.setDram c cw (dramWord (s.twoCopies c) mark new)
      else (s.countDram c d.1).setDram c cw (dramWord (s.twoCopies c) (mark || d.1.bad) (mergeWord d.2 be new))
    let x := State.plainWrite c off a data marks l s
    (x.1, worseCode (if be = 0xFF then rOK else classCode [d.1]) x.2)

/-- A write of a piece (R323, R347). -/
def State.servePieceWrite (s : State) (a src : Nat) (key : Option Nat) (data : List Byte) (marks : List Bool) : State × Answer :=
  match s.extPlace a with
  | none => (s, codeAnswer rDecode)
  | some (c, off) =>
    match s.rangeOf a with
    | none =>
      let x := State.plainWrite c off a data marks (wordSpan a data.length) s
      (x.1, codeAnswer x.2)
    | some j =>
      let k := s.keyFor j a key
      let b := a / 256 * 256
      let o := off / 256 * 256
      if data.length = 256 then
        let m := mergeLine b [] a data marks
        (s.writeProt c o b k.1 m.1 m.2, codeAnswer rOK)
      else match s.readProt c o b k.1 k.2 1 src with
        | (s, .ok plain corr) =>
          let m := mergeLine b plain a data marks
          (s.writeProt c o b k.1 m.1 m.2, codeAnswer (if corr then rCorrected else rOK))
        | (s, .auth) => (s, codeAnswer rAuth)
        | (s, .unverified plain) =>
          let m := mergeLine b plain a data marks
          (s.writeProt c o b k.1 m.1 (List.replicate 32 true), codeAnswer rPoison)

/-! ### Requests at a controller (R339, R342, R454, R455) -/

def State.setJobs (s : State) (l : List EmcJob) : State := { s with emc := { s.emc with jobs := l } }
def State.dropJob (s : State) (id p : Nat) : State := s.setJobs (s.emc.jobs.filter (fun j => !(j.id == id && j.part == p)))
def State.findJob (s : State) (id p : Nat) : Option EmcJob := s.emc.jobs.find? (fun j => j.id == id && j.part == p)
def State.putJob (s : State) (j : EmcJob) : State := (s.dropJob j.id j.part).setJobs ((s.dropJob j.id j.part).emc.jobs ++ [j])

/-- A write that touches two lines becomes one part for each, which are performed independently and fail with their own address
(R339). -/
def State.splitWrite (s : State) (id p : Nat) : State :=
  match s.findReq id with
  | none => s
  | some r =>
    match r.parts[p]? with
    | none => s
    | some q =>
      match r.kind, linePieces q.addr q.len with
      | .write, [x, y] =>
        s.mapReq id (fun r => { r with parts :=
          (r.parts.modify p (fun q => { q with len := x.2 })) ++ [freshPart q.stream (q.off + x.2) ⟨y.1, y.2, q.router, q.port⟩] })
      | _, _ => s

/-- A job that is over: the part is answered. -/
def State.endJob (s : State) (j : EmcJob) : State := (s.dropJob j.id j.part).respond j.id j.part j.ans

/-- What becomes of the piece in hand, and the pieces after it, until one waits for the cache or for DRAM. -/
def State.runJob (r : Request) : Nat → EmcJob → State → State
  | 0, j, s => s.putJob j
  | fuel + 1, j, s =>
    match j.left with
    | [] => s.endJob j
    | (a, len) :: rest =>
      let write := r.kind == .write
      let base := (r.parts.getD j.part default).addr % 2 ^ 48
      let data := if write then ((partData r (r.parts.getD j.part default)).drop (a - base)).take len else []
      let marks := if write then (partMarks r (r.parts.getD j.part default)).drop (a / 8 - base / 8) else []
      let next (s : State) (x : Answer) : State :=
        State.runJob r fuel { j with left := rest, fwd := none, bypass := false, ans := j.ans.append x } s
      match s.emcGate a r.src j.bypass with
      | .answer s c => next s (codeAnswer c)
      | .forward =>
        match s.extPlace a with
        | none => next s (codeAnswer rDecode)
        | some (c, _) =>
          let k := channelRouter c
          let n := fold6 (extLine a)
          ((s.putJob { j with fwd := some s.noc.nextId }).begin_ j.id j.part).lineRequest k (forwardLane k) n portCACHE .forward a len data marks
      | .direct =>
        match s.extPlace a with
        | none => next s (codeAnswer rDecode)
        | some (c, _) =>
          match s.domainGate (domChannel c) j.id j.part (r.src == srcCache) with
          | .wait => s.putJob j
          | .done s => (match s.findReq j.id with
            | some r' => if (r'.parts.getD j.part default).performed then s.dropJob j.id j.part else s.putJob j
            | none => s.dropJob j.id j.part)
          | .open_ =>
            let s := s.unhold (domChannel c) j.id j.part
            if write && s.noRead a len then
              let x := s.servePieceWrite a r.src r.key data marks
              next x.1 x.2
            else (s.putJob { j with fwd := none, dram := true }).begin_ j.id j.part

/-- A request part reaches its controller (R339). -/
def State.emcRequest (s : State) (id p : Nat) : State :=
  match s.servable id p with
  | none => s
  | some (r, q) =>
    let a := q.addr % 2 ^ 48
    if q.port ≠ portAUX ∨ a ≥ 0x0080_0000_0000 ∨ !s.isLocal q.addr ∨
        (r.kind ≠ .read ∧ r.kind ≠ .write) then s
    else
      match s.findJob id p with
      | some j => if j.fwd.isSome || j.dram then s else State.runJob r 3 j s
      | none =>
        let s := (s.arriveAt id p).splitWrite id p
        match s.findReq id with
        | none => s
        | some r =>
          let q := r.parts.getD p default
          State.runJob r 3 ⟨id, p, none, false, false, linePieces (q.addr % 2 ^ 48) q.len, noAnswer⟩ s

/-- The line of the piece in hand has come from DRAM: it is served, and the pieces after it go on (R346, R347). -/
def State.dramComplete (s : State) (id p : Nat) : State :=
  match s.findJob id p, s.findReq id with
  | some j, some r =>
    if (r.parts.getD p default).performed then s.dropJob id p
    else if !j.dram then s
    else match j.left with
      | [] => s
      | (a, len) :: rest =>
        let q := r.parts.getD p default
        let base := q.addr % 2 ^ 48
        let x := match s.emcGate a r.src true with
          | .answer s c => (s, codeAnswer c)
          | _ => if r.kind = ReqKind.write then
              s.servePieceWrite a r.src r.key (((partData r q).drop (a - base)).take len) ((partMarks r q).drop (a / 8 - base / 8))
            else s.servePieceRead a len r.src r.key
        State.runJob r 3 { j with left := rest, dram := false, bypass := false, ans := j.ans.append x.2 } x.1
  | _, _ => s.dropJob id p

/-- The answer to a forward reaches its controller: BYPASS makes it serve the piece itself (R339). -/
def State.forwardDelivered (s : State) (bypass : Bool) (d : Delivered) : State :=
  match s.emc.jobs.find? (fun j => j.fwd == some d.id) with
  | none => s
  | some j =>
    match s.findReq j.id with
    | none => s.dropJob j.id j.part
    | some r =>
      if (r.parts.getD j.part default).performed then s.dropJob j.id j.part
      else if bypass then State.runJob r 3 { j with fwd := none, bypass := true } s
      else State.runJob r 3 { j with fwd := none, left := j.left.tail, ans := j.ans.append ⟨d.code, d.bytes, d.marks, false⟩ } s

/-- The controllers take the answers of their forwards. -/
def State.emcInbox (s : State) (bypass : Bool) : State :=
  s.takeInbox (fun d => d.src == srcCache && d.kind == .forward) (fun s d => s.forwardDelivered bypass d)

/-- The header bit BYPASS of the answer to part `p` of request `id`. -/
def State.bypassOf (s : State) (id p : Nat) : Bool :=
  (s.findReq id).any (fun r => (r.parts[p]?).any (fun q => q.answer.any (·.bypass)))

/-! ### Training and the map (R336, R337) -/

def chAbsent : Nat := 0
def chTraining : Nat := 1
def chReady : Nat := 2
def chFailed : Nat := 3
def chMapped : Nat := 4
def State.chState (s : State) (c : Nat) : Nat := s.fld (Reg.EMC_CH_STATUS c) Fld.EMC_CH_STATUS_STATE
def State.setChState (s : State) (c v : Nat) : State := s.setFld (Reg.EMC_CH_STATUS c) Fld.EMC_CH_STATUS_STATE v

/-- A write of EMC_CH_CFG(c) (R336). -/
def State.chCfgWrite (s : State) (c v : Nat) : State :=
  if s.chState c ≠ chAbsent ∧ s.chState c ≠ chFailed then s
  else
    let s := s.setReg (Reg.EMC_CH_CFG c) (BitVec.ofNat 32 (v &&& 0x8F0CFF00))
    if v.testBit 31 && v.testBit 30 then s.setChState c chTraining else s

/-- Training of a channel ends; `ok` is what the training of the DRAM found. -/
def State.trainEnd (s : State) (c : Nat) (ok : Bool) : State :=
  let a := Reg.EMC_CH_CFG c
  let cap := s.fld a Fld.EMC_CH_CFG_CAP
  if s.chState c ≠ chTraining ∨ s.gateState (80 + c) ≠ 0 then s
  else if ok && decide (s.fld a Fld.EMC_CH_CFG_GEN < 2 ∧ s.fld a Fld.EMC_CH_CFG_SPEED < 3 ∧ 1 ≤ cap ∧ cap ≤ 128) then s.setChState c chReady
  else (s.setChState c chFailed).setFld Reg.EMC_INT_STATUS Fld.EMC_INT_STATUS_TRAIN_FAIL 1

/-- A write of EMC_CTL (R337). -/
def State.emcCtlWrite (s : State) (v : Nat) : State :=
  let s := s.setFld Reg.EMC_CTL Fld.EMC_CTL_CACHE_EN (v / 4)
  let mapped := s.bit Reg.EMC_STATUS Fld.EMC_STATUS_MAPPED
  let s := if mapped then s else s.setFld Reg.EMC_CTL Fld.EMC_CTL_TAGS (v / 2)
  if !v.testBit 31 then s
  else
    let ready := (List.range 4).filter (fun c => s.chState c == chReady)
    if mapped || ready.isEmpty then s.setFld Reg.EMC_STATUS Fld.EMC_STATUS_MAP_REFUSED 1
    else
      let s := ready.foldl (fun s c => s.setChState c chMapped) s
      let total := (ready.map s.usable).foldl (· + ·) 0
      (s.setFld Reg.EMC_STATUS Fld.EMC_STATUS_CAPACITY (total / 2 ^ 20)).setFld Reg.EMC_STATUS Fld.EMC_STATUS_MAPPED 1

/-! ### Fills (R341) -/

def State.capacity (s : State) : Nat := s.fld Reg.EMC_STATUS Fld.EMC_STATUS_CAPACITY

def State.fillOutcome (s : State) (o : Nat) : State :=
  (s.setFld Reg.EMC_FILL_STATUS Fld.EMC_FILL_STATUS_DONE 1).setFld Reg.EMC_FILL_STATUS Fld.EMC_FILL_STATUS_OUTCOME o

/-- A fill ends. -/
def State.fillStop (s : State) (o : Nat) : State :=
  let s := { s with emc := { s.emc with fill := none } }
  ((s.setFld Reg.EMC_FILL_STATUS Fld.EMC_FILL_STATUS_BUSY 0).fillOutcome o).setFld Reg.EMC_INT_STATUS Fld.EMC_INT_STATUS_FILL_DONE 1

/-- A write of EMC_FILL_CTL (R341). -/
def State.fillCtlWrite (s : State) (v : Nat) : State :=
  let s := if v.testBit 30 then { s with emc := { s.emc with fill := s.emc.fill.map (fun f => { f with cancel := true }) } } else s
  if !v.testBit 31 then s
  else
    let start := s.fld Reg.EMC_FILL_START Fld.EMC_FILL_START_GRANULE
    let count := s.fld Reg.EMC_FILL_COUNT Fld.EMC_FILL_COUNT_GRANULE
    if s.bit Reg.EMC_FILL_STATUS Fld.EMC_FILL_STATUS_BUSY then s.fillOutcome 1
    else if !s.bit Reg.EMC_STATUS Fld.EMC_STATUS_MAPPED then s.fillOutcome 2
    else if count = 0 ∨ s.capacity < start + count then s.fillOutcome 3
    else
      let s := (s.setFld Reg.EMC_FILL_STATUS Fld.EMC_FILL_STATUS_BUSY 1).setFld Reg.EMC_FILL_STATUS Fld.EMC_FILL_STATUS_PROGRESS 0
      { s with emc := { s.emc with fill := some ⟨start, count, 0, false⟩ } }

/-- A full-line write of zeros by the fill. -/
def State.fillLine (s : State) (a : Nat) : State :=
  match s.extPlace a with
  | none => s
  | some (c, off) =>
    match s.rangeOf a with
    | none =>
      let k := dramKey c (off / 8)
      { s with emc := { s.emc with mem := s.emc.mem.filter (fun p => !decide (k ≤ p.1 ∧ p.1 < k + 32)) } }
    | some j =>
      if s.bit Reg.XTS_STATUS Fld.XTS_STATUS_ZEROISED then s
      else s.writeProt c off a (s.keyFor j a none).1 (List.replicate 32 0) []

/-- Lines of a fill in one step of the sequencer. -/
def fillLines : Nat := 256

/-- A fill passes a granule. -/
def State.granulePassed (s : State) (f : EmcFill) : State :=
  let s := s.bump Reg.EMC_FILL_STATUS Fld.EMC_FILL_STATUS_PROGRESS 1
  let s := { s with emc := { s.emc with fill := some { f with granule := f.granule + 1, left := f.left - 1, line := 0 } } }
  if f.left ≤ 1 then s.fillStop 0 else if f.cancel then s.fillStop 4 else s

/-- The fill performs its next step: up to 256 lines of the granule in hand, which is FILLED after its last; a granule already FILLED is
passed over. It waits while a channel's domain is not ON, and a granule whose lines may not be written (R354) stays UNFILLED. -/
def State.fillStep (s : State) : State :=
  match s.emc.fill with
  | none => s
  | some f =>
    if s.mappedChannels.any (fun c => s.domState (domChannel c) != dsOn) then s
    else if s.granuleFilled f.granule then s.granulePassed f
    else
      let hi := f.line + fillLines
      let s := ((List.range fillLines).map (fun i => f.granule * 2 ^ 20 + (f.line + i) * 256)).foldl State.fillLine s
      let s := s.statCount srcFill 8 (fillLines * 256)
      if hi < 4096 then { s with emc := { s.emc with fill := some { f with line := hi } } }
      else
        let a := Reg.EMC_FILLED (f.granule / 32)
        let barred := s.bit Reg.XTS_STATUS Fld.XTS_STATUS_ZEROISED && (s.rangeOf (f.granule * 2 ^ 20)).isSome
        let s := if barred then s else s.setReg a (s.reg a ||| BitVec.ofNat 32 (2 ^ (f.granule % 32)))
        s.granulePassed f

end Sys2Proof.Machine
end

