-- ==== Sys2Proof/Machine/Keys.lean ====
section
/-!
DEFINITION. The XTS registers (R350–R352, R358, R359): ranges, keys, rotation and the alarm's own registers.
-/
namespace Sys2Proof.Machine


/-! ### Results and the secure domain (R351) -/

def xrDone : Nat := 0
def xrNoTags : Nat := 1
def xrBounds : Nat := 2
def xrOverlap : Nat := 3
def xrNoKey : Nat := 4
def xrSameKey : Nat := 5
def xrFilled : Nat := 6
def xrInUse : Nat := 7
def xrBusy : Nat := 8
def xrRotRefused : Nat := 9

def State.xtsResult (s : State) (c : Nat) : State := s.setFld Reg.XTS_STATUS Fld.XTS_STATUS_RESULT c

/-- A write to the XTS span from outside the secure domain does nothing but this (R351, R359). -/
def State.xtsRefuse (s : State) : State :=
  let first := !s.bit Reg.XTS_STATUS Fld.XTS_STATUS_REFUSED
  let s := s.setFld Reg.XTS_STATUS Fld.XTS_STATUS_REFUSED 1
  if first then s.setFld Reg.XTS_INT_STATUS Fld.XTS_INT_STATUS_REFUSED 1 else s

/-- A write of the secure domain, which is engine 0; from any other initiator it is refused. -/
def State.xtsWrite (s : State) (src : Nat) (f : State → State) : State := if src = 0 then f s else s.xtsRefuse

/-! ### Ranges (R350) -/

def State.rangeBase (s : State) (j : Nat) : Nat := s.fld (Reg.XTS_RANGE_BASE j) Fld.XTS_RANGE_BASE_GRANULE
def State.rangeLimit (s : State) (j : Nat) : Nat := s.fld (Reg.XTS_RANGE_LIMIT j) Fld.XTS_RANGE_LIMIT_GRANULE
def State.rangeEn (s : State) (j : Nat) : Bool := s.bit (Reg.XTS_RANGE_CTL j) Fld.XTS_RANGE_CTL_EN

/-- Whether the data and tweak keys of a set are equal. -/
def State.sameKeys (s : State) (set : Nat) : Bool := s.xtsKey set 0 == s.xtsKey set 1

/-- Whether one of the granules `lo` to `hi` is FILLED. -/
def State.anyFilled (s : State) (lo hi : Nat) : Bool :=
  (List.range (hi / 32 + 1 - lo / 32)).any (fun i =>
    let k := lo / 32 + i
    (List.range 32).any (fun b => decide (lo ≤ 32 * k + b ∧ 32 * k + b ≤ hi) && (s.reg (Reg.EMC_FILLED k)).getLsbD b))

/-- The check of EN = 1, in the order of R350. -/
def State.rangeCheck (s : State) (j : Nat) : Nat :=
  let a := Reg.XTS_RANGE_CTL j
  let lo := s.rangeBase j
  let hi := s.rangeLimit j
  let slot := s.fld a Fld.XTS_RANGE_CTL_DEFAULT_SLOT
  let set := if s.compat j then setSlot slot else setCur j
  let loaded := if s.compat j then s.fld (Reg.XTS_SLOT slot) Fld.XTS_SLOT_LOADED else s.fld a Fld.XTS_RANGE_CTL_CUR_LOADED
  if !s.bit Reg.EMC_CTL Fld.EMC_CTL_TAGS || !s.bit Reg.EMC_STATUS Fld.EMC_STATUS_MAPPED then xrNoTags
  else if hi < lo ∨ s.capacity ≤ hi then xrBounds
  else if (List.range 8).any (fun k => k != j && s.rangeEn k && decide (s.rangeBase k ≤ hi ∧ lo ≤ s.rangeLimit k)) then xrOverlap
  else if loaded ≠ 7 then xrNoKey
  else if s.sameKeys set then xrSameKey
  else if s.anyFilled lo hi then xrFilled
  else xrDone

/-- A write of XTS_RANGE_CTL(j): while EN is 1 the other fields are locked. -/
def State.rangeCtlWrite (s : State) (j v : Nat) : State :=
  let a := Reg.XTS_RANGE_CTL j
  if s.rangeEn j then (if v.testBit 31 then s else s.setFld a Fld.XTS_RANGE_CTL_EN 0)
  else
    let s := (s.setFld a Fld.XTS_RANGE_CTL_MODE (v / 2 ^ 30)).setFld a Fld.XTS_RANGE_CTL_DEFAULT_SLOT (v / 2 ^ 8)
    if !v.testBit 31 then s
    else
      let c := s.rangeCheck j
      (if c = xrDone then s.setFld a Fld.XTS_RANGE_CTL_EN 1 else s).xtsResult c

/-! ### Keys (R351) -/

def keyCur : Nat := 0
def keyNew : Nat := 1
def keySlot : Nat := 2
def keyLink : Nat := 3

/-- The staged key. -/
def State.stagedKey (s : State) : BitVec 256 :=
  BitVec.ofNat 256 (((List.range 8).map (fun i => (s.reg (Reg.XTS_KEY_STAGE i)).toNat * 2 ^ (32 * i))).foldl (· + ·) 0)

def State.clearStage (s : State) : State := (List.range 8).foldl (fun s i => s.setReg (Reg.XTS_KEY_STAGE i) 0) s

/-- The register and field of a key set's LOADED bits, its number, and how many sets there are of the kind. -/
def keyPlace (kind idx : Nat) : Nat × Field × Nat × Nat :=
  if kind = keyCur then (Reg.XTS_RANGE_CTL idx, Fld.XTS_RANGE_CTL_CUR_LOADED, setCur idx, 8)
  else if kind = keyNew then (Reg.XTS_RANGE_CTL idx, Fld.XTS_RANGE_CTL_NEW_LOADED, setNew idx, 8)
  else if kind = keySlot then (Reg.XTS_SLOT idx, Fld.XTS_SLOT_LOADED, setSlot idx, 16)
  else (Reg.XTS_LINK idx, Fld.XTS_LINK_LOADED, setLink idx, 4)

/-- The staged key is copied into key `key` of the named set, and the stage zeroed; a place that does not exist takes nothing (log
entry 33). -/
def State.keyLoad (s : State) (kind key idx : Nat) : State :=
  let p := keyPlace kind idx
  if key = 3 ∨ p.2.2.2 ≤ idx then s
  else if kind = keyCur ∧ s.rangeEn idx then s.xtsResult xrInUse
  else if kind = keyNew ∧ s.bit (Reg.XTS_ROT idx) Fld.XTS_ROT_BUSY then s.xtsResult xrBusy
  else
    let s := { s with emc := { s.emc with keys := tput (fun _ => 0) s.emc.keys (4 * p.2.2.1 + key) s.stagedKey } }
    let was := s.fld p.1 p.2.1
    ((s.setFld p.1 p.2.1 (was ||| 2 ^ key)).clearStage).xtsResult xrDone

/-- A write of XTS_KEY_CMD; without GO it does nothing. -/
def State.keyCmdWrite (s : State) (v : Nat) : State :=
  if v.testBit 31 then s.keyLoad (v / 2 ^ 8 % 4) (v / 2 ^ 4 % 4) (v % 16) else s

/-! ### Rotation (R352) -/

/-- A write of XTS_ROT(j). -/
def State.rotWrite (s : State) (j v : Nat) : State :=
  let a := Reg.XTS_ROT j
  let s := if v.testBit 29 then s.setFld a Fld.XTS_ROT_DONE 0 else s
  if !v.testBit 31 then s
  else if s.rangeEn j && !s.compat j && s.fld (Reg.XTS_RANGE_CTL j) Fld.XTS_RANGE_CTL_NEW_LOADED == 7 && !s.sameKeys (setNew j) &&
      (List.range 8).all (fun k => !s.bit (Reg.XTS_ROT k) Fld.XTS_ROT_BUSY) then
    let l := s.rangeBase j * 4096
    let s := ((s.setFld a Fld.XTS_ROT_BUSY 1).setReg (Reg.XTS_ROT_PTR j) (BitVec.ofNat 32 l)).xtsResult xrDone
    { s with emc := { s.emc with rot := some ⟨j, l⟩ } }
  else s.xtsResult xrRotRefused

/-- Lines of a rotation in one step of the sequencer. -/
def rotLines : Nat := 64

/-- A line is read under CUR and written under NEW; one that fails its check, or is poisoned, is written with every word stamped. -/
def State.rotLine (s : State) (j line : Nat) : State :=
  let a := line * 256
  match s.extPlace a with
  | none => s
  | some (c, off) =>
    match s.readProt c off a (setCur j) j 2 srcSeq with
    | (s, .ok plain _) => s.writeProt c off a (setNew j) plain []
    | (s, .unverified plain) => s.writeProt c off a (setNew j) plain (List.replicate 32 true)
    | (s, .auth) =>
      if s.bit Reg.XTS_STATUS Fld.XTS_STATUS_ZEROISED then s
      else
        let x := State.dramRead c 32 (off / 8) s
        let plain := wordsOf (xts false (s.xtsKey (setCur j) 0) (s.xtsKey (setCur j) 1) line (wordBytes (x.2.map (·.2))))
        s.writeProt c off a (setNew j) plain (List.replicate 32 true)

/-- Lines of the range from the pointer on, until the step or the range ends; a line of an UNFILLED granule is passed over. -/
def State.rotRun (j last : Nat) : Nat → State → State
  | 0, s => s
  | n + 1, s =>
    match s.emc.rot with
    | none => s
    | some x =>
      if last < x.line then s
      else
        let filled := s.granuleFilled (x.line / 4096)
        let s := if filled then s.rotLine j x.line else s
        let nxt := if filled then x.line + 1 else (x.line / 4096 + 1) * 4096
        let s := { s with emc := { s.emc with rot := some ⟨j, nxt⟩ } }
        State.rotRun j last n (s.setReg (Reg.XTS_ROT_PTR j) (BitVec.ofNat 32 nxt))

/-- NEW becomes CUR and is unloaded; the rotation is over. -/
def State.rotEnd (s : State) (j : Nat) : State :=
  let key (k : Nat) : BitVec 256 := tget (fun _ => 0) s.emc.keys (4 * setNew j + k)
  let keys := [0, 1, 2].foldl (fun t k => tput (fun _ => 0) (tput (fun _ => 0) t (4 * setCur j + k) (key k)) (4 * setNew j + k) 0) s.emc.keys
  let s := { s with emc := { s.emc with rot := none, keys := keys } }
  let a := Reg.XTS_RANGE_CTL j
  let s := (s.setFld a Fld.XTS_RANGE_CTL_CUR_LOADED 7).setFld a Fld.XTS_RANGE_CTL_NEW_LOADED 0
  let s := (s.setFld (Reg.XTS_ROT j) Fld.XTS_ROT_BUSY 0).setFld (Reg.XTS_ROT j) Fld.XTS_ROT_DONE 1
  (s.setReg (Reg.XTS_ROT_PTR j) (BitVec.ofNat 32 (s.rangeBase j * 4096))).setFld Reg.XTS_INT_STATUS Fld.XTS_INT_STATUS_ROT_DONE 1

/-- A rotation performs its next step; it waits while a channel's domain is not ON. -/
def State.rotStep (s : State) : State :=
  match s.emc.rot with
  | none => s
  | some x =>
    if s.mappedChannels.any (fun c => s.domState (domChannel c) != dsOn) then s
    else
      let last := (s.rangeLimit x.range + 1) * 4096 - 1
      let s := State.rotRun x.range last rotLines s
      if s.emc.rot.any (fun y => decide (last < y.line)) then s.rotEnd x.range else s

/-! ### Other registers of the span (R358, R359) -/

/-- A write of XTS_ALARM: W1C, W1S LOCK, and POLICY while LOCK is 0. -/
def State.alarmWrite (s : State) (v : Nat) : State :=
  let a := Reg.XTS_ALARM
  let s := if s.bit a Fld.XTS_ALARM_LOCK then s else s.setFld a Fld.XTS_ALARM_POLICY (v / 4)
  let s := if v.testBit 3 then s.setFld a Fld.XTS_ALARM_LOCK 1 else s
  let s := if v.testBit 31 then s.setFld a Fld.XTS_ALARM_RAISED 0 else s
  let s := if v.testBit 1 then s.setFld a Fld.XTS_ALARM_LINK_TAG 0 else s
  if v.testBit 0 then s.setFld a Fld.XTS_ALARM_MEM_TAG 0 else s

end Sys2Proof.Machine
end

