-- ==== Sys2Proof/Machine/Scrub.lean ====
section
/-!
DEFINITION. Scrubbing (R324–R328): the pass, its requests, the targets that serve them, and the summary.
-/
namespace Sys2Proof.Machine


def scrubCache : Nat := 0
def scrubScratch : Nat := 1
def scrubExt : Nat := 2
def scrubLines : Nat := 3

/-! ### The pass (R324, R325, R328) -/

def State.scrubOutcome (s : State) (o : Nat) : State :=
  (s.setFld Reg.SCRUB_STATUS Fld.SCRUB_STATUS_DONE 1).setFld Reg.SCRUB_STATUS Fld.SCRUB_STATUS_OUTCOME o

/-- The range of R24 over which a kind runs: first address and first address after it. -/
def scrubRange (kind : Nat) : Nat × Nat :=
  if kind = scrubCache then (cacheBase, 0x0081_0000_0000)
  else if kind = scrubScratch then (scrBase, scrBase + 0x0180_0000)
  else (0, cacheBase)

/-- A write of SCRUB_CTL. -/
def State.scrubCtlWrite (s : State) (v : Nat) : State :=
  let s := s.setFld Reg.SCRUB_CTL Fld.SCRUB_CTL_KIND v
  let s := if v.testBit 30 then { s with scrub := s.scrub.map (fun x => { x with cancel := true }) } else s
  if !v.testBit 31 then s
  else
    let kind := s.fld Reg.SCRUB_CTL Fld.SCRUB_CTL_KIND
    let base := s.reg48 Reg.SCRUB_BASE_LO Reg.SCRUB_BASE_HI
    let len := (s.reg Reg.SCRUB_LEN).toNat
    let g := scrubRange kind
    if s.bit Reg.SCRUB_STATUS Fld.SCRUB_STATUS_BUSY then s.scrubOutcome 1
    else if kind ≠ scrubLines ∧ (base % 256 ≠ 0 ∨ len = 0 ∨ base < g.1 ∨ g.2 < base + 256 * len) then s.scrubOutcome 2
    else
      let s := [Reg.SCRUB_SUM_CORR, Reg.SCRUB_SUM_UNCORR, Reg.SCRUB_SUM_STAMPED, Reg.SCRUB_SUM_SKIPPED, Reg.SCRUB_SUM_LOGGED,
        Reg.SCRUB_PROGRESS].foldl (fun s a => s.setReg a 0) s
      { s.setFld Reg.SCRUB_STATUS Fld.SCRUB_STATUS_BUSY 1 with
        scrub := some (if kind = scrubLines then ⟨kind, 0, 1, false, none⟩ else ⟨kind, base, len, false, none⟩) }

/-- The next valid line of a CACHE way at place `k` or above. -/
def State.nextValidLine (s : State) (k : Nat) : Option Nat :=
  (s.cache.tags.find? (fun p => decide (k ≤ p.1) && s.wayUse (lineWay p.1) == useCache &&
    !s.isVictim (lineSlice p.1) (lineWay p.1) && !s.wayRetired (lineSlice p.1) (lineWay p.1) && ((s.readTag p.1).2.valid || (decodeWord p.2.1).1.bad && (decodeWord p.2.2).1.bad))).map (·.1)

/-- Whether a request of the scrubber waits for its answer. -/
def State.scrubOut (s : State) : Bool := s.noc.reqs.any (fun r => r.src == srcScrub && !r.done)

/-- The pass ends when its last line has been answered, and after a cancel at a step boundary, when nothing is outstanding (R328). -/
def State.scrubCheck (s : State) (step : Bool) : State :=
  match s.scrub with
  | none => s
  | some x =>
    if (x.left = 0 ∨ (x.cancel ∧ step)) ∧ !s.scrubOut then
      let s := ({ s with scrub := none }).setFld Reg.SCRUB_STATUS Fld.SCRUB_STATUS_BUSY 0
      (s.scrubOutcome (if x.left = 0 then 0 else 3)).setFld Reg.SCRUB_INT_STATUS Fld.SCRUB_INT_STATUS_DONE 1
    else s

/-- A request of the scrubber to a slice for a line of its own (KIND 0b11). -/
def State.scrubLineRequest (s : State) (line : Nat) : State :=
  let pc : Piece := ⟨line, 256, lineSlice line, portCACHE⟩
  s.post ⟨0, srcScrub, 0, 0, .scrub, line, 256, [], [], none, scrubLines, s.now, s.epochNow, none, [], none,
    [freshPart 0 0 pc], false, true, [], [], none⟩

/-- The scrubber sends its next request, at most one every 8 nc. -/
def State.scrubSend (s : State) : State :=
  match s.scrub with
  | none => s
  | some x =>
    if x.left = 0 ∨ x.cancel ∨ x.lastAt.any (fun t => decide (s.now < t + 8 * ncLen)) then s
    else if x.kind = scrubLines then
      match s.nextValidLine x.next with
      | none => ({ s with scrub := some { x with left := 0 } }).scrubCheck false
      | some k => ({ s with scrub := some { x with next := k + 1, lastAt := some s.now } }).scrubLineRequest k
    else
      ({ s with scrub := some { x with next := x.next + 256, left := x.left - 1, lastAt := some s.now } }).accept
        srcScrub 0 0 .scrub x.next 256 [] [] none x.kind

/-! ### At the target (R325–R327) -/

/-- Word `i` of a cache line is scrubbed. -/
def State.scrubCacheWord (s : State) (line i : Nat) : State × WordClass :=
  let d := decodeWord (s.cacheWord line i)
  let s := s.countCache line i d.1 d.2
  match d.1 with
  | .corrected => (s.setCacheWord line i (encodeWord d.2), d.1)
  | .uncorrectable => (s.setCacheWord line i (stampWord d.2), d.1)
  | _ => (s, d.1)

def State.scrubCacheLine (line : Nat) : List Nat → State → State × List WordClass
  | [], s => (s, [])
  | i :: l, s =>
    let x := s.scrubCacheWord line i
    let y := State.scrubCacheLine line l x.1
    (y.1, x.2 :: y.2)

/-- A valid line of a CACHE way: an uncorrectable word in a clean line invalidates it instead; the answer also names the line's external
address (log entry 34). -/
def State.scrubOwnLine (s : State) (line : Nat) : State × List Byte :=
  let x := s.readTag line
  let a := tagAddr (lineSlice line) (lineSet line) x.2.tag
  if !x.2.valid then (x.1, scrubMasks [] ++ toBytes 8 0)
  else if !x.2.dirty && (List.range 32).any (fun i => (decodeWord (x.1.cacheWord line i)).1 == .uncorrectable) then
    (x.1.setTag line noTag, scrubMasks [] ++ toBytes 8 a)
  else
    let y := State.scrubCacheLine line (List.range 32) x.1
    (y.1, scrubMasks y.2 ++ toBytes 8 a)

/-- Words of external memory are scrubbed as they are stored; `count` where no tag check has counted them already. -/
def State.scrubDram (count : Bool) (c : Nat) : Nat → Nat → State → State × List WordClass
  | 0, _, s => (s, [])
  | n + 1, w, s =>
    let d := dramDecode (s.twoCopies c) (s.dram c w)
    let s := if count then s.countDram c d.1 else s
    let s := match d.1 with
      | .corrected => s.setDram c w (dramWord (s.twoCopies c) false d.2)
      | .uncorrectable => s.setDram c w (dramWord (s.twoCopies c) true d.2)
      | _ => s
    let y := State.scrubDram count c n (w + 1) s
    (y.1, d.1 :: y.2)

/-- A scrub request at a controller: the checks of R342 and R354, and the tag check of a protected line, come first. -/
def State.scrubAtController (s : State) (id p a : Nat) : State :=
  match s.extPlace a with
  | none => s.respond id p (codeAnswer rDecode)
  | some (c, off) =>
    match s.emcGate a srcScrub false with
    | .answer s code => s.respond id p (codeAnswer code)
    | _ =>
      match s.domainGate (domChannel c) id p false with
      | .wait => s
      | .done s => s
      | .open_ =>
        let s := s.unhold (domChannel c) id p
        let auth := match s.rangeOf a with
          | none => (s, false)
          | some j =>
            let k := s.keyFor j a none
            match s.readProt c off a k.1 k.2 0 srcScrub with
            | (s, .auth) => (s, true)
            | (s, _) => (s, false)
        if auth.2 then auth.1.respond id p (codeAnswer rAuth)
        else
          let x := State.scrubDram (s.rangeOf a).isNone c 32 (off / 8) auth.1
          x.1.respond id p ⟨rOK, scrubMasks x.2, [], false⟩

/-- A scrub request is served by its target in an idle cycle. -/
def State.scrubAtTarget (s : State) (id p : Nat) : State :=
  match s.servable id p with
  | none => s
  | some (r, q) =>
    if r.kind ≠ .scrub then s
    else
      let s := s.arriveAt id p
      let a := q.addr % 2 ^ 48
      if q.port = portCACHE then
        if r.tag = scrubLines then
          let x := s.scrubOwnLine q.addr
          x.1.respond id p ⟨rOK, x.2, [], false⟩
        else match s.directLine a with
          | (s, .error c) => s.respond id p (codeAnswer c)
          | (s, .ok line) =>
            let x := State.scrubCacheLine line (List.range 32) s
            x.1.respond id p ⟨rOK, scrubMasks x.2, [], false⟩
      else if q.port = portSCR then
        let b := (a - scrBase) / 0x40000
        if (s.waitAt b).any (fun x => x.id == id && x.part == p) then s else s.scrJoin b [⟨id, p, 2, 0, [], false⟩]
      else s.scrubAtController id p a

/-! ### The answer (R327, R328) -/

/-- A newly stamped word at address `a`: FIRST, LAST, the log and the interrupt. -/
def State.scrubStamp (s : State) (a : Nat) : State :=
  let first := (s.reg Reg.SCRUB_SUM_UNCORR).toNat = 0
  let s := s.bump Reg.SCRUB_SUM_UNCORR Fld.SCRUB_SUM_UNCORR_COUNT 1
  let s := if first ∨ a < s.reg48 Reg.SCRUB_FIRST_LO Reg.SCRUB_FIRST_HI then s.setReg48 Reg.SCRUB_FIRST_LO Reg.SCRUB_FIRST_HI a else s
  let s := if first ∨ s.reg48 Reg.SCRUB_LAST_LO Reg.SCRUB_LAST_HI < a then s.setReg48 Reg.SCRUB_LAST_LO Reg.SCRUB_LAST_HI a else s
  let k := s.fld Reg.SCRUB_SUM_LOGGED Fld.SCRUB_SUM_LOGGED_COUNT
  let s := if k < 16 then
      (s.setReg48 (Reg.SCRUB_LOG_LO k) (Reg.SCRUB_LOG_HI k) a).setFld Reg.SCRUB_SUM_LOGGED Fld.SCRUB_SUM_LOGGED_COUNT (k + 1) else s
  s.setFld Reg.SCRUB_INT_STATUS Fld.SCRUB_INT_STATUS_UNCORR 1

/-- An answer reaches the scrubber. -/
def State.scrubTake (s : State) (d : Delivered) : State :=
  let s := s.bump Reg.SCRUB_PROGRESS Fld.SCRUB_PROGRESS_LINES 1
  if isErr d.code then s.bump Reg.SCRUB_SUM_SKIPPED Fld.SCRUB_SUM_SKIPPED_COUNT 1
  else
    let word (k : Nat) : Nat := ofBytes ((d.bytes.drop (8 * k)).take 8)
    let base := if d.tag = scrubLines then word 3 else d.addr % 2 ^ 48
    let s := s.bump Reg.SCRUB_SUM_CORR Fld.SCRUB_SUM_CORR_COUNT (weight 32 (word 0))
    let s := s.bump Reg.SCRUB_SUM_STAMPED Fld.SCRUB_SUM_STAMPED_COUNT (weight 32 (word 2))
    ((List.range 32).filter (fun i => (word 1).testBit i)).foldl (fun s i => s.scrubStamp (base + 8 * i)) s

/-- The scrubber takes what has come for it. -/
def State.scrubInbox (s : State) : State := (s.takeInbox (fun d => d.src == srcScrub) State.scrubTake).scrubCheck false

end Sys2Proof.Machine
end

