-- ==== Sys2Proof/Machine/Clocks.lean ====
section
/-!
DEFINITION. Clocks (chapter 16): the sources of the root, trips and coasting, switches, and the gating of blocks.
-/
namespace Sys2Proof.Machine


def srcChassis : Nat := 0
def srcLocal : Nat := 1
def srcInternal : Nat := 2

/-- 10 ms and 20 µs in rc; while the root runs from the internal oscillator, times scale with its cycles (R435; log entry 35). -/
def returnTime : Nat := 48000000
def holdoverTime : Nat := 96000

/-! ### Sources (R433, R439) -/

def readyField (k : Nat) : Field := ⟨k, k, .ro⟩
def State.srcReady (s : State) (k : Nat) : Bool := s.bit Reg.CLK_STATUS (readyField k)
def State.clkInForce (s : State) : Nat := s.fld Reg.CLK_STATUS Fld.CLK_STATUS_SRC
def State.rootLocked (s : State) : Bool := s.bit Reg.CLK_STATUS Fld.CLK_STATUS_LOCK

/-- The source that a fallback would take now (R439): of the ready ones but the one that tripped, the first in order; for a fallback that
waits, the first to have become ready. -/
def State.fallbackSource (s : State) : Option Nat :=
  let ok := [0, 1, 2].filter (fun k => s.srcReady k && k != s.clk.tripped)
  if s.bit Reg.CLK_STATUS Fld.CLK_STATUS_FB_WAIT then
    ok.find? (fun k => ok.all (fun j => decide (tget (fun _ => 0) s.clk.since k ≤ tget (fun _ => 0) s.clk.since j)))
  else ok.head?

/-- FB_WAIT is 1 while a fallback is owed and no source is ready for it. -/
def State.showWait (s : State) : State :=
  s.setFld Reg.CLK_STATUS Fld.CLK_STATUS_FB_WAIT (b2n (s.clk.fb && s.fallbackSource.isNone))

def State.sourceReady (s : State) (k : Nat) : State :=
  if s.srcReady k ∨ 3 ≤ k ∨ (k = srcInternal ∧ !s.bit Reg.CLK_CTL Fld.CLK_CTL_INT_EN) then s
  else
    let s := s.setFld Reg.CLK_STATUS (readyField k) 1
    { s with clk := { s.clk with since := tins s.clk.since k s.now } }

def State.sourceLost (s : State) (k : Nat) : State :=
  if 3 ≤ k then s
  else
    let s := s.setFld Reg.CLK_STATUS (readyField k) 0
    ({ s with clk := { s.clk with since := tdel s.clk.since k } }).showWait

/-! ### Trips and switches (R437–R442) -/

/-- The root releases source `k` and coasts (R437–R439). -/
def State.clockTrip (s : State) (k cause : Nat) : State :=
  let s := s.logEvent Reg.CLK_TRIP_LOG s.now 0 (BitVec.ofNat 32 (k * 2 ^ 8 + cause % 2)) [] none
  let s := s.setFld Reg.CLK_INT_STATUS Fld.CLK_INT_STATUS_TRIP 1
  let s := ((s.setFld Reg.CLK_STATUS Fld.CLK_STATUS_COAST 1).setFld Reg.CLK_STATUS Fld.CLK_STATUS_LOCK 0).setFld
    Reg.CLK_STATUS Fld.CLK_STATUS_LANE_HOLD 1
  let auto := s.bit Reg.CLK_CTL Fld.CLK_CTL_AUTO_FALLBACK
  let s := { s with clk := { s.clk with tripped := k, fb := auto, holdEnd := none } }
  let s := if auto then s.setFld Reg.CLK_CTL Fld.CLK_CTL_INT_EN 1 else s
  s.showWait

/-- Whether the monitor can trip with a cause: 0 no edge; 1 frequency, measured against the ready internal oscillator. -/
def State.mayTrip (s : State) (cause : Nat) : Bool :=
  s.rootLocked && s.clk.switch.isNone && (cause % 2 == 0 || (s.clkInForce != srcInternal && s.srcReady srcInternal))

/-- A switch starts at edge W (R442). -/
def State.startSwitch (s : State) (target by_ : Nat) : State :=
  let s := ((s.setFld Reg.CLK_STATUS Fld.CLK_STATUS_SWITCHING 1).setFld Reg.CLK_STATUS Fld.CLK_STATUS_LANE_HOLD 1).setFld
    Reg.CLK_STATUS Fld.CLK_STATUS_FB_WAIT 0
  let s := ((s.setFld Reg.CLK_SRC_RESULT Fld.CLK_SRC_RESULT_OUTCOME 0).setFld Reg.CLK_SRC_RESULT Fld.CLK_SRC_RESULT_BY by_).setFld
    Reg.CLK_SRC_RESULT Fld.CLK_SRC_RESULT_TARGET target
  { s with clk := { s.clk with switch := some ⟨target, by_, s.scNow⟩, fb := false, holdEnd := none } }

/-- Whether an automatic switch may start now: none is in progress, and no software request has been checked at this edge (R441). DESIGN
CHOICE: a software request of an edge is sent before the automatic switch of that edge (log entry 97). -/
def State.autoSwitch (s : State) : Bool := s.clk.switch.isNone && s.clk.reqAt != some s.scNow

def State.fallbackStart (s : State) : State :=
  if !s.clk.fb ∨ !s.autoSwitch then s
  else match s.fallbackSource with
    | some k => s.startSwitch k 1
    | none => s

/-- CLK_CTL.PREF, with 0b11 acting as 0b10. -/
def State.clkPref (s : State) : Nat := min (s.fld Reg.CLK_CTL Fld.CLK_CTL_PREF) 2

def State.autoReturn (s : State) : State :=
  let k := s.clkPref
  if s.bit Reg.CLK_CTL Fld.CLK_CTL_AUTO_RETURN && s.autoSwitch && s.clkInForce != k && s.rootLocked &&
      (tfind s.clk.since k).any (fun e => decide (e + returnTime ≤ s.now)) then s.startSwitch k 2
  else s

/-- A write of CLK_SRC_CTL with GO = 1 (R441); a refused one leaves SEL. -/
def State.switchRequest (s : State) (sel : Nat) : State :=
  let sel := sel % 4
  let s := { s with clk := { s.clk with reqAt := some s.scNow } }
  let refuse (o : Nat) : State :=
    ((s.setFld Reg.CLK_SRC_RESULT Fld.CLK_SRC_RESULT_DONE 1).setFld Reg.CLK_SRC_RESULT Fld.CLK_SRC_RESULT_OUTCOME o).setFld
      Reg.CLK_SRC_RESULT Fld.CLK_SRC_RESULT_BY 0
  if sel = 3 then refuse 5
  else if s.clk.switch.isSome then refuse 2
  else if s.clkInForce = sel ∧ s.rootLocked then refuse 3
  else if !s.srcReady sel then refuse 1
  else (s.setFld Reg.CLK_SRC_CTL Fld.CLK_SRC_CTL_SEL sel).startSwitch sel 0

/-- The switch ends with LOCK, or FAILED where its target trips (R442). -/
def State.switchEnd (s : State) (ok : Bool) (cause : Nat) : State :=
  match s.clk.switch with
  | none => s
  | some x =>
    let s := { s with clk := { s.clk with switch := none } }
    let s := (s.setFld Reg.CLK_STATUS Fld.CLK_STATUS_SWITCHING 0).setFld Reg.CLK_SRC_RESULT Fld.CLK_SRC_RESULT_DONE 1
    let s := s.setFld Reg.CLK_INT_STATUS Fld.CLK_INT_STATUS_SWITCH_DONE 1
    let coasting := s.bit Reg.CLK_STATUS Fld.CLK_STATUS_COAST
    let s := s.setFld Reg.CLK_STATUS Fld.CLK_STATUS_SRC x.target
    if ok then
      let s := if coasting then s.setFld Reg.CLK_INT_STATUS Fld.CLK_INT_STATUS_RELOCK 1 else s
      let s := (s.setFld Reg.CLK_STATUS Fld.CLK_STATUS_COAST 0).setFld Reg.CLK_STATUS Fld.CLK_STATUS_LOCK 1
      { s with clk := { s.clk with holdEnd := if x.target ≤ 1 then some (s.now + holdoverTime) else none } }
    else (s.setFld Reg.CLK_SRC_RESULT Fld.CLK_SRC_RESULT_OUTCOME 4).clockTrip x.target cause

def State.holdoverEnd (s : State) : State :=
  match s.clk.holdEnd with
  | some e =>
    if e ≤ s.now then
      { s.setFld Reg.CLK_STATUS Fld.CLK_STATUS_LANE_HOLD 0 with clk := { s.clk with holdEnd := none } }
    else s
  | none => s

/-- A write of CLK_CTL (R443). DEDUCED: a refused INT_EN = 0 leaves INT_EN alone; the other fields take what is written (log entry 97). -/
def State.clkCtlWrite (s : State) (v : Nat) : State :=
  let s := s.setFld Reg.CLK_CTL Fld.CLK_CTL_PREF (v / 2 ^ 6)
  let s := (s.setFld Reg.CLK_CTL Fld.CLK_CTL_AUTO_RETURN (v / 2)).setFld Reg.CLK_CTL Fld.CLK_CTL_AUTO_FALLBACK v
  if v.testBit 2 then s.setFld Reg.CLK_CTL Fld.CLK_CTL_INT_EN 1
  else if s.clkInForce = srcInternal ∨ s.clk.switch.any (fun x => x.target == srcInternal) ∨ s.clk.fb then
    s.setFld Reg.CLK_INT_STATUS Fld.CLK_INT_STATUS_INT_REFUSED 1
  else (s.setFld Reg.CLK_CTL Fld.CLK_CTL_INT_EN 0).sourceLost srcInternal

/-! ### Gating (R444–R447) -/

def gsRunning : Nat := 0
def gsWaiting : Nat := 1
def gsGated : Nat := 2

/-- The domain of a gate's block. -/
def gateDomain (g : Nat) : Nat :=
  if g < 64 then domEngine g else if g < 76 then domQuad (g - 64) else if g < 80 then domPort (g - 76) else domChannel (g - 80)

/-- A gate request ends with an outcome. -/
def State.gateOutcome (s : State) (g o : Nat) : State :=
  (s.setFld (Reg.CLK_GATE_STATUS g) Fld.CLK_GATE_STATUS_OUTCOME o).setFld Reg.CLK_INT_STATUS Fld.CLK_INT_STATUS_GATE 1

def State.setGate (s : State) (g v : Nat) : State := s.setFld (Reg.CLK_GATE_STATUS g) Fld.CLK_GATE_STATUS_STATE v

/-- The block of gate `g` is in a state in which it cannot be gated (R445). -/
def State.gateBusy (s : State) (g : Nat) : Bool :=
  s.domState (gateDomain g) != dsOn ||
  (if g < 64 then s.estate g == esWaiting || s.bit (Reg.ENG_STATUS g) Fld.ENG_STATUS_TASK
   else if g < 76 then (List.range 4).any (fun i =>
     let st := s.fld (Reg.LANE_STATUS (4 * (g - 64) + i)) Fld.LANE_STATUS_STATE
     st != 0 && st != 1)
   else if g < 80 then s.portState (g - 76) != lpDisabled
   else
     let st := s.fld (Reg.EMC_CH_STATUS (g - 80)) Fld.EMC_CH_STATUS_STATE
     st != chAbsent && st != chFailed)

def State.writeGateCtl (s : State) (g : Nat) (gate force : Bool) : State :=
  (s.setFld (Reg.CLK_GATE_CTL g) Fld.CLK_GATE_CTL_GATE (b2n gate)).setFld (Reg.CLK_GATE_CTL g) Fld.CLK_GATE_CTL_FORCE (b2n force)

/-- A write of GATE = 1 (R445); one that is refused or does nothing leaves the register (R7). -/
def State.gateRequest (s : State) (g : Nat) (force : Bool) : State :=
  if s.gateState g ≠ gsRunning then s
  else if g = 0 then s.gateOutcome g 5
  else if s.gateBusy g then s.gateOutcome g 4
  else
    let s := (s.writeGateCtl g true force).setGate g gsWaiting
    { s with clk := { s.clk with gateAt := tins s.clk.gateAt g (s.scNow, force) } }

/-- The initiator numbers of a gate's block. -/
def gateSrc (g : Nat) : Option Nat :=
  if g < 64 then some g else if g < 76 then some (srcQuadToken (g - 64)) else if g < 80 then some (srcAlink (g - 76)) else none

/-- The block has no non-posted request awaiting its response, no posted request that its interface has not sent, and nothing in service
as a target (R446). -/
def State.gateIdle (s : State) (g : Nat) : Bool :=
  (match gateSrc g with
    | some n => s.noc.reqs.all (fun r => r.src != n || (if r.kind.nonPosted then r.done else s.sent r || r.self.isSome))
    | none => true) &&
  (if 80 ≤ g then s.emc.jobs.all (fun j => j.left.all (fun l => (match s.extPlace l.1 with | some (c, _) => c != g - 80 | none => true)))
   else if 76 ≤ g then s.brd.out.all (fun d => d.port != g - 76) else true)

/-- The block takes its last edge. -/
def State.closeGate (s : State) (g waited o : Nat) : State :=
  let s := (s.setGate g gsGated).setFld (Reg.CLK_GATE_STATUS g) Fld.CLK_GATE_STATUS_WAITED waited
  let s := { s with clk := { s.clk with gateAt := tdel s.clk.gateAt g } }
  let s := if g < 64 then s.mapEngine g (fun e => { e with cycles := (e.mcycle s.now, s.now) }) else s
  s.gateOutcome g o

/-- The block is seen idle at an edge G + k, k = 1–256. -/
def State.gateSeenIdle (s : State) (g : Nat) : State :=
  match tfind s.clk.gateAt g with
  | none => s
  | some (e, _) => if s.gateIdle g ∧ e < s.scNow ∧ s.scNow ≤ e + 256 then s.closeGate g (s.scNow - e) 0 else s

/-- Requests that a forced gate finds in service or held at the block are answered ERR_GATED at G + 257. -/
def State.gateAnswers (s : State) (g : Nat) : State :=
  if g < 80 then s
  else
    let l := s.emc.jobs.filter (fun j => j.left.any (fun l => (match s.extPlace l.1 with | some (c, _) => c == g - 80 | none => false)))
    let s := { s with emc := { s.emc with jobs := s.emc.jobs.filter (fun j => !l.contains j) } }
    l.foldl (fun s j => s.respond j.id j.part (codeAnswer rGated)) s

/-- The block is not idle by G + 256. -/
def State.gateTimeout (s : State) (g : Nat) : State :=
  match tfind s.clk.gateAt g with
  | none => s
  | some (e, force) =>
    if s.scNow < e + 256 ∨ s.gateIdle g then s
    else if force then
      let s := (s.closeGate g 256 2).gateAnswers g
      { s with clk := { s.clk with forced := s.clk.forced ++ [g] } }
    else
      let s := (s.setGate g gsRunning).setFld (Reg.CLK_GATE_STATUS g) Fld.CLK_GATE_STATUS_WAITED 256
      ({ s with clk := { s.clk with gateAt := tdel s.clk.gateAt g } }).gateOutcome g 1

/-- The gate opens: the requests of a forced block that still await their responses end with ERR_GATED, in order (R446). -/
def State.openGate (s : State) (g : Nat) : State :=
  let forced := s.clk.forced.contains g
  let s := s.setGate g gsRunning
  let s := { s with clk := { s.clk with forced := s.clk.forced.filter (· != g) } }
  let owed (r : Request) : Bool := forced && gateSrc g == some r.src && r.kind.nonPosted && !r.done
  let s := (s.noc.reqs.filter owed).foldl (fun (s : State) r => s.complete r rGated [] []) s
  let s := s.gateOutcome g 6
  if g < 64 then (s.mapEngine g (fun e => { e with cycles := (e.cycles.1, s.now) })).engInbox g else s

/-- A write of GATE = 0 (R447). -/
def State.ungate (s : State) (g : Nat) (force : Bool) : State :=
  if s.gateState g = gsWaiting then
    let s := (s.writeGateCtl g false force).setGate g gsRunning
    ({ s with clk := { s.clk with gateAt := tdel s.clk.gateAt g } }).gateOutcome g 3
  else if s.gateState g = gsGated then (s.writeGateCtl g false force).openGate g
  else s

end Sys2Proof.Machine
end

