-- ==== Sys2Proof/Machine/Frames.lean ====
section
/-!
DEFINITION. Aethene frames (R492, R493, R356): their bytes, the transmitter with its replay buffer, and the receiver.
-/
namespace Sys2Proof.Machine

def frData : Nat := 1
def frNak : Nat := 2
def frIdle : Nat := 3
def frBeacon : Nat := 4
def frPair : Nat := 5
def frDelivery : Nat := 6

/-- The all-ones ACK: no frame received. -/
def ackNone : Nat := 2 ^ 64 - 1

/-- Whether port `p` encrypts its traffic (R356): EN, and every key loaded. -/
def State.linkEnc (s : State) (p : Nat) : Bool :=
  s.bit (Reg.XTS_LINK p) Fld.XTS_LINK_EN && s.fld (Reg.XTS_LINK p) Fld.XTS_LINK_LOADED == 7

/-- The payload of a frame in clear or encrypted with SEQ as the tweak, and its tag (R492, R505). -/
def State.frameBody (s : State) (p seq : Nat) (f : AFrame) : List Nat :=
  if s.linkEnc p && f.type != frNak && f.type != frIdle then
    let m := padBlock (nats f.body)
    let c := xts true (s.xtsKey (setLink p) 0) (s.xtsKey (setLink p) 1) seq m
    c ++ lineTag (s.xtsKey (setLink p) 2) c seq
  else nats f.body

/-- The bytes of a frame (R492). -/
def State.frameBytes (s : State) (p seq ack : Nat) (f : AFrame) : List Byte :=
  let enc := b2n (s.linkEnc p && f.type != frNak && f.type != frIdle)
  let head := leBytes 8 seq ++ leBytes 8 ack ++ [f.type, enc] ++ leBytes 2 f.body.length ++ [f.hops, f.devs] ++ List.replicate 10 0 ++
    (if f.type = frData then nats f.noc else List.replicate 16 0)
  let b := bytesOf (head ++ s.frameBody p seq f)
  b ++ toBytes 4 (crc32c b)

/-! ### The transmitter -/

/-- SEQ of the last frame received in order. -/
def APort.ack (x : APort) : Nat := if x.expect = 0 then ackNone else x.expect - 1

/-- A frame goes out: it is numbered and kept until it is acknowledged, or waits while the replay buffer holds 64. In paired run, what a
DATA frame carries on a port other than PAIR is covered (R510). -/
def State.sendFrame (s : State) (p : Nat) (f : AFrame) : State :=
  let x := s.aport p
  if 64 ≤ x.replay.length then s.setAport p { x with wait := x.wait ++ [f] }
  else
    let b := s.frameBytes p x.next x.ack f
    let s := if f.type = frData ∧ s.portState p ≠ lpPair then s.pairLog (.frame p f.body) else s
    s.setAport p { x with next := x.next + 1, replay := x.replay ++ [(x.next, f)], sent := x.sent ++ [b] }

/-- Frames that waited for room go out. -/
def State.sendWaiting (s : State) (p : Nat) : State :=
  let x := s.aport p
  x.wait.foldl (fun s f => s.sendFrame p f) (s.setAport p { x with wait := [] })

/-- A frame without payload or NoC header. -/
def plainFrame (type : Nat) : AFrame := ⟨type, 0, 0, [], []⟩

/-- The frames up to `ack` are acknowledged. -/
def State.takeAck (s : State) (p ack : Nat) : State :=
  if ack = ackNone then s
  else (s.mapAport p (fun x => { x with replay := x.replay.filter (fun r => decide (ack < r.1)) })).sendWaiting p

/-- The transmitter resends every frame from `seq` on (R493); one frame is resent at most 64 times. -/
def State.replayFrom (s : State) (p seq : Nat) : State :=
  let x := s.aport p
  let l := x.replay.filter (fun r => decide (seq ≤ r.1))
  match l with
  | [] => s
  | (first, _) :: _ =>
    let n := if x.resent.1 = first ∧ x.resent.2 ≠ 0 then x.resent.2 else 0
    if 64 ≤ n then s
    else
      let b := l.map (fun r => s.frameBytes p r.1 x.ack r.2)
      let s := s.setAport p { x with resent := (first, n + 1), sent := x.sent ++ b }
      s.bump (Reg.ALINK_PORT_CNT p) Fld.ALINK_PORT_CNT_RETRY l.length

/-! ### The receiver -/

/-- The SEQ, ACK and contents of the bytes of a frame. -/
structure RawFrame where
  seq   : Nat
  ack   : Nat
  enc   : Bool
  frame : AFrame
  tag   : List Nat
  deriving DecidableEq, Repr

/-- The bytes of a frame taken apart; none where the CRC, the length or a field does not fit R492. The payload is still encrypted. -/
def parseFrame (b : List Byte) : Option RawFrame :=
  let n := b.length
  let at_ (i k : Nat) : Nat := ofBytes ((b.drop i).take k)
  let enc := at_ 17 1 == 1
  let plen := at_ 18 2
  let cl := if enc then (plen + 15) / 16 * 16 else plen
  if n < 52 ∨ at_ (n - 4) 4 ≠ crc32c (b.take (n - 4)) ∨ 1 < at_ 17 1 ∨ 256 < plen ∨ n ≠ 52 + cl + (if enc then 8 else 0) then none
  else some ⟨at_ 0 8, at_ 8 8, enc, ⟨at_ 16 1, at_ 20 1, at_ 21 1, (b.drop 32).take 16, (b.drop 48).take (if enc then cl else plen)⟩,
    nats ((b.drop (48 + cl)).take (if enc then 8 else 0))⟩

/-- PLEN of a frame's bytes. -/
def framePlen (b : List Byte) : Nat := ofBytes ((b.drop 18).take 2)

/-- Whether a port carries frames. -/
def State.portTrained (s : State) (p : Nat) : Bool :=
  s.portState p == lpUp || s.portState p == lpConflict || s.portState p == lpForeign || s.portState p == lpPair

/-- A frame is discarded, and the frames after it: one NAK names the expected SEQ, by its ACK (R493; log entry 37). -/
def State.discardFrame (s : State) (p : Nat) : State :=
  if (s.aport p).nakSent then s
  else (s.mapAport p (fun x => { x with nakSent := true })).sendFrame p (plainFrame frNak)

/-- A frame arrives at port `p`: one that fails its CRC, is out of sequence or fails its tag is discarded; otherwise it is accepted, with its
acknowledgement, and its payload in clear. -/
def State.receive (s : State) (p : Nat) (b : List Byte) : State × Option AFrame :=
  if !s.portTrained p then (s, none)
  else match parseFrame b with
    | none => (s.discardFrame p, none)
    | some r =>
      if r.seq ≠ (s.aport p).expect then (s.discardFrame p, none)
      else
        let c := nats r.frame.body
        if r.enc ∧ lineTag (s.xtsKey (setLink p) 2) c r.seq ≠ r.tag then
          let s := s.bump (Reg.ALINK_PORT_CNT p) Fld.ALINK_PORT_CNT_TAGFAIL 1
          let s := (s.setFld Reg.ALINK_INT_STATUS Fld.ALINK_INT_STATUS_TAG 1).discardFrame p
          (s.tagFail true (8 + p) p 3 (srcAlink p) 0, none)
        else
          let clear := if r.enc then (xts false (s.xtsKey (setLink p) 0) (s.xtsKey (setLink p) 1) r.seq c).take (framePlen b) else c
          let s := (s.mapAport p (fun x => { x with expect := x.expect + 1, nakSent := false })).takeAck p r.ack
          (s, some { r.frame with body := bytesOf clear })

/-- A frame of type `type` arrives; `f` says what it does. A frame of another type is no event of this row. -/
def State.onFrame (s : State) (p type : Nat) (b : List Byte) (f : State → AFrame → State) : State :=
  match parseFrame b with
  | some r => if r.frame.type ≠ type then s else
      (match s.receive p b with
        | (s, some x) => f s x
        | (s, none) => s)
  | none => (s.receive p b).1

end Sys2Proof.Machine
end

