-- ==== Sys2Proof/Machine/Board.lean ====
section
/-!
DEFINITION. Counting boards (chapter 19): ports, start-up, and traffic between devices.
-/
namespace Sys2Proof.Machine

/-! ### Ports (R491, R494, R500) -/

/-- Times in rc: 50 µs, 1 ms and 24 ms. -/
def beaconTime : Nat := 240000
def foreignTime : Nat := 4800000
def absentTime : Nat := 115200000

/-- A device strapped 1 × 1 is not a board member (R494). -/
def State.lone (s : State) : Bool := s.boardX == 1 && s.boardY == 1

/-- Whether port `p` is expected (R495). -/
def State.expectedPort (s : State) (p : Nat) : Bool := if p % 2 = 1 then decide (2 ≤ s.boardX) else decide (2 ≤ s.boardY)

def State.settled (s : State) : Bool := s.bit Reg.ALINK_BOARD_STATUS Fld.ALINK_BOARD_STATUS_SETTLED

/-- The state that an enabled or disabled port returns to when its domain is ON: TRAINING or DISABLED (R491). -/
def State.portIdle (s : State) (p : Nat) : State :=
  (s.clearPort p).setPort p (if s.bit (Reg.ALINK_PORT_CFG p) Fld.ALINK_PORT_CFG_EN && s.mode != modeSecureHalt then lpTraining else lpDisabled)

/-- A write of ALINK_PORT_CFG(p). -/
def State.portCfgWrite (s : State) (p v : Nat) : State :=
  let was := s.bit (Reg.ALINK_PORT_CFG p) Fld.ALINK_PORT_CFG_EN
  let s := s.setReg (Reg.ALINK_PORT_CFG p) (BitVec.ofNat 32 v &&& 0xC0F00000)
  if was = v.testBit 31 ∨ s.portState p = lpOff then s else s.portIdle p

/-- Training completes with version `ver` (R491); a lone device takes no link (R494). -/
def State.portUp (s : State) (p ver : Nat) : State :=
  let st := s.portState p
  if (st = lpTraining ∨ st = lpAbsent) ∧ s.gateState (76 + p) = 0 then
    let s := s.clearPort p
    let s := s.setFld (Reg.ALINK_PORT_STATUS p) Fld.ALINK_PORT_STATUS_VER
      (if s.bit (Reg.ALINK_PORT_CFG p) Fld.ALINK_PORT_CFG_VMAX then ver % 2 else 0)
    let s := s.mapAport p (fun x => { x with upAt := s.now })
    s.setPort p (if s.lone then lpConflict else lpUp)
  else s

/-! ### Beacons (R496–R498) -/

/-- This device's own pair (R497). -/
def State.ownPair (s : State) : Nat × Nat := (if s.brd.straps.root then 0 else 1, s.fuse.serial)

/-- Whether a pair is lower. -/
def pairLt (a b : Nat × Nat) : Bool := a.1 < b.1 || (a.1 == b.1 && a.2 < b.2)

def State.isRoot (s : State) : Bool := s.brd.best == s.ownPair

/-- Byte `i` of a beacon's payload, and the beacon that a payload spells. -/
def beaconOf (b : List Byte) : Beacon :=
  let at_ (i k : Nat) : Nat := ofBytes ((b.drop i).take k)
  ⟨at_ 0 8, at_ 8 1, at_ 9 1 % 4, at_ 9 1 / 4 % 4, (at_ 10 1).testBit 0, (at_ 10 1).testBit 1, at_ 11 1, at_ 12 1 % 4,
    at_ 12 1 / 16 % 4, (at_ 24 1 % 2, at_ 16 8)⟩

/-- The payload of a beacon (R496). -/
def Beacon.bytes (b : Beacon) : List Byte :=
  toBytes 8 b.serial ++ toBytes 1 b.port ++ toBytes 1 (b.dimX + b.dimY * 4) ++ toBytes 1 (b2n b.settled + b2n b.valid * 2) ++
  toBytes 1 b.hops ++ toBytes 1 (b.x + b.y * 16) ++ toBytes 3 0 ++ toBytes 8 b.best.2 ++ toBytes 1 b.best.1 ++ toBytes 7 0

/-- What this device says on port `p`. -/
def State.ownBeacon (s : State) (p : Nat) : Beacon :=
  ⟨s.fuse.serial, p, s.brd.straps.brdX, s.brd.straps.brdY, s.settled, s.brd.valid, if s.brd.valid then s.brd.hops else 0xFF,
    s.boardAt.1, s.boardAt.2, s.brd.best⟩

/-- A port sends a beacon when its content has changed or 50 µs have passed (R496); from the end of FILL. -/
def State.beaconSend (s : State) (p : Nat) : State :=
  let st := s.portState p
  if (st ≠ lpUp ∧ st ≠ lpConflict) ∨ s.mode < modeLoad then s
  else
    let b := s.ownBeacon p
    if (s.aport p).lastB.any (fun l => l.1 == b && decide (s.now < l.2 + beaconTime)) then s
    else
      (s.mapAport p (fun x => { x with lastB := some (b, s.now) })).sendFrame p ⟨frBeacon, 0, 0, [], b.bytes⟩

/-- The port opposite to `p`. -/
def oppositePort (p : Nat) : Nat := (p + 2) % 4

/-- The coordinate that a beacon gives a device by its own port `p` (R498). -/
def State.coordFrom (s : State) (p : Nat) (b : Beacon) : Nat × Nat :=
  match p with
  | 3 => ((b.x + 1) % s.boardX, b.y)
  | 1 => ((b.x + s.boardX - 1) % s.boardX, b.y)
  | 2 => (b.x, (b.y + 1) % s.boardY)
  | _ => (b.x, (b.y + s.boardY - 1) % s.boardY)

/-- A coordinate, or none, held from now on. -/
def State.setCoord (s : State) (c : Option (Nat × Nat × Nat)) : State :=
  let old := (s.brd.valid, s.boardAt)
  let s := match c with
    | some (h, x, y) =>
      let s := (s.setFld Reg.ALINK_BOARD_STATUS Fld.ALINK_BOARD_STATUS_X x).setFld Reg.ALINK_BOARD_STATUS Fld.ALINK_BOARD_STATUS_Y y
      { s with brd := { s.brd with valid := true, hops := h } }
    | none => { s with brd := { s.brd with valid := false } }
  let s := s.setFld Reg.ALINK_BOARD_STATUS Fld.ALINK_BOARD_STATUS_ROOT (b2n s.isRoot)
  if old = (s.brd.valid, s.boardAt) then s else { s with brd := { s.brd with changed := s.now } }

/-- The device's coordinate from the beacons that its UP ports hold (R497, R498). -/
def State.takeCoord (s : State) : State :=
  if s.isRoot then s.setCoord (some (0, 0, 0))
  else
    let fits (p : Nat) : Option (Nat × Nat) :=
      match (s.aport p).nb with
      | some b => if s.portState p == lpUp && b.valid && b.best == s.brd.best && (!s.brd.adopted || b.settled) then some (b.hops, p) else none
      | none => none
    let l := [0, 1, 2, 3].filterMap fits
    match l.find? (fun x => l.all (fun y => decide (x.1 ≤ y.1))) with
    | some (h, p) =>
      let c := s.coordFrom p ((s.aport p).nb.getD default)
      s.setCoord (some (h + 1, c.1, c.2))
    | none => s.setCoord none

/-- A new best candidate is taken. -/
def State.takeBest (s : State) (best : Nat × Nat) : State :=
  if s.brd.best = best then s else { s with brd := { s.brd with best := best, changed := s.now } }

/-- Whether the neighbour's coordinate cannot stand beside this device's own (R495, R498, R500). -/
def State.coordClash (s : State) (p : Nat) (b : Beacon) : Bool :=
  s.brd.valid && b.valid && ((b.best == s.brd.best && s.coordFrom p b != s.boardAt) ||
    (b.best != s.brd.best && b.settled && s.settled))

/-- A beacon arrives on port `p` (R496–R498). -/
def State.takeBeacon (s : State) (p : Nat) (b : Beacon) : State :=
  let first := (s.aport p).nb.isNone
  let s := s.mapAport p (fun x => { x with nb := some b })
  let s := s.setFld (Reg.ALINK_PORT_STATUS p) Fld.ALINK_PORT_STATUS_NB_PORT b.port
  let s := if b.settled then s.setFld (Reg.ALINK_PORT_STATUS p) Fld.ALINK_PORT_STATUS_NB_DEV (4 * b.y + b.x) else s
  if s.portState p ≠ lpUp then s
  else if first ∧ (b.port ≠ oppositePort p ∨ b.dimX ≠ s.brd.straps.brdX ∨ b.dimY ≠ s.brd.straps.brdY) then s.setPort p lpConflict
  else
    let s := if s.settled then s
      else
        let s := if b.settled then
            (if s.brd.adopted then s else { s.takeBest b.best with brd := { (s.takeBest b.best).brd with adopted := true } })
          else if s.brd.adopted then s
          else if pairLt b.best s.brd.best then s.takeBest b.best else s
        s.takeCoord
    if s.coordClash p b then s.setPort p lpConflict else s

/-! ### Settling (R499, R500) -/

/-- D of R495. -/
def State.diameter (s : State) : Nat := s.boardX / 2 + s.boardY / 2

/-- The addresses of requests in flight follow a change of this device's number from 0: they stay local. -/
def State.renumber (s : State) (n : Nat) : State :=
  let f (a : Nat) : Nat := if a / 2 ^ 48 = 0 then a + n * 2 ^ 48 else a
  s.setReqs (s.noc.reqs.map (fun r => { r with addr := f r.addr, parts := r.parts.map (fun q => { q with addr := f q.addr }) }))

/-- The device settles with its present coordinate (R499). -/
def State.settle (s : State) : State :=
  let n := 4 * s.boardAt.2 + s.boardAt.1
  let s := (s.renumber n).setFld Reg.DEV_BOARD Fld.DEV_BOARD_DEVNUM n
  let s := (s.setFld Reg.ALINK_BOARD_STATUS Fld.ALINK_BOARD_STATUS_SETTLED 1).setFld Reg.ALINK_INT_STATUS Fld.ALINK_INT_STATUS_SETTLED 1
  s.rebuildRoutes

/-- The conditions of R499. -/
def State.maySettle (s : State) : Bool :=
  !s.settled && s.brd.valid && decide (modeLoad ≤ s.mode) &&
  [0, 1, 2, 3].all (fun p => !s.expectedPort p || [lpUp, lpConflict, lpForeign, lpDisabled, lpAbsent].contains (s.portState p)) &&
  decide (s.brd.changed + (2 * s.diameter + 2) * beaconTime ≤ s.now)

/-- POWER-UP has read the straps (R494, R535): the device is its own best candidate; a lone device is settled. -/
def State.boardStart (s : State) : State :=
  let st := s.brd.straps
  let s := (s.setFld Reg.ALINK_BOARD_STATUS Fld.ALINK_BOARD_STATUS_STRAP_ROOT (b2n st.root)).setFld
    Reg.ALINK_BOARD_STATUS Fld.ALINK_BOARD_STATUS_DIM_Y st.brdY
  let s := s.setFld Reg.ALINK_BOARD_STATUS Fld.ALINK_BOARD_STATUS_DIM_X st.brdX
  let s := { s with brd := { s.brd with best := s.ownPair, changed := s.now } }
  let s := s.takeCoord
  let s := [0, 1, 2, 3].foldl (fun s p => if s.portState p = lpTraining then s.portIdle p else s) s
  if s.lone then s.settle else s

/-! ### Packets (R261, R492) -/

/-- A NoC header with ROUTE and SEQ zero, and the CRC of a one-flit packet; the first flit of a packet of two has CRC zero (R262). -/
def headerBytes (h : BitVec 128) (payload : List Byte) : List Byte :=
  if payload.length ≤ 128 then toBytes 16 (h.toNat + crc32c (toBytes 16 h.toNat ++ payload)) else toBytes 16 h.toNat

/-- A payload of one or two flits. -/
def padPayload (b : List Byte) : List Byte := b ++ List.replicate ((if b.length ≤ 128 then 128 else 256) - b.length) 0

/-- The payload whose word 15 is `v`. -/
def withWord15 (b : List Byte) (v : Nat) : List Byte := b ++ List.replicate (120 - b.length) 0 ++ toBytes 8 v

/-- The header and payload of a request packet in general form: kind, LEN field, SRC, stream, epoch and address. -/
def requestPacket (kind lenf src stream epoch addr : Nat) (data : List Byte) : List Byte × List Byte :=
  let h : BitVec 128 := BitVec.ofNat 128 (lenf * 2 ^ 55 + src * 2 ^ 47 + stream * 2 ^ 44 + epoch * 2 ^ 43 + kind * 2 ^ 40)
  let p := if kind = kindFence ∨ kind = kindMarker then List.replicate 128 0 else withWord15 data addr
  (headerBytes h p, p)

/-- A WRITE_FULL packet. -/
def fullPacket (src stream epoch addr : Nat) (data : List Byte) : List Byte × List Byte :=
  let h : BitVec 128 := BitVec.ofNat 128 (addr / 2 ^ 7 % 2 ^ 33 * 2 ^ 59 + addr / 2 ^ 48 % 16 * 2 ^ 55 + src * 2 ^ 47 + stream * 2 ^ 44 +
    epoch * 2 ^ 43 + kindWriteFull * 2 ^ 40)
  (headerBytes h (padPayload data), padPayload data)

/-- A response packet: DATA with its bytes, or ACK, which reports a failed write with its address in word 15 (R290); BYPASS is bit 68 (R261). -/
def responsePacket (ack bypass : Bool) (code stream epoch router port addr : Nat) (data : List Byte) : List Byte × List Byte :=
  let h : BitVec 128 := BitVec.ofNat 128 ((data.length - 1) * 2 ^ 60 + b2n bypass * 2 ^ 68 + code * 2 ^ 56 + (router * 8 + port) * 2 ^ 47 + stream * 2 ^ 44 +
    epoch * 2 ^ 43 + b2n ack * 2 ^ 40)
  let p := if ack then withWord15 [] addr else padPayload data
  (headerBytes h p, p)

/-- A TOKEN packet: value in payload word 0; handle, slot and poison bit in word 1 (R261). -/
def Token.packet (k : Token) (src stream epoch : Nat) : List Byte × List Byte :=
  let h : BitVec 128 := BitVec.ofNat 128 (src * 2 ^ 47 + stream * 2 ^ 44 + epoch * 2 ^ 43 + kindToken * 2 ^ 40)
  let p := padPayload (toBytes 8 k.value.toNat ++ toBytes 8 (k.handle % 2 ^ 28 + k.slot % 4 * 2 ^ 28 + b2n k.poison * 2 ^ 30))
  (headerBytes h p, p)

/-- The packets of a part (R260): a write of up to 128 bytes is WRITE_FULL where its shape and route allow it, and is cut in two where the
general form has no room. -/
def State.partPackets (s : State) (r : Request) (q : Part) : List (List Byte × List Byte) :=
  let e := r.epoch
  match r.kind with
  | .write =>
    let short := (s.reg (Reg.NOC_RT_HI (initRouter r.src) e q.router)).toNat / 16 % 2 ^ 12 == 0
    let one (i : Nat) : List (List Byte × List Byte) :=
      let a := q.addr + 128 * i
      let d := ((partData r q).drop (128 * i)).take 128
      if d.length = 128 ∧ a % 128 = 0 ∧ short then [fullPacket r.src q.stream e a d]
      else if d.length ≤ 120 then [requestPacket 1 (d.length - 1) r.src q.stream e a d]
      else [requestPacket 1 63 r.src q.stream e a (d.take 64), requestPacket 1 (d.length - 65) r.src q.stream e (a + 64) (d.drop 64)]
    (List.range ((q.len + 127) / 128)).flatMap one
  | .fence => [requestPacket kindFence portAUX r.src q.stream e 0 []]
  | .marker => [requestPacket kindMarker portAUX r.src q.stream e 0 []]
  | _ => [requestPacket 0 (q.len - 1) r.src q.stream e q.addr []]

/-! ### Departures (R501, R503, R504) -/

/-- A packet for device `dev` leaves by port `p` on its first hop. -/
def State.sendPacket (s : State) (p hops dev : Nat) (k : List Byte × List Byte) : State :=
  s.sendFrame p ⟨frData, hops, s.fld Reg.DEV_BOARD Fld.DEV_BOARD_DEVNUM + dev * 16, k.1, k.2⟩

/-- The departure port of a router's AUX port. -/
def alinkOf (router : Nat) : Option Nat := [0, 1, 2, 3].find? (fun p => alinkRouter p == router)

/-- The non-posted requests outstanding at port `p`. -/
def State.boardOutstanding (s : State) (p : Nat) : Nat := (s.brd.out.filter (fun d => d.port == p && d.req.kind.nonPosted)).length

/-- A part for another device reaches its departure port and leaves, or meets the policy of the port's domain; a posted write is performed,
for its initiator's order, when it has left. -/
def State.departPart (s : State) (p id k : Nat) (r : Request) (q : Part) : State :=
  match s.domainGate (domPort p) id k false with
  | .wait => s
  | .done s => s
  | .open_ =>
    if s.gateState (76 + p) ≠ 0 ∨ (s.portState p ≠ lpUp ∧ s.portState p ≠ lpForeign) ∨
        (r.kind.nonPosted ∧ 256 ≤ s.boardOutstanding p) then s.arriveAt id k
    else
      let dev := q.addr / 2 ^ 48 % 16
      let pk := s.partPackets r q
      let s := (s.unhold (domPort p) id k).mapPart id k (fun q => { q with performed := true })
      let s := pk.foldl (fun s x => s.sendPacket p 0 dev x) s
      let wr : Wrote := ⟨r.src, r.bank, q.stream, p, dev⟩
      let ds : List Departed := pk.map (fun _ => ⟨r, k, p, dev, false, none⟩)
      let s := { s with brd := { s.brd with
        out := s.brd.out ++ ds
        wrote := if r.kind = ReqKind.write ∧ !s.brd.wrote.contains wr then s.brd.wrote ++ [wr] else s.brd.wrote } }
      s.sweep

/-- A FENCE packet at an Aethene port sends one to every device that its domain has written (R504). -/
def State.departFence (s : State) (p k : Nat) (r : Request) (q : Part) : State :=
  let mine (w : Wrote) : Bool := w.src == r.src && w.bank == r.bank && w.stream == q.stream && w.port == p
  let l := s.brd.wrote.filter mine
  if l.isEmpty ∨ s.portState p ≠ lpUp ∧ s.portState p ≠ lpForeign then s
  else
    let pk := s.partPackets r q
    let s := l.foldl (fun s w => pk.foldl (fun s x => s.sendPacket p 0 w.dev x) s) s
    let ds : List Departed := l.map (fun w => ⟨r, k, p, w.dev, false, none⟩)
    { s with brd := { s.brd with out := s.brd.out ++ ds, wrote := s.brd.wrote.filter (fun w => !mine w) } }

/-- Every part that has reached an Aethene port leaves, oldest request first. -/
def State.departAll (s : State) : State :=
  let one (s : State) (x : Nat × Nat) : State :=
    match s.servable x.1 x.2 with
    | none => s
    | some (r, q) =>
      (match alinkOf q.router with
        | none => s
        | some p =>
          if q.port ≠ portAUX then s
          else if r.kind = .fence then s.departFence p x.2 r q
          else if s.isLocal q.addr then s
          else s.departPart p x.1 x.2 r q)
  (s.noc.reqs.flatMap (fun r => (List.range r.parts.length).map (fun k => (r.id, k)))).foldl one s

/-! ### Answers at the origin (R504) -/

/-- Whether an older non-posted packet of the same domain still waits for its answer. -/
def State.olderDeparted (s : State) (d : Departed) : Bool :=
  s.brd.out.any (fun e => e.req.kind.nonPosted && e.req.id < d.req.id && e.req.src == d.req.src && e.req.bank == d.req.bank &&
    e.req.stream == d.req.stream && e.port == d.port && e.answer.isNone && s.noc.reqs.any (fun r => r.id == e.req.id && !r.done))

/-- A fence at an Aethene port is answered when every FENCE packet that it sent has been: with OK or the first failure (R289, R504).
The writes that it covers cannot fail any more. -/
def State.fenceAnswered (s : State) (id k : Nat) : State :=
  let l := s.brd.out.filter (fun d => d.req.id == id && d.part == k)
  if l.isEmpty ∨ l.any (fun d => d.answer.isNone) then s
  else
    let code := ((l.filterMap (fun d => d.answer)).find? (fun a => isErr a.code)).getD (codeAnswer rOK)
    let covered (d : Departed) : Bool := l.any (fun f => f.req.src == d.req.src && f.req.bank == d.req.bank &&
      f.port == d.port && f.dev == d.dev && d.req.kind == .write && d.req.id < f.req.id)
    let s := { s with brd := { s.brd with
      out := s.brd.out.filter (fun d => !(d.req.id == id && d.part == k) && !covered d) } }
    s.respond id k code

/-- Answers that have come are passed on in the order of their domains. -/
def State.passAnswers (s : State) : State :=
  let one (s : State) (d : Departed) : State :=
    match d.answer with
    | none => s
    | some a =>
      if d.req.kind = .fence then s.fenceAnswered d.req.id d.part
      else if s.olderDeparted d then s
      else
        let s := { s with brd := { s.brd with out := s.brd.out.erase d } }
        s.respond d.req.id d.part a
  s.brd.out.foldl one s

/-- The first entry equal to `d` becomes `d'`. -/
def setFirst (d d' : Departed) : List Departed → List Departed
  | [] => []
  | e :: l => if e = d then d' :: l else e :: setFirst d d' l

/-- The bytes and marks of a DATA response to a part of `len` bytes; with code POISON every word is marked (log entry 38). -/
def dataAnswer (code len : Nat) (bypass : Bool) (body : List Byte) : Answer :=
  if isErr code then codeAnswer code
  else ⟨code, body.take len, List.replicate ((len + 7) / 8) (code == rPoison), bypass⟩

/-- A response or a failure ACK comes for part `k` of request `id`; a code that no device issues counts as ERR_DECODE (R9). -/
def State.boardAnswer (s : State) (id k : Nat) (f : AFrame) : State :=
  let h : BitVec 128 := BitVec.ofNat 128 (ofBytes f.noc)
  let code := if 0xC ≤ hdrBits h 59 56 then rDecode else hdrBits h 59 56
  match s.brd.out.find? (fun d => d.req.id == id && d.part == k && d.answer.isNone) with
  | none => s.bump Reg.NOC_CNT_LATE Fld.NOC_CNT_LATE_COUNT 1
  | some d =>
    if d.req.kind = .write then
      let s := { s with brd := { s.brd with out := s.brd.out.erase d } }
      if isErr code then s.failWrite d.req code (ofBytes ((f.body.drop 120).take 8) % 2 ^ 52) else s
    else
      let len := ((d.req.parts.getD k default)).len
      let a := dataAnswer code len (hdrBits h 68 68 == 1) f.body
      let d' := { d with delivered := true, answer := some a }
      ({ s with brd := { s.brd with out := setFirst d d' s.brd.out } }).passAnswers

/-! ### Requests from other devices (R504) -/

/-- The port by which a packet for device `dev` leaves in transit or as a response: that of ALINK_RT (R502); a FOREIGN port's partner is
reached by the same port (R506). -/
def State.transitPort (s : State) (p dev : Nat) : Option Nat :=
  if s.portState p = lpForeign then some p
  else if s.bit (Reg.ALINK_RT s.epochNow dev) Fld.ALINK_RT_VALID then some (s.fld (Reg.ALINK_RT s.epochNow dev) Fld.ALINK_RT_PORT) else none

/-- A request packet is issued into the NoC as SRC 0xC8 + p on its stream, and a DELIVERY frame goes back to its origin. -/
def State.issueInbound (s : State) (p : Nat) (f : AFrame) : State :=
  let h : BitVec 128 := BitVec.ofNat 128 (ofBytes f.noc)
  let kind := hdrBits h 42 40
  let stream := hdrBits h 46 44
  let lenf := hdrBits h 62 55
  let a15 := ofBytes ((f.body.drop 120).take 8) % 2 ^ 52
  let id := s.noc.nextId
  let src := srcAlink p
  let origin := f.devs % 16
  let s' := match kind with
    | 0 => s.accept src 0 stream .read a15 (lenf + 1) [] [] none id
    | 1 => s.accept src 0 stream .write a15 (lenf + 1) (f.body.take (lenf + 1)) [] none id
    | 2 => s.accept src 0 stream .write (hdrBits h 58 55 * 2 ^ 48 + hdrBits h 91 59 * 128) f.body.length f.body [] none id
    | 3 => s.acceptFence src 0 stream [stream] [] true id
    | _ => s
  if s'.noc.nextId = id then s'
  else
    let i : Inbound := ⟨id, p, origin, f.hops⟩
    let s := { s' with brd := { s'.brd with inb := s'.brd.inb ++ [i] } }
    let back : AFrame := ⟨frDelivery, 0, s.fld Reg.DEV_BOARD Fld.DEV_BOARD_DEVNUM + origin * 16, [], []⟩
    match s.transitPort p origin with
    | some o => s.sendFrame o back
    | none => s

/-- An answer to a request of another device goes back to its origin, or is discarded where no route leads there. -/
def State.answerInbound (s : State) (d : Delivered) : State :=
  let p := d.src - 0xC8
  match s.brd.inb.find? (fun i => i.id == d.id) with
  | none => s
  | some i =>
    let s := if d.kind = .fence ∨ d.kind.nonPosted then { s with brd := { s.brd with inb := s.brd.inb.filter (fun j => j.id != d.id) } } else s
    let pk := responsePacket (d.kind != .read) false d.code d.stream s.epochNow (alinkRouter p) portAUX (if d.kind = .write then d.addr else 0) d.bytes
    match s.transitPort i.port i.origin with
    | some o => s.sendPacket o 0 i.origin pk
    | none => s

/-- The Aethene ports take what has come for them; a request that is finished is forgotten. -/
def State.alinkInbox (s : State) : State :=
  let s := s.takeInbox (fun d => decide (0xC8 ≤ d.src ∧ d.src ≤ 0xCB)) State.answerInbound
  { s with brd := { s.brd with inb := s.brd.inb.filter (fun i => s.noc.reqs.any (fun r => r.id == i.id)) } }

/-- A packet that is not for this device moves on (R503): a request that would need a ninth hop, or that finds no route, is answered
ERR_RETIRED; such a response is discarded. -/
def State.transit (s : State) (p : Nat) (f : AFrame) (resp : Bool) : State :=
  let dev := f.devs / 16
  let o := s.transitPort p dev
  if f.hops < 7 ∧ o.isSome then s.sendFrame (o.getD 0) { f with hops := f.hops + 1 }
  else if resp then s
  else
    let h : BitVec 128 := BitVec.ofNat 128 (ofBytes f.noc)
    let kind := hdrBits h 42 40
    let addr := if kind = 2 then hdrBits h 58 55 * 2 ^ 48 + hdrBits h 91 59 * 128 else ofBytes ((f.body.drop 120).take 8) % 2 ^ 52
    let pk := responsePacket (kind != 0) false rRetired (hdrBits h 46 44) s.epochNow (alinkRouter p) portAUX (if kind = 1 ∨ kind = 2 then addr else 0) []
    match s.transitPort p (f.devs % 16) with
    | some q => s.sendPacket q 0 (f.devs % 16) pk
    | none => s

/-- A DATA frame is accepted (R503, R504, R506): `resp` says that it carries a response, and `ans` which request part of this device it
answers, which its bytes do not say (log entry 39). -/
def State.dataFrame (s : State) (p : Nat) (resp : Bool) (ans : Option (Nat × Nat)) (f : AFrame) : State :=
  let st := s.portState p
  if st = lpConflict ∨ st = lpPair then s
  else if st ≠ lpForeign ∧ f.devs / 16 ≠ s.fld Reg.DEV_BOARD Fld.DEV_BOARD_DEVNUM then s.transit p f resp
  else if resp then
    (match ans with
      | some x => s.boardAnswer x.1 x.2 f
      | none => s)
  else s.issueInbound p f

/-- A DELIVERY frame is accepted: the packet that it names is no old-epoch flit any more (R504). -/
def State.deliveryFrame (s : State) (p : Nat) (x : Nat × Nat) (f : AFrame) : State :=
  if s.portState p ≠ lpForeign ∧ f.devs / 16 ≠ s.fld Reg.DEV_BOARD Fld.DEV_BOARD_DEVNUM then
    (match s.transitPort p (f.devs / 16) with
      | some o => s.sendFrame o f
      | none => s)
  else match s.brd.out.find? (fun d => d.req.id == x.1 && d.part == x.2 && !d.delivered) with
    | none => s
    | some d => { s with brd := { s.brd with out := setFirst d { d with delivered := true } s.brd.out } }

end Sys2Proof.Machine
end

