-- ==== Sys2Proof/Machine/Pair.lean ====
section
/-!
DEFINITION. Paired run (R507–R512), and the commands of chapter 19.
-/
namespace Sys2Proof.Machine


/-! ### Pair states and frames (R507, R508) -/

def pairOff : Nat := 0
def pairArmed : Nat := 1
def pairReady : Nat := 2
def pairPaired : Nat := 3
def pairHalted : Nat := 4
def pkReady : Nat := 1
def pkSig : Nat := 2
def pkHalt : Nat := 3
def pkLeave : Nat := 4

/-- A window of paired run in rc: 64 fc. -/
def windowLen : Nat := 64 * fcLen

def State.pairState (s : State) : Nat := s.fld Reg.ALINK_PAIR_STATUS Fld.ALINK_PAIR_STATUS_STATE
def State.pairPort (s : State) : Nat := s.fld Reg.ALINK_PAIR_CTL Fld.ALINK_PAIR_CTL_PORT

def State.setPairState (s : State) (v : Nat) : State :=
  if s.pairState = v then s
  else (s.setFld Reg.ALINK_PAIR_STATUS Fld.ALINK_PAIR_STATUS_STATE v).setFld Reg.ALINK_INT_STATUS Fld.ALINK_INT_STATUS_PAIR 1

def State.mapPair (s : State) (f : Pair → Pair) : State := { s with brd := { s.brd with pair := f s.brd.pair } }

/-- A PAIR frame: KIND, CAUSE, WINDOW, CRC. -/
def State.sendPair (s : State) (kind cause window crc : Nat) : State :=
  s.sendFrame s.pairPort ⟨frPair, 0, 0, [], toBytes 1 kind ++ toBytes 1 cause ++ toBytes 2 0 ++ toBytes 4 window ++ toBytes 4 crc ++ toBytes 4 0⟩

/-- A device that is armed sends its READY frame once the flip that took the pair port out of the routes is over (R507). -/
def State.pairSettle (s : State) : State :=
  let quiet := !s.bit Reg.NOC_STATUS Fld.NOC_STATUS_RECOMP_BUSY && !s.bit Reg.NOC_STATUS Fld.NOC_STATUS_FLIP_STATE
  if s.pairState = pairArmed ∧ !s.brd.pair.readySent ∧ quiet then
    let s := (s.sendPair pkReady 0 0 0).mapPair (fun x => { x with readySent := true })
    if s.brd.pair.readyGot then s.setPairState pairReady else s
  else s

/-- A write of ALINK_PAIR_CTL with ARM = 1 (R507). PORT is locked while STATE is not OFF. -/
def State.pairArm (s : State) (port : Nat) : State :=
  let result (s : State) (v : Nat) : State := s.setFld Reg.ALINK_PAIR_STATUS Fld.ALINK_PAIR_STATUS_RESULT v
  if s.pairState ≠ pairOff then result s 1
  else
    let p := port % 4
    let s := s.setFld Reg.ALINK_PAIR_CTL Fld.ALINK_PAIR_CTL_PORT p
    if s.mode ≠ modeRun ∧ s.mode ≠ modeDegraded then result s 2
    else if !s.bit Reg.CLK_STATUS Fld.CLK_STATUS_LOCK ∨ s.fld Reg.CLK_STATUS Fld.CLK_STATUS_SRC ≠ 0 then result s 3
    else if s.portState p ≠ lpUp ∨ !s.bit (Reg.ALINK_PORT_STATUS p) Fld.ALINK_PORT_STATUS_VER ∨
        !(s.aport p).nb.any (fun b => b.settled) then result s 4
    else
      let s := (result s 0).mapPair (fun _ => { Pair.reset with readyGot := (s.aport p).ready })
      let s := s.mapAport p (fun x => { x with ready := false })
      ((s.setPairState pairArmed).setPort p lpPair)

/-! ### Mismatch (R511) -/

/-- The device halts: HALT is sent, CAUSE and WINDOW are recorded, every key is zeroised, and SECURE HALT is entered. -/
def State.pairMismatch (s : State) (cause : Nat) : State :=
  let w := s.brd.pair.window
  let s := s.sendPair pkHalt cause w 0
  let s := (s.setFld Reg.ALINK_PAIR_STATUS Fld.ALINK_PAIR_STATUS_CAUSE cause).setFld Reg.ALINK_PAIR_STATUS Fld.ALINK_PAIR_STATUS_WINDOW w
  s.zeroise.enterSecureHalt.setPairState pairHalted

/-- Whether a mismatch in window `w` is raised: none after the window that a LEAVE names (R512). -/
def State.mayMismatch (s : State) (w : Nat) : Bool :=
  s.pairState == pairPaired && (match s.brd.pair.leave with
    | some (named, _) => decide (w ≤ named)
    | none => true)

/-- A LINK mismatch. -/
def State.linkMismatch (s : State) : State := if s.mayMismatch s.brd.pair.window then s.pairMismatch 2 else s

/-- Window `w` of both devices compared, once both CRCs are there (R510). -/
def State.compareWindow (s : State) (w : Nat) : State :=
  match tfind s.brd.pair.own w, tfind s.brd.pair.their w with
  | some a, some b =>
    let s := s.mapPair (fun x => { x with own := tdel x.own w, their := tdel x.their w })
    if a ≠ b ∧ s.mayMismatch w then s.pairMismatch 1 else s
  | _, _ => s

/-! ### PAIR frames (R508–R512) -/

/-- KIND, CAUSE, WINDOW and CRC of a PAIR frame's payload; none where a byte marked zero is not zero, or KIND is no kind. -/
def parsePair (b : List Byte) : Option (Nat × Nat × Nat × Nat) :=
  let at_ (i k : Nat) : Nat := ofBytes ((b.drop i).take k)
  let k := at_ 0 1
  if b.length ≠ 16 ∨ k = 0 ∨ 4 < k ∨ at_ 2 2 ≠ 0 ∨ at_ 12 4 ≠ 0 ∨ (k ≠ pkHalt ∧ at_ 1 1 ≠ 0) ∨ (k = pkReady ∧ at_ 4 4 ≠ 0) ∨
      (k ≠ pkSig ∧ at_ 8 4 ≠ 0) then none
  else some (k, at_ 1 1, at_ 4 4, at_ 8 4)

/-- The partner's READY frame may come before this device is armed: it is kept (R507; log entry 80). -/
def State.earlyReady (s : State) (p : Nat) : State :=
  if s.portState p = lpUp then s.mapAport p (fun x => { x with ready := true }) else s

/-- A PAIR frame of a kind is accepted on the pair port; a malformed one is a LINK mismatch, and one of another kind is no event of this
row. -/
def State.onPair (s : State) (p kind : Nat) (b : List Byte) (f : State → Nat → Nat → State) : State :=
  s.onFrame p frPair b (fun s x =>
    if s.portState p ≠ lpPair ∨ s.pairPort ≠ p then
      (if kind = pkReady ∧ (parsePair x.body).any (fun y => y.1 == pkReady) then s.earlyReady p else s)
    else
      let s := s.mapPair (fun y => { y with lastAt := s.now })
      match parsePair x.body with
      | none => s.linkMismatch
      | some (k, _, w, c) => if k = kind then f s w c else s)

/-- The partner's READY frame. -/
def State.gotReady (s : State) : State :=
  if s.pairState ≠ pairArmed then s
  else
    let s := s.mapPair (fun x => { x with readyGot := true })
    if s.brd.pair.readySent then s.setPairState pairReady else s

/-- Entry to PAIRED RUN at S + 64 fc, S the fc edge at which the chassis sync edge was sampled (R509). -/
def State.pairEntry (s : State) (edge : Nat) : State :=
  if s.pairState = pairReady ∧ edge + windowLen ≤ s.now ∧ edge % fcLen = 0 ∧ (s.mode = modeRun ∨ s.mode = modeDegraded) then
    let s := s.mapPair (fun x => { x with sync := some edge, entry := some (edge + windowLen), window := 0, items := [], own := [], their := [], sigs := 0, lastAt := s.now, leave := none })
    (s.setMode modePaired).setPairState pairPaired
  else s

/-- An item of a window, as the numbers that its CRC covers. -/
def PairItem.nats : PairItem → List Nat
  | .pins e d o => [e, d.toNat, o.toNat]
  | .lane l w => [l, w.data.toNat, w.side.toNat, w.err.toNat]
  | .frame p b => p :: Machine.nats b
  | .tlp b => Machine.nats b

/-- The end of a window (R510): its CRC is formed and sent in the next one. -/
def State.windowEnd (s : State) : State :=
  let x := s.brd.pair
  match x.entry with
  | none => s
  | some e =>
    if s.pairState ≠ pairPaired ∨ s.now < e + (x.window + 1) * windowLen then s
    else
      let crc := Config.pairCrc x.window (x.items.flatMap PairItem.nats) % 2 ^ 32
      let w := x.window
      let s := s.mapPair (fun x => { x with window := (w + 1) % 2 ^ 32, items := [], own := tins x.own w crc })
      (s.sendPair pkSig 0 w crc).compareWindow w

/-- The partner's SIG frame for window `w`: windows come in order (R511). -/
def State.gotSig (s : State) (w c : Nat) : State :=
  if s.pairState ≠ pairPaired then s
  else
    let n := s.brd.pair.sigs
    let s := s.mapPair (fun x => { x with sigs := (n + 1) % 2 ^ 32 })
    if w ≠ n then (if s.mayMismatch n then s.pairMismatch 1 else s)
    else (s.mapPair (fun x => { x with their := tins x.their w c })).compareWindow w

/-- No PAIR frame for 4 windows. -/
def State.pairTimeout (s : State) : State :=
  if s.brd.pair.lastAt + 4 * windowLen ≤ s.now then s.linkMismatch else s

/-- The return from paired run: the run mode, STATE OFF, and the port UP with new routes (R512). -/
def State.pairReturn (s : State) : State :=
  let s := (s.setMode (s.fld Reg.PWR_MODE_STATUS Fld.PWR_MODE_STATUS_RUN_MODE)).setPairState pairOff
  let p := s.pairPort
  if s.portState p = lpPair then s.setPort p lpUp else s

/-- A write of LEAVE = 1 in window w. -/
def State.pairLeaveWrite (s : State) : State :=
  if s.pairState ≠ pairPaired ∨ s.brd.pair.leave.isSome then s
  else
    let w := s.brd.pair.window
    let s := (s.sendPair pkLeave 0 w 0).setFld Reg.ALINK_PAIR_STATUS Fld.ALINK_PAIR_STATUS_WINDOW w
    s.mapPair (fun x => { x with leave := some (w, w + 16) })

/-- A LEAVE frame that names window `w`: after a write the return is at the end of window w + 16; after a retirement at the end of w, or at
once where it has ended (R512). The frame does not say which (log entry 41). -/
def State.gotLeave (s : State) (retired : Bool) (w : Nat) : State :=
  if s.pairState ≠ pairPaired then s
  else
    let s := s.setFld Reg.ALINK_PAIR_STATUS Fld.ALINK_PAIR_STATUS_WINDOW w
    if retired ∧ w < s.brd.pair.window then s.pairReturn
    else
      let last := if retired then w else w + 16
      s.mapPair (fun x => { x with leave := some (match x.leave with
        | some (a, b) => (min a w, min b last)
        | none => (w, last)) })

/-- The last window before the return ends. -/
def State.pairLeaveEnd (s : State) : State :=
  match s.brd.pair.leave, s.brd.pair.entry with
  | some (_, w), some e => if s.pairState = pairPaired ∧ e + (w + 1) * windowLen ≤ s.now then s.pairReturn else s
  | _, _ => s

/-- A retirement in paired run: the device leaves at its edge X, with a LEAVE frame that names its current window (R512). -/
def State.pairRetire (s : State) : State :=
  if s.pairState ≠ pairPaired then s
  else
    let w := s.brd.pair.window
    ((s.sendPair pkLeave 0 w 0).setFld Reg.ALINK_PAIR_STATUS Fld.ALINK_PAIR_STATUS_WINDOW w).pairReturn

/-! ### Losing a port (R491, R511) -/

/-- An UP port loses lock or hits the retry limit: TRAINING, LOST; a pair is a LINK mismatch, one that is not yet paired ends (log entry
36). -/
def State.portLost (s : State) (p : Nat) : State :=
  if !s.portTrained p then s
  else if s.portState p = lpPair ∧ s.mayMismatch s.brd.pair.window then s.pairMismatch 2
  else
    let s := if s.portState p = lpPair ∧ s.pairState ≠ pairHalted then
        (if s.pairState = pairPaired then (s.pairReturn) else s.setPairState pairOff)
      else s
    let s := s.clearPort p
    (s.setFld (Reg.ALINK_PORT_STATUS p) Fld.ALINK_PORT_STATUS_LOST 1).setPort p lpTraining

end Sys2Proof.Machine
end

