-- ==== Sys2Proof/Machine/Stack.lean ====
section
/-!
DEFINITION. Stack health (chapter 18): via groups and their checks, lane-shift pauses, retirement beyond the spares, and bond wear.
-/
namespace Sys2Proof.Machine


/-! ### The repair map (R476, R477) -/

def insAsc (v : Nat) : List Nat → List Nat
  | [] => [v]
  | x :: l => if v < x then v :: x :: l else if v = x then x :: l else x :: insAsc v l

/-- A via recorded bad: the entry is in force, and is to be blown into the fuses (R476, R477). -/
def State.markBad (s : State) (g v : Nat) : State :=
  { s with stk := { s.stk with bad := tins s.stk.bad g (insAsc v (s.badVias g)), pend := s.stk.pend ++ [(g, v)] } }

/-! ### Beyond the spares (R483–R485) -/

def skTransient : Nat := 0
def skRepair : Nat := 1
def skRetire : Nat := 2

/-- An event of STACK_LOG: at one sc edge the lowest-numbered rod is recorded. -/
def State.stackLog (s : State) (kind g via : Nat) : State :=
  s.logSc Reg.STACK_LOG (groupRod g) (BitVec.ofNat 32 (kind * 2 ^ 28 + g)) [(Reg.STACK_LOG_VIA, BitVec.ofNat 32 via)] none

/-- One fc after a retirement has isolated region `r`: banks become UNINIT, which loses the tallies in them (R176, R198), and a plane INVALID
(R484, R485). -/
def State.banksLost (s : State) (r : Nat) (banks : List Nat) (plane : Option Nat) : State :=
  let s := banks.foldl (fun s b => (s.loseBank r b).uninitBank r b) s
  match plane with
  | some p => s.setPstate r p psInvalid
  | none => s

/-- The active plane of a RUNNING region is lost (R484): the region is isolated at X; its bank and the plane follow at X + 1 fc. -/
def State.losePlane (s : State) (r p x : Nat) : State :=
  (s.isolateOver r x).later (x + fcLen) (.banksLost r [s.bankPtr r] (some p))

/-- Whether a retirement at the same edge has already taken plane `p` of region `r`, as the active one. -/
def State.planeGoing (s : State) (r p : Nat) : Bool :=
  s.agenda.any (fun a => match a.2 with
    | .banksLost q _ (some k) => q == r && k == p
    | _ => false)

/-- The planes of region `r` that `needs` (DRIVE, READ) asks about lose channels (R484). -/
def State.losePlanes (s : State) (r g : Nat) (pick : Nat × Nat → Nat) (x : Nat) : State :=
  (List.range 8).foldl (fun s p =>
    if s.pstate r p = psValid && (pick (tget (fun _ => (0, 0)) s.cfg.needs (8 * r + p))).testBit g then
      (if s.planeGoing r p then s else if s.planeActive r p then s.losePlane r p x else s.setPstate r p psInvalid)
    else s) s

/-- Channels 64g to 64g + 63 driven by region `r` are retired at X (R483, R484). BGEN moves as R103 has it even while a beam reset is asserted,
of which R547 says that it does not change (DESIGN CHOICE: log entry 89). -/
def State.retireRc (s : State) (r g x : Nat) : State :=
  let other := (r + 64) % 128
  let a := if g < 32 then Reg.PLANE_FAB_RC_AVAIL_LO r else Reg.PLANE_FAB_RC_AVAIL_HI r
  let s := s.setReg a (s.reg a &&& ~~~(1#32 <<< (g % 32)))
  let s := { s with stk := { s.stk with rcLost := s.stk.rcLost ++ [(r, g, x)] } }
  let s := (s.bumpBgen r).bumpBgen other
  (s.losePlanes r g (·.1) x).losePlanes other g (·.2) x

/-- Every record placed in region `r` in XFER or SPILLED is lost, and the spill slots are freed (R485). -/
def State.loseSpilled (s : State) (r : Nat) : State :=
  let hit := s.sch.recs.filter (fun p => p.2.placed && !p.2.engine && p.2.unit == r && (p.2.state == tsXfer || p.2.state == tsSpilled))
  let s := hit.foldl (fun s p => (s.freeRec p.1).logFault faultLost r (s.handleOf p.1)) s
  s.mapSreg r (fun y => { y with slots := [] })

/-- Window accesses in service at region `r` end with a code (R460, R485). -/
def State.endWindows (s : State) (r code : Nat) : State :=
  (s.fab.win.filter (fun x => x.region == r)).foldl (fun s x => (s.dropWin x.id x.part).respond x.id x.part (codeAnswer code)) s

/-- Responses handed to a region and not yet taken by it are discarded. -/
def State.dropResponses (s : State) (r : Nat) : State :=
  { s with noc := { s.noc with inbox := s.noc.inbox.filter (fun d => d.src != srcRegion r) } }

/-- A region of a retired rod (R485). -/
def State.retireRegion (s : State) (r x : Nat) : State :=
  let s := ((s.isolateOver r x).loseRegion r).loseSpilled r
  let s := ((s.later (x + fcLen) (.banksLost r [0, 1, 2, 3] none)).endWindows r rRetired).dropResponses r
  s.setRegion r { s.region r with xfer := none }

/-- Rod `n` is retired at X (R485). -/
def State.retireRod (s : State) (n x : Nat) : State :=
  if s.rodRetired n then s
  else
    let a := if n < 32 then Reg.STACK_ROD_RET_LO else Reg.STACK_ROD_RET_HI
    let s := (s.retireRegion n x).retireRegion (n + 64) x
    let s := s.setReg a (s.reg a ||| (1#32 <<< (n % 32)))
    (s.retirePort n portLREG).retirePort n portUREG

/-- What the retirement of a group takes away (R483). -/
def State.retireUse (s : State) (g x : Nat) : State :=
  let n := groupRod g
  match groupUse g with
  | .rod => s.retireRod n x
  | .ways first => ((List.range 16).filter (fun w => decide (first ≤ w))).foldl (fun s w => s.retireChannel n w) s
  | .cp j =>
    if j = 32 then s.setFld (Reg.CACHE_SLICE n) Fld.CACHE_SLICE_CMD_FALLBACK 1
    else if groupIface g ≤ 4 + j / 2 / 4 then s.retireChannel n (j / 2) else s
  | .rc r k => s.retireRc r k x

/-- The run mode becomes DEGRADED RUN at a retirement (R467); RUN becomes it at once, and PAIRED RUN returns to it (R512). -/
def State.degrade (s : State) : State :=
  let s := s.setFld Reg.PWR_MODE_STATUS Fld.PWR_MODE_STATUS_RUN_MODE modeDegraded
  if s.mode = modeRun then s.setMode modeDegraded else if s.mode = modePaired then s.pairRetire else s

/-- PAUSE and DEFERRED (R481, R482). -/
def State.showPauses (s : State) : State :=
  (s.setFld Reg.STACK_STATUS Fld.STACK_STATUS_PAUSE (b2n (!s.stk.pauses.isEmpty))).setFld Reg.STACK_STATUS Fld.STACK_STATUS_DEFERRED
    (b2n (!s.stk.defer.isEmpty))

/-- Group `g` is retired at the sc edge X of now (R483); `via` is what the log names. -/
def State.retireGroup (s : State) (g via : Nat) : State :=
  if s.groupRetired g then s
  else
    let s := { s with stk := { s.stk with retired := insAsc g s.stk.retired, defer := s.stk.defer.filter (fun d => d.1 != g) } }
    let s := s.showPauses
    let s := (s.bump Reg.STACK_STATUS Fld.STACK_STATUS_RETIRED 1).setFld Reg.STACK_INT_STATUS Fld.STACK_INT_STATUS_RETIRE 1
    ((s.stackLog skRetire g via).retireUse g s.scEdge).degrade

/-! ### Pauses (R481, R482) -/

/-- A lane-shift pause starts at the sc edge Y of now and repairs the faulty vias of a group. -/
def State.startPause (s : State) (g : Nat) (vias : List Nat) : State :=
  let s := vias.foldl (fun s v => ((s.markBad g v).bump Reg.STACK_CNT Fld.STACK_CNT_REPAIRS 1).stackLog skRepair g v) s
  ({ s with stk := { s.stk with pauses := s.stk.pauses ++ [(g, s.scEdge)] } }).showPauses

/-- Whether a repair of group `g` is deferred now (R482). -/
def State.defers (s : State) (g : Nat) : Bool :=
  s.bit Reg.STACK_CTL Fld.STACK_CTL_RC_DEFER && isRc g && (s.running (groupRod g) || s.running (groupRod g + 64))

/-- 400 sc in rc. -/
def pauseLen : Nat := 400 * scLen

def State.pauseEnd (s : State) (g : Nat) : State :=
  match s.stk.pauses.find? (fun p => p.1 == g) with
  | some p =>
    if s.now < p.2 + pauseLen then s
    else
      let s := { s with stk := { s.stk with pauses := s.stk.pauses.filter (fun q => q != p) } }
      (s.setFld Reg.STACK_INT_STATUS Fld.STACK_INT_STATUS_REPAIR 1).showPauses
  | none => s

def State.deferredStart (s : State) (g : Nat) : State :=
  match s.stk.defer.find? (fun d => d.1 == g) with
  | some d =>
    if s.defers g then s
    else ({ s with stk := { s.stk with defer := s.stk.defer.filter (fun e => e != d) } }).startPause g d.2
  | none => s

/-! ### Sweeps (R479, R480) -/

/-- A sweep starts; one requested while one runs does nothing. -/
def State.startSweep (s : State) : State :=
  if s.stk.sweep.isSome then s
  else ({ s with stk := { s.stk with sweep := some [] } }).setFld Reg.STACK_STATUS Fld.STACK_STATUS_SWEEP 1

/-- The period of sweeps, in sc. -/
def sweepPeriod : Nat := 4000000000

def State.periodicSweep (s : State) : State :=
  if s.bit Reg.STACK_CTL Fld.STACK_CTL_CHECK_EN && s.epoch.isSome && s.tallyNow != 0 && s.tallyNow % sweepPeriod == 0 then s.startSweep else s

/-- A group's place in its rod's order: 256 × interface + index. -/
def groupPlace (g : Nat) : Nat := 256 * groupIface g + groupIdx g
def lastPlace : Nat := 256 * 7 + 34

/-- A group's observation is over; the sweep ends when every rod has observed its last group. -/
def State.observed (s : State) (g : Nat) (t : Table Nat) : State :=
  let t := tins t (groupRod g) (groupPlace g)
  if (List.range 64).all (fun n => tfind t n == some lastPlace) then
    ({ s with stk := { s.stk with sweep := none } }).setFld Reg.STACK_STATUS Fld.STACK_STATUS_SWEEP 0
  else { s with stk := { s.stk with sweep := some t } }

/-- A spare that fails its pattern test is recorded bad at once (R480). -/
def State.spareFault (s : State) (g v : Nat) : State :=
  if s.groupRetired g ∨ (s.badVias g).contains v then s
  else if 4 ≤ (s.badVias g).length + ((s.stk.defer.filter (fun d => d.1 == g)).flatMap (·.2)).length then s.retireGroup g v
  else
    let s := ((s.markBad g v).bump Reg.STACK_CNT Fld.STACK_CNT_REPAIRS 1).stackLog skRepair g v
    s.setFld Reg.STACK_INT_STATUS Fld.STACK_INT_STATUS_REPAIR 1

/-- A mismatching via whose four further observations do not all mismatch: counted and logged (R480). -/
def State.transientFault (s : State) (g v : Nat) : State :=
  let s := (s.bump Reg.STACK_CNT Fld.STACK_CNT_TRANSIENT 1).stackLog skTransient g v
  s.setFld Reg.STACK_INT_STATUS Fld.STACK_INT_STATUS_TRANSIENT 1

/-- Persistent faults of a group (R480–R483): one pause repairs them, deferred where R482 says so; a fifth bad via retires the group. -/
def State.persistentFaults (s : State) (g : Nat) (vias : List Nat) : State :=
  let old := (s.stk.defer.filter (fun d => d.1 == g)).flatMap (·.2)
  let vias := vias.filter (fun v => !old.contains v)
  let room := 4 - ((s.badVias g).length + old.length)
  if s.groupRetired g ∨ vias.isEmpty then s
  else if room < vias.length then
    let s := (old ++ vias.take room).foldl (fun s v => (s.markBad g v).bump Reg.STACK_CNT Fld.STACK_CNT_REPAIRS 1) s
    s.retireGroup g (vias.getD room 0)
  else if s.defers g then
    let d := s.stk.defer.filter (fun d => d.1 != g) ++ [(g, old ++ vias)]
    ({ s with stk := { s.stk with defer := d } }).showPauses
  else s.startPause g vias

/-- The observation of group `g` ends: `faults` lists each via that mismatched or failed its pattern test, with how many of its four
further observations mismatched. -/
def State.observe (s : State) (g : Nat) (faults : List (Nat × Nat)) : State :=
  match s.stk.sweep with
  | none => s
  | some t =>
    if !isGroup g ∨ (tfind t (groupRod g)).any (fun k => decide (groupPlace g ≤ k)) then s
    else
      let live := s.signalVias g
      let known := faults.filter (fun f => decide (f.1 < 68) && !(s.badVias g).contains f.1)
      let spares := known.filter (fun f => !live.contains f.1)
      let signals := if s.groupRetired g then [] else known.filter (fun f => live.contains f.1)
      let s := spares.foldl (fun s f => s.spareFault g f.1) s
      let s := (signals.filter (fun f => decide (f.2 < 4))).foldl (fun s f => s.transientFault g f.1) s
      let s := s.persistentFaults g ((signals.filter (fun f => decide (4 ≤ f.2))).foldl (fun l f => insAsc f.1 l) [])
      s.observed g t

/-- A recorded via reaches the fuses (R477). -/
def State.fuseBlow (s : State) (g v : Nat) : State :=
  if s.stk.pend.contains (g, v) then
    { s with stk := { s.stk with pend := s.stk.pend.filter (fun p => p != (g, v)) }
             fuse := { s.fuse with vias := tins s.fuse.vias g (insAsc v (tget (fun _ => []) s.fuse.vias g)) } }
  else s

/-- The via check of POWER-UP (R478): the fuse entries are applied, newly failing vias recorded, and groups with more than four bad vias
retired. A group that is not retired here is in service. -/
def State.viaCheck (s : State) (faults : List (Nat × Nat)) : State :=
  let s := { s with stk := { s.stk with bad := s.fuse.vias, pend := [], retired := [], rcLost := [] } }
  faults.foldl (fun s f =>
    if !isGroup f.1 ∨ 68 ≤ f.2 ∨ (s.badVias f.1).contains f.2 then s
    else if 4 ≤ (s.badVias f.1).length then s.retireGroup f.1 0x7F
    else s.markBad f.1 f.2) s

/-! ### Bond wear (R486–R488) -/

/-- The bin of a half-cycle of range `r`, in 0.25 °C (R486). -/
def wearBin (r : Nat) : Option Nat :=
  if 240 ≤ r then some 3 else if 160 ≤ r then some 2 else if 80 ≤ r then some 1 else if 40 ≤ r then some 0 else none

/-- h(s, b). -/
def State.wearCount (s : State) (x b : Nat) : Nat := (s.reg (Reg.STACK_WEAR_CNT x b)).toNat

/-- One half-cycle of sensor `x` counted. -/
def State.countCycle (s : State) (x r : Nat) : State :=
  match wearBin r with
  | some b => s.bump (Reg.STACK_WEAR_CNT x b) Fld.STACK_WEAR_CNT_COUNT 1
  | none => s

/-- A reading of sensor `x`, in 0.25 °C (R486). The first reading of a sensor that has none starts its trend. -/
def State.sensorRead (s : State) (x : Nat) (t : Int) : State :=
  let s := (s.setFld (Reg.STACK_TEMP x) Fld.STACK_TEMP_VALID 1).setFld (Reg.STACK_TEMP x) Fld.STACK_TEMP_TEMP (t % 4096).toNat
  let put (s : State) (y : Sensor) : State := { s with stk := { s.stk with sens := tins s.stk.sens x y } }
  match tfind s.stk.sens x with
  | none => put s ⟨t, t, true⟩
  | some y =>
    if (if y.up then y.ext < t else t < y.ext) then put s { y with ext := t }
    else if 8 ≤ (if y.up then y.ext - t else t - y.ext) then put (s.countCycle x (y.ext - y.rev).natAbs) ⟨y.ext, t, !y.up⟩
    else s

/-- The damage of sensor `x` (R487). -/
def State.sensorDamage (s : State) (x : Nat) : Nat :=
  min ((s.wearCount x 0 + 8 * s.wearCount x 1 + 64 * s.wearCount x 2 + 256 * s.wearCount x 3) / 32) (2 ^ 32 - 1)

/-- The damage of die `k`. -/
def State.dieDamage (s : State) (k : Nat) : Nat := ((List.range 8).map (fun j => s.sensorDamage (8 * k + j))).foldl max 0

def wearWarn : Nat := 800000
def wearBudget : Nat := 1000000

/-- A wear flag that the device damage reaches (R487). -/
def State.wearFlag (s : State) (limit : Nat) (flag int : Field) : State :=
  if limit ≤ (s.reg Reg.STACK_WEAR_DEV).toNat ∧ s.fld Reg.STACK_STATUS flag = 0 then
    (s.setFld Reg.STACK_STATUS flag 1).setFld Reg.STACK_INT_STATUS int 1
  else s

/-- The damage registers and the wear flags brought up to date. -/
def State.wearSettle (s : State) : State :=
  let s := (List.range 8).foldl (fun s k => s.setReg (Reg.STACK_WEAR_DMG k) (BitVec.ofNat 32 (s.dieDamage k))) s
  let s := s.setReg Reg.STACK_WEAR_DEV (BitVec.ofNat 32 (((List.range 8).map s.dieDamage).foldl max 0))
  (s.wearFlag wearWarn Fld.STACK_STATUS_WEAR_WARN Fld.STACK_INT_STATUS_WARN).wearFlag wearBudget Fld.STACK_STATUS_WEAR_EXHAUSTED
    Fld.STACK_INT_STATUS_EXHAUSTED

/-- 10 ms in rc. -/
def wearPeriod : Nat := 48000000

/-- Every sensor is read (R486): sensor x reads entry x, a 12-bit two's complement number. Counting runs from the end of POWER-UP. -/
def State.wearSample (s : State) (temps : List Nat) : State :=
  if s.epoch.isNone ∨ s.stk.readAt.any (fun e => decide (s.now < e + wearPeriod)) then s
  else
    let s := temps.zipIdx.foldl (fun s p => if p.2 < 64 then s.sensorRead p.2 (BitVec.ofNat 12 p.1).toInt else s) s
    ({ s with stk := { s.stk with readAt := some s.now } }).wearSettle

/-- A ledger record is written to the next place of the ring (R488); `ok` says whether the write succeeds. During a power-fail interval
none is started (R521). -/
def State.ledgerWrite (s : State) (ok : Bool) : State :=
  if s.pwr.failAt.isSome then s
  else
    let seq := ((s.reg Reg.STACK_WEAR_SEQ).toNat + 1) % 2 ^ 32
    let counts := (List.range 256).filterMap (fun k =>
      if s.wearCount (k / 4) (k % 4) = 0 then none else some (k, s.wearCount (k / 4) (k % 4)))
    let s := { s with stk := { s.stk with
      ring := tins s.stk.ring s.stk.place ⟨seq, counts, s.stk.sens, ok⟩, place := (s.stk.place + 1) % 16 } }
    if ok then s.setReg Reg.STACK_WEAR_SEQ (BitVec.ofNat 32 seq)
    else s.setFld Reg.STACK_INT_STATUS Fld.STACK_INT_STATUS_LEDGER 1

/-- The hourly record: every 1,440,000,000,000 sc of TALLY_NOW. -/
def State.hourlyRecord (s : State) (ok : Bool) : State :=
  if s.epoch.isSome && s.tallyNow != 0 && s.tallyNow % 1440000000000 == 0 then s.ledgerWrite ok else s

/-- The good record with the highest sequence number. -/
def State.bestRecord (s : State) : Option (Nat × WearRec) :=
  s.stk.ring.foldl (fun b p =>
    if !p.2.good then b
    else match b with
      | some q => if q.2.seq < p.2.seq then some p else b
      | none => some p) none

/-- POWER-UP loads the ledger (R488). -/
def State.ledgerLoad (s : State) : State :=
  match s.bestRecord with
  | some (place, x) =>
    let s := x.counts.foldl (fun s p => s.setReg (Reg.STACK_WEAR_CNT (p.1 / 4) (p.1 % 4)) (BitVec.ofNat 32 p.2)) s
    let s := { s with stk := { s.stk with sens := x.sens, place := (place + 1) % 16 } }
    let s := s.setReg Reg.STACK_WEAR_SEQ (BitVec.ofNat 32 x.seq)
    (s.setFld Reg.STACK_STATUS Fld.STACK_STATUS_LEDGER_OK 1).wearSettle
  | none => s.setFld Reg.STACK_INT_STATUS Fld.STACK_INT_STATUS_LEDGER 1

/-- A write of STACK_CTL: RC_DEFER and CHECK_EN are kept. -/
def State.stackCtl (s : State) (v : Nat) : State :=
  (s.setFld Reg.STACK_CTL Fld.STACK_CTL_RC_DEFER (v / 2)).setFld Reg.STACK_CTL Fld.STACK_CTL_CHECK_EN v

/-- The whole effect of a write of STACK_CTL; `ok` says whether a ledger record that it asks for is written. -/
def State.stackCtlWrite (s : State) (v : Nat) (ok : Bool) : State :=
  let s := s.stackCtl v
  let s := if v.testBit 31 then s.startSweep else s
  if v.testBit 30 then s.ledgerWrite ok else s

end Sys2Proof.Machine
end

