-- ==== Sys2Proof/Machine/Power.lean ====
section
/-!
DEFINITION. Power domains, resets and operating modes (chapter 17).
-/
namespace Sys2Proof.Machine


/-! ### Powering down (R452, R453, R458) -/

def oncApplied : Nat := 0
def oncRoot : Nat := 1
def oncMode : Nat := 2
def oncBusy : Nat := 3

/-- The modes in which a domain does not power down on a write and no die is reset (R458, R466). -/
def State.fixedMode (s : State) : Bool :=
  [modePowerUp, modeFill, modeLoad, modeFallback, modeStandby, modeSecureHalt].contains s.mode

/-- The registration of an engine's wait ends. -/
def State.endWait (s : State) (n : Nat) : State :=
  { s with sch := { s.sch with waits := tdel s.sch.waits n, offer := tdel s.sch.offer n } }

/-- An engine in FENCING issues nothing more; an xq.wait that has not ended stops waiting without retiring, and its registration ends at the
next sc edge (R452). -/
def State.fenceEngine (s : State) (n : Nat) : State :=
  let e := s.engine n
  let s := match e.busy with
    | .wait _ _ _ _ _ =>
      (s.setEngine n { e with busy := .idle }).later s.scNext (.endWait n)
    | _ => s
  s.showEngine n

/-- An ON domain powers down at the sc edge P of now. -/
def State.powerDown (s : State) (d : Nat) : State :=
  let s := s.setDomState d dsFencing
  let s := { s with pwr := { s.pwr with down := tins s.pwr.down d (s.scEdge, none), ready := tdel s.pwr.ready d } }
  if d < 128 then s.isolateOver d s.scEdge
  else if d < 192 then s.fenceEngine (d - 128)
  else s

/-- The ON and POLICY fields of a domain. -/
def State.setPolicy (s : State) (d v : Nat) : State := s.setFld (Reg.PWR_DOM_CTL d) Fld.PWR_DOM_CTL_POLICY (v / 2 ^ 30)
def State.domOutcome (s : State) (d o : Nat) : State := s.setFld (Reg.PWR_DOM_STATUS d) Fld.PWR_DOM_STATUS_OUTCOME o

/-- A write of ON = 0 (R452, R458). -/
def State.domOffWrite (s : State) (d v : Nat) : State :=
  let st := s.domState d
  if st = dsFencing ∨ st = dsDraining ∨ st = dsOff then s.setPolicy d v
  else if d = 128 then s.domOutcome d oncRoot
  else if s.fixedMode then s.domOutcome d oncMode
  else if st = dsWaking then s.domOutcome d oncBusy
  else (((s.setPolicy d v).setFld (Reg.PWR_DOM_CTL d) Fld.PWR_DOM_CTL_ON 0).domOutcome d oncApplied).powerDown d

/-- The initiator of a domain's block. -/
def domSrc (d : Nat) : Option Nat :=
  if d < 128 then some (srcRegion d) else if d < 192 then some (d - 128) else if d < 204 then some (srcQuadToken (d - 192))
  else if d < 208 then none else some (srcAlink (d - 208))

/-- Every request that the block had issued is in the network, and the region's commit buffer is empty. -/
def State.domFenced (s : State) (d : Nat) : Bool :=
  (match domSrc d with
    | some n => s.noc.reqs.all (fun r => r.src != n || r.self.isSome || r.done || s.sent r)
    | none => true) &&
  (decide (128 ≤ d) || (s.sreg d).buf.isEmpty)

/-- Whether the condition that ends the present state of domain `d` was first seen to hold at an earlier sc edge (R452). -/
def State.domReady (s : State) (d : Nat) : Bool := (tfind s.pwr.ready d).any (fun e => decide (e < s.scEdge))

/-- FENCING ends at the first sc edge strictly after the one at which its condition was first seen to hold. -/
def State.domDrain (s : State) (d : Nat) : State :=
  match tfind s.pwr.down d with
  | some (p, none) =>
    if s.domState d = dsFencing ∧ s.domReady d then
      let s := s.setDomState d dsDraining
      { s with pwr := { s.pwr with down := tins s.pwr.down d (p, some s.scEdge), ready := tdel s.pwr.ready d } }
    else s
  | _ => s

/-- Every request accepted before the sc edge `p` has been served. -/
def State.domServed (s : State) (d p : Nat) : Bool :=
  if d < 128 then
    s.noc.reqs.all (fun r => r.parts.all (fun q =>
      !(q.router == d % 64 && q.port == regionPort d && !q.performed) || q.arrivedAt.all (fun a => decide (p ≤ a)))) &&
    s.fab.win.all (fun x => x.region != d || decide (p ≤ x.at_))
  else if d < 204 then true
  else if d < 208 then
    s.emc.jobs.all (fun j => !s.servedBefore d j.id j.part ||
      j.left.all (fun l => (match s.extPlace l.1 with | some (c, _) => c != d - 204 | none => true)))
  else s.brd.out.all (fun x => x.port != d - 208 || !x.req.kind.nonPosted || (s.findReq x.req.id).all (·.done))

/-- Every non-posted request of the block has been answered. -/
def State.domAnswered (s : State) (d : Nat) : Bool :=
  match domSrc d with
  | some n => s.noc.reqs.all (fun r => r.src != n || !r.kind.nonPosted || r.done)
  | none => true

/-- The condition of R452 that ends the present state of domain `d`, which powers down. -/
def State.domDone (s : State) (d : Nat) : Bool :=
  match tfind s.pwr.down d with
  | some (_, none) => s.domFenced d
  | some (p, some _) => s.domAnswered d && s.domServed d p
  | none => false

/-- Before time moves on to `t`: the sc edge that first sees the condition of a domain that powers down is noted (R452). -/
def State.domSee (s : State) (t : Nat) : State :=
  if t ≤ s.now then s
  else
    let l := s.pwr.down.filter (fun p => (tfind s.pwr.ready p.1).isNone && s.domDone p.1)
    l.foldl (fun s p => { s with pwr := { s.pwr with ready := tins s.pwr.ready p.1 ((s.now + scLen - 1) / scLen * scLen) } }) s

/-- A region's deck RAM contents are lost (R56, R453). -/
def State.loseDeck (s : State) (r : Nat) : State :=
  let mine (b : Nat) : Bool := b / 48 == r
  { s with fab := { s.fab with
    ram := s.fab.ram.filter (fun p => !mine (p.1 / 512)), out := s.fab.out.filter (fun p => !mine (p.1 / 2)),
    ramLast := s.fab.ramLast.filter (fun p => !mine p.1) } }

/-- A region reaches OFF. -/
def State.regionOff (s : State) (r : Nat) : State :=
  let s := ((s.loseRegion r).uninitBanks r).loseDeck r
  (s.setRegion r { s.region r with xfer := none }).setRstate r rsOff

/-- An engine reaches OFF: what its pipeline held is not kept, and its registers hold no known value after. -/
def State.engineOff (s : State) (n : Nat) : State :=
  let s := (s.setReg (Reg.ENG_CTL n) 2).resetEngine n
  let k := s.fresh
  let e := (List.range 31).foldl (fun (e : Eng) i =>
    e.put (i + 1) ((Config.freeWord (k + i)).setWidth 32) ((Config.freeWord (k + 31)).getLsbD i)) Eng.idle
  { (s.setEngine n e).showEngine n with fresh := k + 32 }

/-- The block loses its contents at the OFF edge (R453). -/
def State.blockOff (s : State) (d : Nat) : State :=
  if d < 128 then s.regionOff d
  else if d < 192 then s.engineOff (d - 128)
  else if d < 204 then s.quadOff (d - 192)
  else if d < 208 then s
  else ((s.portLost (d - 208)).clearPort (d - 208)).setPort (d - 208) lpOff

/-- DRAINING ends at the first sc edge strictly after the one at which its condition was first seen to hold. A wake that is pending begins at
once (R454, R456). -/
def State.domOff (s : State) (d : Nat) : State :=
  match tfind s.pwr.down d with
  | some (_, some _) =>
    if s.domState d = dsDraining ∧ s.domReady d then
      let s := ({ s with pwr := { s.pwr with down := tdel s.pwr.down d, ready := tdel s.pwr.ready d } }).setDomState d dsOff
      let s := (s.blockOff d).setFld Reg.PWR_INT_STATUS Fld.PWR_INT_STATUS_DOMAIN 1
      if s.bit (Reg.PWR_DOM_STATUS d) Fld.PWR_DOM_STATUS_WAKE_PENDING then s.joinWake d else s
    else s
  | _ => s

/-! ### Powering up (R456, R457) -/

/-- A domain is asked to wake. -/
def State.wakeDomain (s : State) (d : Nat) : State :=
  let st := s.domState d
  if st = dsOff then s.joinWake d
  else if st = dsFencing ∨ st = dsDraining then s.setFld (Reg.PWR_DOM_STATUS d) Fld.PWR_DOM_STATUS_WAKE_PENDING 1
  else s

/-- A write of ON = 1. -/
def State.domOnWrite (s : State) (d v : Nat) : State :=
  let s := s.setPolicy d v
  if s.domState d = dsOn ∨ s.domState d = dsWaking then s
  else ((s.setFld (Reg.PWR_DOM_CTL d) Fld.PWR_DOM_CTL_ON 1).domOutcome d oncApplied).wakeDomain d

/-- A region whose domain is ON leaves OFF, and one that no reset holds leaves RESET (R94). -/
def State.regionBack (s : State) (r : Nat) : State :=
  if s.domState r = dsOn ∧ s.regionHeld r then s.setRstate r rsReset
  else if s.rstate r = rsReset ∨ (s.rstate r = rsOff ∧ s.domState r = dsOn) then s.enterIsolated r
  else s

/-- The domain's block returns (R457). -/
def State.blockOn (s : State) (d : Nat) : State :=
  if d < 128 then s.regionBack d
  else if d < 192 then (s.setReg (Reg.ENG_CTL (d - 128)) 2).showEngine (d - 128)
  else if d < 204 then s.quadOn (d - 192)
  else if d < 208 then s
  else s.portIdle (d - 208)

/-- The next queued domain ramps. -/
def State.nextRamp (s : State) : State :=
  match s.pwr.queue with
  | d :: l => if s.pwr.ramps.length < 16 then { s with pwr := { s.pwr with queue := l, ramps := s.pwr.ramps ++ [(d, s.now + rampLen)] } } else s
  | [] => s

/-- The wake of STANDBY ends when every domain of the wake list is ON (R470). -/
def State.wakeSettle (s : State) : State :=
  if s.mode = modeStandby ∧ s.pwr.waking ∧ s.pwr.wake.all (fun d => s.domState d == dsOn) then
    ({ s with pwr := { s.pwr with wake := [], waking := false } }).setMode modeQuiesce
  else s

/-- A ramp ends and the domain is ON; the target limit of what it holds counts from now (R454). -/
def State.domOn (s : State) (d : Nat) : State :=
  match s.pwr.ramps.find? (fun r => r.1 == d) with
  | some (_, e) =>
    if s.now < e then s
    else
      let s := ({ s with pwr := { s.pwr with ramps := s.pwr.ramps.filter (fun r => r.1 != d) } }).nextRamp
      let s := (s.setDomState d dsOn).setFld (Reg.PWR_DOM_STATUS d) Fld.PWR_DOM_STATUS_WAKE_PENDING 0
      let s := (s.heldFor d).foldl (fun s h => s.mapPart h.1 h.2 (fun q => { q with arrivedAt := some s.now })) s
      ((s.blockOn d).setFld Reg.PWR_INT_STATUS Fld.PWR_INT_STATUS_DOMAIN 1).wakeSettle
  | none => s

/-! ### Modes (R467–R472) -/

def mcAccepted : Nat := 0
def mcRefMode : Nat := 1
def mcNotDrained : Nat := 2
def mcConflict : Nat := 3

def State.modeResult (s : State) (r : Nat) : State := s.setFld Reg.PWR_MODE_STATUS Fld.PWR_MODE_STATUS_RESULT r

/-- STANDBY begins (R470): the ON domains but domain 128 power down and form the wake list; a ledger record is written (R488). -/
def State.enterStandby (s : State) (ok : Bool) : State :=
  let l := (List.range 212).filter (fun d => d != 128 && s.domState d == dsOn)
  let s := l.foldl (fun s d => s.powerDown d) (s.setMode modeStandby)
  ({ s with pwr := { s.pwr with wake := l, waking := false } }).ledgerWrite ok

/-- The wake from STANDBY begins: the domains of the wake list wake in ascending order. -/
def State.startWake (s : State) : State :=
  if s.mode ≠ modeStandby ∨ s.pwr.waking then s
  else
    let s := { s with pwr := { s.pwr with waking := true } }
    (s.pwr.wake.foldl (fun s d => s.wakeDomain d) s).wakeSettle

/-- An event of trigger channel `c` ends STANDBY where PWR_WAKE_CFG says so. -/
def State.triggerWake (s : State) (c : Nat) : State :=
  if (s.fld Reg.PWR_WAKE_CFG Fld.PWR_WAKE_CFG_TRIG).testBit c then s.startWake else s

/-- The device enters QUIESCE (R469). -/
def State.enterQuiesce (s : State) : State :=
  let s := (List.range 128).foldl (fun s r => s.quiesceSpec r) (s.setMode modeQuiesce)
  ((List.range 128).filter (fun r => s.scheduled r && s.running r)).foldl (fun s r => s.later s.scNext (.quiesce r)) s

/-- A write of PWR_MODE_CTL (R472); RESUME lets decisions be made from the next sc edge (R469); `ok` says whether the ledger record of an entry to STANDBY is written. -/
def State.modeCtlWrite (s : State) (v : Nat) (ok : Bool) : State :=
  match (List.range 4).filter (fun i => v.testBit i) with
  | [] => s
  | [0] =>
    if s.mode = modeRun ∨ s.mode = modeDegraded then (s.modeResult mcAccepted).enterQuiesce else s.modeResult mcRefMode
  | [1] =>
    if s.mode = modeQuiesce then
      let s := (s.modeResult mcAccepted).enterRunMode
      { s with sch := { s.sch with decided := s.scNow + 1 } }
    else s.modeResult mcRefMode
  | [2] =>
    if s.mode ≠ modeQuiesce then s.modeResult mcRefMode
    else if !s.drained then s.modeResult mcNotDrained
    else (s.modeResult mcAccepted).enterStandby ok
  | [3] => if s.mode = modeStandby then (s.modeResult mcAccepted).startWake else s.modeResult mcRefMode
  | _ => s.modeResult mcConflict

/-! ### Region, engine and warm resets (R459–R463) -/

/-- 16 sc and 64 sc in rc. -/
def minReset : Nat := 16 * scLen
def warmLen : Nat := 64 * scLen

/-- A reset of region `r` is asserted at the edge I of now (R459, R460): the region is isolated, and RESET follows one fc later (R96). -/
def State.regionReset (s : State) (r : Nat) : State :=
  ((s.isolateOver r s.scEdge).endWindows r rReset).later (s.scEdge + fcLen) (.regionReset r)

/-- Region `r` enters RESET: its tallies are lost and its banks UNINIT. A bank transfer ends there: BUSY stays and
DONE is not set (DESIGN CHOICE: log entry 87). -/
def State.enterReset (s : State) (r : Nat) : State :=
  let s := ((s.loseRegion r).uninitBanks r).dropResponses r
  let s := s.setRegion r { s.region r with xfer := none }
  if s.rstate r = rsOff then s else s.setRstate r rsReset

def rcPowerOn : Nat := 0
def rcPerst : Nat := 1
def rcDevice : Nat := 2
def rcWarm : Nat := 3

/-- Every record that is not FREE is freed, the free list is rebuilt in ascending order, and queues and spill slots are emptied (R463). A
token that waited for room in a queue takes its place in it. -/
def State.clearTally (s : State) : State :=
  let s := s.unfillAll.setFld Reg.TALLY_CTL Fld.TALLY_CTL_EN 0
  let s := s.sch.jobs.foldl (fun (s : State) p => s.setFld (Reg.TALLY_SPILL_REQ p.1) Fld.TALLY_SPILL_REQ_VALID 0) s
  let free (x : TallyRec) : TallyRec := if x.state = tsFree then x else { x with state := tsFree, gen := (x.gen + 1) % 256 }
  let queue := s.sch.pend.foldl (fun t p => tins t (p.1 / 64) (tget (fun _ => []) t (p.1 / 64) ++ [p.2])) ([] : Table (List Token))
  let region := (s.sch.region.map (fun p => (p.1, { p.2 with slots := [], waiting := none }))).filter (fun p => p.2 != SchRegion.idle)
  { s with sch := { s.sch with
    recs := s.sch.recs.map (fun p => (p.1, free p.2)), free := [], next := 0, queue := queue, fetch := [], pend := [], region := region,
    jobs := [], jobWait := [], fills := [] } }

/-- The run mode is resumed from the modes that a warm reset leaves (R463, R467). -/
def State.warmMode (s : State) : State :=
  if s.mode = modePaired then s.pairReturn
  else if s.mode = modeRun ∨ s.mode = modeDegraded ∨ s.mode = modeQuiesce then s.enterRunMode
  else s

def State.refuseReset (s : State) : State := s.setFld Reg.RST_STATUS Fld.RST_STATUS_REFUSED 1

/-- A warm reset is asserted (R463). -/
def State.warmReset (s : State) : State :=
  if s.mode = modeStandby ∨ s.mode = modeSecureHalt ∨ s.pwr.warmAt.isSome then s.refuseReset
  else
    let s := ({ s.lockStore with pwr := { s.pwr with warmAt := some s.scEdge } }).setFld Reg.RST_STATUS Fld.RST_STATUS_WARM_BUSY 1
    let s := s.setFld Reg.RST_CAUSE Fld.RST_CAUSE_LAST rcWarm
    let s := (List.range 128).foldl (fun s r => s.regionReset r) s
    let s := ((List.range 63).map (· + 1)).foldl (fun s n => s.holdEngine n) s
    s.clearTally.warmMode

/-- The warm reset is released after 64 sc. -/
def State.warmRelease (s : State) : State :=
  match s.pwr.warmAt with
  | some e =>
    if s.now < e + warmLen then s
    else
      let s := ({ s with pwr := { s.pwr with warmAt := none } }).setFld Reg.RST_STATUS Fld.RST_STATUS_WARM_BUSY 0
      (List.range 128).foldl (fun s r => s.regionBack r) s
  | none => s

/-! ### Base-die and power-on reset (R459, R462, R464) -/

/-- What a retaining FILL will find not clean in way 15 (R462): lines with a corrected write-back pending, or a write in service. -/
def State.uncleanLines (s : State) : List Nat :=
  let back := (s.cache.back.map (fun p => p.1 / 32)).filter retainedLine
  let served := s.noc.reqs.flatMap (fun r => if r.kind ≠ .write then [] else r.parts.flatMap (fun q =>
    let a := q.addr % 2 ^ 48
    if q.port == portCACHE && !q.performed && q.arrivedAt.isSome && decide (cacheBase ≤ a ∧ a < cacheBase + 2 ^ 32) then
      (linePieces a q.len).map (fun x => cacheLine (s.directPlace (x.1 - cacheBase)).1 ((x.1 - cacheBase) / 2 ^ 28) (s.directPlace (x.1 - cacheBase)).2)
    else []))
  back ++ served.filter retainedLine

/-- What every reset that restarts POWER-UP keeps: the image store, the wear ledger, the fuses, the straps; time runs on, and the commands
and what has been sent stay as they are. -/
def State.restart (s : State) : State :=
  { State.reset with
    pending := s.pending
    now := s.now
    fresh := s.fresh
    fuse := s.fuse
    cfg := { Cfg.reset with image := s.cfg.image, bootSel := s.cfg.bootSel, wcount := s.cfg.wcount }
    stk := { Stk.reset with ring := s.stk.ring, place := s.stk.place }
    brd := { Brd.reset with
      straps := s.brd.straps, ports := s.brd.ports.map (fun p => (p.1, { APort.idle with sent := p.2.sent })) }
    host := { HostIf.reset with sent := s.host.sent } }

/-- A base-die reset (R459): RST_CAUSE is kept and takes its cause; with RETAIN = 1 part of way 15 is kept (R462). -/
def State.deviceReset (s : State) (cause : Nat) (hold : Bool) : State :=
  let keep := s.bit Reg.RST_CTL Fld.RST_CTL_RETAIN
  let x := s.restart
  let x := (x.setReg Reg.RST_CAUSE (s.reg Reg.RST_CAUSE)).setFld Reg.RST_CAUSE Fld.RST_CAUSE_LAST cause
  let x := x.setFld Reg.RST_CAUSE Fld.RST_CAUSE_RETAINED (b2n keep)
  let x := { x with pwr := { Pwr.reset with
    perst := s.pwr.perst, devHeld := hold, good := s.pwr.good, failAt := s.pwr.failAt, tripped := s.pwr.tripped, therm := s.pwr.therm,
    upAt := s.now, retain := keep } }
  if keep then
    { x with cache := { Cache.reset with mem := s.cache.mem.filter (fun p => retainedLine (p.1 / 32)), unclean := s.uncleanLines } }
  else x

/-- A power-on reset (R459, R521): the device is in OFF until power is good again. -/
def State.powerOnReset (s : State) (tripped therm : Bool) : State :=
  let x := s.restart
  let x := { x with pwr := { Pwr.reset with perst := s.pwr.perst, good := s.pwr.good, tripped := tripped, therm := therm, upAt := s.now } }
  if s.pwr.good && !tripped && !therm then x else x.setFld Reg.DEV_STATUS Fld.DEV_STATUS_MODE modeOff

/-- The initiators whose writes RST_CTL and RST_DIE take (R466). -/
def mayReset (src : Nat) : Bool := src == 0 || src == srcHost || src == srcSeq

/-- The effect of a write of RST_CTL. In SECURE HALT only DEVICE acts for initiators other than engine 0 (R471). -/
def State.rstCtlSet (s : State) (src v : Nat) : State :=
  if !mayReset src then (if s.writeDead src then s else s.refuseReset)
  else
    let s := if s.writeDead src then s
      else (s.setFld Reg.RST_CTL Fld.RST_CTL_RETAIN (v / 2)).setFld Reg.RST_CTL Fld.RST_CTL_PERST_DEV v
    if v.testBit 31 then s.deviceReset rcDevice false
    else if v.testBit 30 ∧ !s.writeDead src then s.warmReset
    else s

def State.rstCtlWrite (s : State) (src v : Nat) : State :=
  if s.ctlBlocked src Reg.RST_CTL then s else (s.takeControl src Reg.RST_CTL).rstCtlSet src v

/-! ### Die and rod resets (R461, R465, R466) -/

def droApplied : Nat := 0
def droMode : Nat := 1
def droState : Nat := 2

/-- A beam reset (R103, R131, R547): every region is isolated, every plane INVALID, BGEN moves, and a load ends. -/
def State.beamResetAt (s : State) (e : Nat) : State :=
  let s := (List.range 128).foldl (fun s r => s.isolateOver r e) s
  let s := (List.range 128).foldl (fun s r => (s.setReg (Reg.PLANE_PSTATE r) 0).bumpBgen r) s
  s.loadBeamReset

/-- The four ways on cache die `k` lose their contents (R465); with die 7 the pinned records are zeros, so that every record is FREE. -/
def State.loseCacheDie (s : State) (k : Nat) : State :=
  let mine (line : Nat) : Bool := lineWay line / 4 == k - 4
  let s := { s with cache := { s.cache with
    mem := s.cache.mem.filter (fun p => !mine (p.1 / 32)), tags := s.cache.tags.filter (fun p => !mine p.1),
    back := s.cache.back.filter (fun p => !mine (p.1 / 32)) } }
  if k = 7 then
    let s := s.unfillAll
    { s with sch := { s.sch with recs := [], free := [], next := 0, fills := [] } }
  else s

/-- What the assertion of die reset `k` does. -/
def State.dieEffect (s : State) (k : Nat) : State :=
  if k = 1 then (List.range 64).foldl (fun s r => s.regionReset r) s
  else if k = 2 then s.beamResetAt s.scEdge
  else if k = 3 then ((List.range 64).map (64 + ·)).foldl (fun s r => s.regionReset r) s
  else s.loseCacheDie k

def State.dieOutcome (s : State) (k o : Nat) : State := s.setFld (Reg.RST_DIE k) Fld.RST_DIE_OUTCOME o

/-- Whether a cache die may be reset now (R465). -/
def State.dieReady (s : State) (k : Nat) : Bool := s.mode == modeService || (k != 7 && s.mode == modeQuiesce && s.drained)

/-- A write of HOLD = 1. -/
def State.dieAssert (s : State) (src k : Nat) : State :=
  let a := Reg.RST_DIE k
  if !mayReset src then s.refuseReset
  else if s.fixedMode then s.dieOutcome k droMode
  else if 4 ≤ k ∧ !s.dieReady k then s.dieOutcome k droState
  else
    let s := (s.dieOutcome k droApplied).setFld a Fld.RST_DIE_HOLD 1
    if s.bit a Fld.RST_DIE_ACTIVE then s
    else
      let s := ({ s.lockStore with pwr := { s.pwr with rstAt := tins s.pwr.rstAt k s.scEdge } }).setFld a Fld.RST_DIE_ACTIVE 1
      s.dieEffect k

/-- The release of die reset `k` takes effect once 16 sc have passed: regions enter ISOLATED, and a cache die is refilled. -/
def State.dieRelease (s : State) (k : Nat) : State :=
  let a := Reg.RST_DIE k
  if s.bit a Fld.RST_DIE_ACTIVE && !s.bit a Fld.RST_DIE_HOLD && (tfind s.pwr.rstAt k).all (fun e => decide (e + minReset ≤ s.now)) then
    let s := ({ s with pwr := { s.pwr with rstAt := tdel s.pwr.rstAt k } }).setFld a Fld.RST_DIE_ACTIVE 0
    if k = 1 then (List.range 64).foldl (fun s r => s.regionBack r) s
    else if k = 3 then ((List.range 64).map (64 + ·)).foldl (fun s r => s.regionBack r) s
    else if 4 ≤ k then { s with pwr := { s.pwr with refill := tins s.pwr.refill k (s.now + fillLen) } }
    else s
  else s

/-- A write of HOLD = 0. -/
def State.dieHoldOff (s : State) (src k : Nat) : State :=
  if !mayReset src then s.refuseReset
  else ((s.dieOutcome k droApplied).setFld (Reg.RST_DIE k) Fld.RST_DIE_HOLD 0).dieRelease k

/-- Part `j` of rod `n`: 0 the lower region, 1 the upper region, 2 the engine. -/
def rodKey (n j : Nat) : Nat := 16 + 3 * n + j
def State.rodWant (s : State) (n j : Nat) : Bool := (s.reg (Reg.RST_ROD n)).getLsbD j
def State.rodActive (s : State) (n j : Nat) : Bool := (s.reg (Reg.RST_ROD n)).getLsbD (8 + j)
def rodBit (i : Nat) : Field := ⟨i, i, .rw⟩

/-- A rod part is reset. -/
def State.rodAssert (s : State) (n j : Nat) : State :=
  let s := ({ s.lockStore with pwr := { s.pwr with rstAt := tins s.pwr.rstAt (rodKey n j) s.scEdge } }).setFld (Reg.RST_ROD n) (rodBit (8 + j)) 1
  if j = 0 then s.regionReset n else if j = 1 then s.regionReset (n + 64) else s.holdEngine n

/-- The release of a rod part takes effect once 16 sc have passed. -/
def State.rodRelease (s : State) (n j : Nat) : State :=
  if s.rodActive n j && !s.rodWant n j && (tfind s.pwr.rstAt (rodKey n j)).all (fun e => decide (e + minReset ≤ s.now)) then
    let s := ({ s with pwr := { s.pwr with rstAt := tdel s.pwr.rstAt (rodKey n j) } }).setFld (Reg.RST_ROD n) (rodBit (8 + j)) 0
    if j = 0 then s.regionBack n else if j = 1 then s.regionBack (n + 64) else s.startEngine n
  else s

/-- A write of RST_ROD(n) (R461, R466). -/
def State.rodWrite (s : State) (n v : Nat) : State :=
  let parts := if n = 0 then [0, 1] else [0, 1, 2]
  parts.foldl (fun s j =>
    let s := s.setFld (Reg.RST_ROD n) (rodBit j) (b2n (v.testBit j))
    if v.testBit j then (if s.rodActive n j then s else s.rodAssert n j) else s.rodRelease n j) s

/-! ### PERST (R383, R464) -/

/-- PERST is asserted: a base-die reset that it holds, or a reset of the host controller alone. -/
def State.perstAssert (s : State) : State :=
  if s.pwr.perst then s
  else
    let s := { s with pwr := { s.pwr with perst := true } }
    if s.mode = modeOff then s
    else if s.bit Reg.RST_CTL Fld.RST_CTL_PERST_DEV then s.deviceReset rcPerst true
    else s.lockStore.hostReset

/-- PERST is released; POWER-UP begins where it held the device. -/
def State.perstRelease (s : State) : State :=
  if s.pwr.devHeld then { s with pwr := { s.pwr with perst := false, devHeld := false, upAt := s.now } }
  else { s with pwr := { s.pwr with perst := false } }

end Sys2Proof.Machine
end

