-- ==== Sys2Proof/Machine/Pins.lean ====
section
/-!
DEFINITION. Flex pins, triggers, chassis signals and serial units (chapter 15).
-/
namespace Sys2Proof.Machine


/-! ### Ownership and refusals (R414–R416) -/

/-- A requester's own code. -/
def pinCode (src : Nat) : Nat := if src = 0 then 0x00 else if src < 0x40 then 0x40 + src else 0x01

/-- Whether a request of `src` matches an owner code. -/
def pinMatch (owner src : Nat) : Bool :=
  if owner = 0x00 then src == 0
  else if owner = 0x01 then src != 0
  else decide (0x41 ≤ owner ∧ owner < 0x80) && src == owner - 0x40

def State.pinOwner (s : State) (p : Nat) : Nat := s.fld (Reg.PIN_OWN p) Fld.PIN_OWN_OWNER
def State.ownsPin (s : State) (src p : Nat) : Bool := pinMatch (s.pinOwner p) src

def prNotOwner : Nat := 0
def prPair : Nat := 1
def prVio : Nat := 2

/-- A refused write: counted, and logged while VALID is 0. -/
def State.pinRefuse (s : State) (src reason index : Nat) : State :=
  let s := s.bump Reg.PIN_REFCNT Fld.PIN_REFCNT_COUNT 1
  s.logEvent Reg.PIN_REFLOG s.now 0 (BitVec.ofNat 32 (reason * 2 ^ 24 + pinCode src * 2 ^ 16 + index)) []
    (some (Reg.PIN_INT_STATUS, Fld.PIN_INT_STATUS_REFUSED))

/-! ### What drives a pad (R409, R417, R419, R510) -/

/-- The 320 bits of PIN_OUT or PIN_OE. -/
def State.pinBits (s : State) (a : Nat) : BitVec 320 :=
  BitVec.ofNat 320 ((List.range 10).foldl (fun v w => v + (s.reg (a + 4 * w)).toNat * 2 ^ (32 * w)) 0)

/-- The drivers as software has set them, for paired run. -/
def State.logPins (s : State) (edge : Nat) : State :=
  s.pairLog (.pins (edge / fcLen) (s.pinBits (Reg.PIN_OUT 0)) (s.pinBits (Reg.PIN_OE 0)))

/-- The first fc edge strictly after the sc edge of now. -/
def State.pinEdge (s : State) : Nat := s.scEdge + fcLen

/-- A write that changes what drives pin `p` (R419). -/
def State.pinSwitch (s : State) (p : Nat) : State := { s with pin := { s.pin with sw := tins s.pin.sw p s.pinEdge } }

/-- The pads of the bits that differ between `old` and `new` of word `w` change now. -/
def State.touchPads (s : State) (w : Nat) (old new : Word32) : State :=
  { s with pin := { s.pin with at_ := (List.range 32).foldl (fun t b =>
    if old.getLsbD b != new.getLsbD b then tins t (32 * w + b) s.now else t) s.pin.at_ } }

/-- A write to word `w` of PIN_OUT or PIN_OE, at `a`: only the bits of pins that the requester owns. -/
def State.gpioWrite (s : State) (src a w v : Nat) : State :=
  let old := s.reg a
  let mine : Word32 := BitVec.ofNat 32 ((List.range 32).foldl (fun m b => if s.ownsPin src (32 * w + b) then m + 2 ^ b else m) 0)
  let new := (old &&& ~~~mine) ||| (BitVec.ofNat 32 v &&& mine)
  ((s.setReg a new).touchPads w old new).logPins s.scEdge

/-- Bit of pin `p` cleared in PIN_OUT and PIN_OE. -/
def State.clearGpio (s : State) (p : Nat) : State :=
  [Reg.PIN_OUT (p / 32), Reg.PIN_OE (p / 32)].foldl (fun s a => s.setReg a (s.reg a &&& ~~~(1#32 <<< (p % 32)))) s

/-- A write to PIN_OWN(p) (R409, R415). -/
def State.pinOwnWrite (s : State) (src p v : Nat) : State :=
  let new := v % 256
  if s.lvds p ∧ p % 2 = 1 then s.pinRefuse src prPair p
  else if src = 0 ∨ s.ownsPin src p ∨ (s.pinOwner p = 0xFF ∧ new = pinCode src) then
    if new = s.pinOwner p then s
    else
      let s := s.setFld (Reg.PIN_OWN p) Fld.PIN_OWN_OWNER new
      (((s.setReg (Reg.PIN_FUNC p) funcReset).setReg (Reg.PIN_ELEC p) elecReset).clearGpio p).pinSwitch p
  else s.pinRefuse src prNotOwner p

/-- A write to PIN_FUNC(p) (R416). -/
def State.pinFuncWrite (s : State) (src p v : Nat) : State :=
  if s.lvds p ∧ p % 2 = 1 then s.pinRefuse src prPair p
  else if !s.ownsPin src p then s.pinRefuse src prNotOwner p
  else (s.setReg (Reg.PIN_FUNC p) (BitVec.ofNat 32 v &&& 0xC7FF07FF)).pinSwitch p

/-- Whether an output selector names a signal; every other one acts as NONE (R410). -/
def selActive (v : Nat) : Bool :=
  decide (v < 0x61A) || decide (0x640 ≤ v ∧ v < 0x650) || (decide (0x660 ≤ v ∧ v < 0x6A0) && decide (v % 8 < 6)) ||
  decide (0x6A0 ≤ v ∧ v < 0x6B0) || v == 0x7FE

/-- A write to PIN_ELEC(p) (R409, R416). -/
def State.pinElecWrite (s : State) (src p v : Nat) : State :=
  let pair := decide (p % 2 = 0) && v / 2 ^ 30 % 4 == 1
  if s.lvds p ∧ p % 2 = 1 then s.pinRefuse src prPair p
  else if !s.ownsPin src p then s.pinRefuse src prNotOwner p
  else if pair && s.pinOwner p != s.pinOwner (p + 1) then s.pinRefuse src prPair p
  else if pair && selActive (s.fld (Reg.PIN_FUNC p) Fld.PIN_FUNC_OUT_SEL) && s.vio p != 3 then s.pinRefuse src prVio p
  else (s.setReg (Reg.PIN_ELEC p) (BitVec.ofNat 32 v &&& 0xE3B00000)).pinSwitch p

/-- The switch of pin `p` at E: the new setting drives the pad from E + 1 fc (R419). -/
def State.driveSwitch (s : State) (p : Nat) : State :=
  match tfind s.pin.sw p with
  | some e =>
    if s.now < e then s
    else
      let d := (s.reg (Reg.PIN_FUNC p), s.reg (Reg.PIN_ELEC p))
      let s := { s with pin := { s.pin with
        drv := tput (fun _ => (funcReset, elecReset)) s.pin.drv p d, sw := tdel s.pin.sw p, at_ := tins s.pin.at_ p (e + fcLen) } }
      s.logPins (e + fcLen)
  | none => s

/-- Whether the pin that a selector names lets `src` write the selector; a number of 320 or above names no pin. -/
def State.iselOwned (s : State) (src : Nat) (w : Word32) : Bool :=
  let p := fieldGet w Fld.PIN_ISEL_PIN
  decide (320 ≤ p) || s.ownsPin src p

/-- A write to PIN_ISEL(i) (R416, R420). -/
def State.iselWrite (s : State) (src i v : Nat) : State :=
  let a := Reg.PIN_ISEL i
  let new := BitVec.ofNat 32 v &&& 0xF00001FF
  if s.iselOwned src (s.reg a) && s.iselOwned src new then
    ({ s with pin := { s.pin with isel := tins s.pin.isel i (s.reg a, s.pinEdge) } }).setReg a new
  else s.pinRefuse src prNotOwner i

/-- The selector of input `i` in force now. -/
def State.iselInForce (s : State) (i : Nat) : Word32 :=
  match tfind s.pin.isel i with
  | some (old, e) => if s.now < e then old else s.reg (Reg.PIN_ISEL i)
  | none => s.reg (Reg.PIN_ISEL i)

/-- Whether input `i` can change level now: its selector is enabled and names a pin, or a write of it has just taken effect; every other
input reads 0 (R412). -/
def State.inputLive (s : State) (i : Nat) : Bool :=
  let w := s.iselInForce i
  (fieldGet w Fld.PIN_ISEL_EN == 1 && decide (fieldGet w Fld.PIN_ISEL_PIN < 320)) ||
  (tfind s.pin.isel i).any (fun x => decide (x.2 ≤ s.now ∧ s.now < x.2 + scLen))

/-! ### Trigger channels (R426–R429) -/

/-- The ingress source of trigger channels (R155). -/
def srcTrigger : Nat := 269

/-- The pulse width of a channel in rc. -/
def State.pulseLen (s : State) (c : Nat) : Nat := max 1 (s.fld (Reg.TRIG_CH_CTL c) Fld.TRIG_CH_CTL_WIDTH) * scLen

/-- A pulse that starts at rc edge `e` (R428). -/
def State.addPulse (s : State) (c e : Nat) : State := s.setTrig c { s.trig c with pulses := (s.trig c).pulses ++ [(e, e + s.pulseLen c)] }

/-- One bit of a register set. -/
def State.setBit (s : State) (a i : Nat) : State := s.setReg a (s.reg a ||| (1#32 <<< i))

/-- The token of an event (R429). -/
def trigToken (tick fine c : Nat) (rising : Bool) : Word64 :=
  BitVec.ofNat 64 (tick + fine * 2 ^ 48 + c * 2 ^ 52 + b2n rising * 2 ^ 56)

/-- An event of channel `c`, stamped with a tick and a fine count, at the rc edge `e`. -/
def State.trigEvent (s : State) (c tick fine : Nat) (rising : Bool) (e : Nat) : State :=
  let x := s.trig c
  let s := s.setBit Reg.TRIG_INT_STATUS c
  let s := if x.queue.length < 16 then
      s.setTrig c { x with queue := x.queue ++ [⟨tick, fine, rising, x.lost⟩], lost := false, lastSc := some s.scNow }
    else
      ((s.setTrig c { x with lost := true, lastSc := some s.scNow }).setFld (Reg.TRIG_CH_STATUS c) Fld.TRIG_CH_STATUS_OVF 1).setBit
        Reg.TRIG_INT_STATUS (16 + c)
  let a := Reg.TRIG_CH_TOK c
  let s := if s.bit a Fld.TRIG_CH_TOK_EN then
      s.postEvent srcTrigger c ⟨s.fld a Fld.TRIG_CH_TOK_HANDLE, s.fld a Fld.TRIG_CH_TOK_SLOT, trigToken tick fine c rising, false⟩
    else s
  let s := if s.bit (Reg.TRIG_CH_CTL c) Fld.TRIG_CH_CTL_OUT_EVT then s.addPulse c (e + 24) else s
  s.triggerWake c

/-- An event unless the channel has had one in this sc (R427). -/
def State.trigOnce (s : State) (c tick fine : Nat) (rising : Bool) (e : Nat) : State :=
  if (s.trig c).lastSc = some s.scNow then s.setFld (Reg.TRIG_CH_STATUS c) Fld.TRIG_CH_STATUS_MISSED 1
  else s.trigEvent c tick fine rising e

/-- A change at a channel's source, at the rc edge of now (R426). -/
def State.trigEdge (s : State) (c : Nat) (rising : Bool) : State :=
  let a := Reg.TRIG_CH_CTL c
  let edge := s.fld a Fld.TRIG_CH_CTL_EDGE
  let src := s.fld a Fld.TRIG_CH_CTL_SRC
  let takes := if rising then edge % 2 == 1 else decide (2 ≤ edge)
  if s.bit a Fld.TRIG_CH_CTL_EN && takes && s.epoch.isSome && decide (src < 4) && (src != 0 || s.inputLive (0x800 + c)) then
    s.trigOnce c s.tallyNow (s.now % scLen) rising s.now
  else s

/-- A write of TRIG_CH_CTL(c); FIRE makes an event stamped with the sc edge of the write, and fine 0. -/
def State.trigCtlWrite (s : State) (c v : Nat) : State :=
  let s := s.setReg (Reg.TRIG_CH_CTL c) (BitVec.ofNat 32 v &&& 0xBFE000FF)
  if v.testBit 30 then s.trigOnce c s.tallyNow 0 false s.scEdge else s

/-- A write of TRIG_ARM_HI(c): with ARM = 1 the time that both halves hold is armed, or LATE is set (R428). -/
def State.armWrite (s : State) (c v : Nat) : State :=
  let s := s.setReg (Reg.TRIG_ARM_HI c) (BitVec.ofNat 32 v &&& 0xFFFFF)
  if !v.testBit 31 then s
  else
    let time := (s.reg (Reg.TRIG_ARM_LO c)).toNat + (s.reg (Reg.TRIG_ARM_HI c)).toNat * 2 ^ 32
    let tick := time / 16
    if 2 ^ 47 - 1 ≤ (tick + 2 ^ 48 - s.tallyNow) % 2 ^ 48 then s.setFld (Reg.TRIG_CH_STATUS c) Fld.TRIG_CH_STATUS_LATE 1
    else (s.setTrig c { s.trig c with arm := some (tick, time % 16) }).setFld (Reg.TRIG_CH_STATUS c) Fld.TRIG_CH_STATUS_ARMED 1

/-- The armed time arrives: the output rises at that time, and ARMED clears. -/
def State.armReached (s : State) (c : Nat) : State :=
  match (s.trig c).arm with
  | some (tick, fine) =>
    let d := (s.tallyNow + 2 ^ 48 - tick) % 2 ^ 48
    if d < 2 ^ 47 ∧ fine ≤ d * scLen + s.now % scLen then
      let s := (s.setTrig c { s.trig c with arm := none }).setFld (Reg.TRIG_CH_STATUS c) Fld.TRIG_CH_STATUS_ARMED 0
      s.addPulse c (s.scEdge + fine - d * scLen)
    else s
  | none => s

/-- Pulses that are over leave the channel; the crossbar, which is 2 sc behind, may still show them (R418, R428). -/
def State.pulseEnd (s : State) (c : Nat) : State :=
  let x := s.trig c
  s.setTrig c { x with
    pulses := x.pulses.filter (fun p => decide (s.now < p.2))
    past := (x.past ++ x.pulses.filter (fun p => decide (p.2 ≤ s.now))).filter (fun p => decide (s.now < p.2 + 8 * scLen)) }

/-! ### Serial units (R430) -/

/-- The bit time of a UART, in rc. -/
def State.uartBit (s : State) (u : Nat) : Nat := (max 15 (s.fld (Reg.UART_CTL u) Fld.UART_CTL_DIV) + 1) * scLen
/-- Start, data, parity and stop bits of a byte. -/
def State.uartBits (s : State) (u : Nat) : Nat :=
  let p := s.fld (Reg.UART_CTL u) Fld.UART_CTL_PARITY
  9 + (if p = 1 ∨ p = 2 then 1 else 0) + (if s.bit (Reg.UART_CTL u) Fld.UART_CTL_STOP2 then 2 else 1)

/-- The transmitter takes the next byte from its FIFO, where the unit is enabled and CTS permits it or does not matter. -/
def State.uartKick (s : State) (u : Nat) : State :=
  let x := s.uart u
  if s.bit (Reg.UART_CTL u) Fld.UART_CTL_EN && x.shift.isNone && (x.cts || !s.bit (Reg.UART_CTL u) Fld.UART_CTL_FLOW) then
    match x.tx with
    | b :: l => s.setUart u { x with tx := l, shift := some (b, s.now) }
    | [] => s
  else s

/-- A write of UART_CTL(u). -/
def State.uartCtlWrite (s : State) (u v : Nat) : State := (s.setReg (Reg.UART_CTL u) (BitVec.ofNat 32 v &&& 0xF800FFFF)).uartKick u

/-- A write of UART_DATA(u) pushes a byte; it is ignored when the FIFO is full. -/
def State.uartPush (s : State) (u v : Nat) : State :=
  let x := s.uart u
  if x.tx.length < 16 then (s.setUart u { x with tx := x.tx ++ [BitVec.ofNat 8 v] }).uartKick u else s

/-- The byte in the transmitter has been sent. -/
def State.uartSent (s : State) (u : Nat) : State :=
  match (s.uart u).shift with
  | some (_, e) => if s.now < e + s.uartBits u * s.uartBit u then s else (s.setUart u { s.uart u with shift := none }).uartKick u
  | none => s

/-- A byte arrives, with its framing and parity errors; without room it is lost, with OVR. -/
def State.uartReceive (s : State) (u : Nat) (b : Byte) (ferr perr : Bool) : State :=
  if !s.bit (Reg.UART_CTL u) Fld.UART_CTL_EN then s
  else
    let x := s.uart u
    let a := Reg.UART_STATUS u
    let s := if ferr then s.setFld a Fld.UART_STATUS_FERR 1 else s
    let s := if perr then s.setFld a Fld.UART_STATUS_PERR 1 else s
    let s := if x.rx.length < 16 then s.setUart u { x with rx := x.rx ++ [b] } else s.setFld a Fld.UART_STATUS_OVR 1
    s.setBit Reg.PIN_INT_STATUS (8 + u)

def State.uartCts (s : State) (u : Nat) (cts : Bool) : State := (s.setUart u { s.uart u with cts := cts }).uartKick u

/-- A write of SPI_DATA(u) starts a transfer; while BUSY it does nothing. -/
def State.spiStart (s : State) (u v : Nat) : State :=
  if s.bit (Reg.SPI_STATUS u) Fld.SPI_STATUS_BUSY || !s.bit (Reg.SPI_CTL u) Fld.SPI_CTL_EN then s
  else ({ s with pin := { s.pin with spi := tins s.pin.spi u (s.now, v % 2 ^ 32) } }).setFld (Reg.SPI_STATUS u) Fld.SPI_STATUS_BUSY 1

/-- LEN in bits. -/
def State.spiLen (s : State) (u : Nat) : Nat :=
  let l := s.fld (Reg.SPI_CTL u) Fld.SPI_CTL_LEN
  if l = 0 then 8 else if l = 1 then 16 else 32

/-- A transfer ends, with the bits received. -/
def State.spiEnd (s : State) (u rx : Nat) : State :=
  match tfind s.pin.spi u with
  | some (e, _) =>
    if s.now < e + s.spiLen u * 2 * (s.fld (Reg.SPI_CTL u) Fld.SPI_CTL_DIV + 1) * scLen then s
    else
      let s := ({ s with pin := { s.pin with spi := tdel s.pin.spi u, spiAt := tins s.pin.spiAt u s.now } }).setFld (Reg.SPI_STATUS u) Fld.SPI_STATUS_BUSY 0
      (s.setReg (Reg.SPI_DATA u) (BitVec.ofNat 32 (rx % 2 ^ s.spiLen u))).setBit Reg.PIN_INT_STATUS (16 + u)
  | none => s

/-- A write of I2C_CMD(u) starts a command; while BUSY it does nothing. -/
def State.i2cStart (s : State) (u v : Nat) : State :=
  if s.bit (Reg.I2C_STATUS u) Fld.I2C_STATUS_BUSY || !s.bit (Reg.I2C_CTL u) Fld.I2C_CTL_EN then s
  else ({ s with pin := { s.pin with i2c := tins s.pin.i2c u (s.now, v % 2 ^ 13) } }).setFld (Reg.I2C_STATUS u) Fld.I2C_STATUS_BUSY 1

/-- A command ends: with arbitration lost, or with the acknowledge of its WRITE and the byte of its READ. A byte and its acknowledge take
nine SCL periods at least. -/
def State.i2cEnd (s : State) (u : Nat) (lost ack : Bool) (rdata : Nat) : State :=
  match tfind s.pin.i2c u with
  | some (e, v) =>
    let byte := v.testBit 8 || v.testBit 9
    if !lost && byte && decide (s.now < e + 36 * (s.fld (Reg.I2C_CTL u) Fld.I2C_CTL_DIV + 1) * scLen) then s
    else
      let a := Reg.I2C_STATUS u
      let s := ({ s with pin := { s.pin with i2c := tdel s.pin.i2c u } }).setFld a Fld.I2C_STATUS_BUSY 0
      let s := if lost then s.setFld a Fld.I2C_STATUS_ARB_LOST 1
        else if v.testBit 8 then s.setFld a Fld.I2C_STATUS_ACKED (b2n ack)
        else if v.testBit 9 then s.setFld a Fld.I2C_STATUS_RDATA rdata
        else s
      s.setBit Reg.PIN_INT_STATUS (24 + u)
  | none => s

end Sys2Proof.Machine
end

