-- ==== Sys2Proof/Machine/Boot.lean ====
section
/-!
DEFINITION. Power-good, the power-fail interval, monitors, and the end of POWER-UP (chapters 17, 18 and 20).
-/
namespace Sys2Proof.Machine


/-- 25 µs in rc: the power-fail interval (R521). -/
def failLen : Nat := 120000

/-- PWRGOOD is high with the monitored rails in range (R521): POWER-UP begins, unless a power-fail interval runs or a thermal trip
holds the device. -/
def State.pwrgoodRise (s : State) : State :=
  let s := { s with pwr := { s.pwr with good := true } }
  if s.mode = modeOff ∧ !s.pwr.therm then
    { s.setFld Reg.DEV_STATUS Fld.DEV_STATUS_MODE modePowerUp with pwr := { s.pwr with tripped := false, upAt := s.now } }
  else s

/-- PWRGOOD falls and stays low for 200 ns or more: a power-fail interval starts at its falling edge, the time of this event. A thermal trip
ends with it (R527). -/
def State.pwrgoodFall (s : State) : State :=
  if !s.pwr.good then s
  else
    let s := { s with pwr := { s.pwr with good := false, therm := false } }
    if s.mode = modeOff ∨ s.pwr.failAt.isSome then s else { s with pwr := { s.pwr with failAt := some s.now } }

/-- The power-fail interval ends with a power-on reset, whether or not PWRGOOD has risen again (R521, R523). -/
def State.failEnd (s : State) : State :=
  match s.pwr.failAt with
  | some e => if s.now < e + failLen then s else s.powerOnReset false false
  | none => s

/-- A monitored rail has been outside its window for 1 µs (R518): a power-on reset; the device rests until the rails are in range and
PWRGOOD is high. -/
def State.railTrip (s : State) : State := s.powerOnReset true s.pwr.therm

/-- A comparator has tripped (R527): THERMTRIP_N is driven low, and a power-on reset is held until PWRGOOD falls. -/
def State.thermalTrip (s : State) : State := if s.mode = modeOff then s else s.powerOnReset false true

/-- The root runs from the internal oscillator and PREF is strapped (R435, R436, R440, R468). -/
def State.clockStart (s : State) : State :=
  let s := s.setFld Reg.CLK_CTL Fld.CLK_CTL_PREF s.brd.straps.clksel
  let s := ((s.setFld Reg.CLK_STATUS Fld.CLK_STATUS_LOCK 1).setFld Reg.CLK_STATUS Fld.CLK_STATUS_LANE_HOLD 1).setFld
    Reg.CLK_STATUS Fld.CLK_STATUS_SRC srcInternal
  s.sourceReady srcInternal

/-- Every domain is ON (R450, R457): regions are ISOLATED, lanes DISABLED; engines wait in reset. -/
def State.domainsStart (s : State) : State :=
  let s := (List.range 128).foldl (fun s r => s.regionBack r) s
  (List.range 12).foldl (fun s q => s.quadOn q) s

/-- POWER-UP ends (R468): fuses, self-test, straps, VIO (`vio` by bank), routes, the via check (`vias`: group and position of each via that
fails) and the ledger are done; F and TALLY_NOW start, and the device enters FILL. A device whose self-test fails stays in POWER-UP. -/
def State.powerUpEnd (s : State) (vio : List Nat) (vias : List (Nat × Nat)) (faulty : Bool) : State :=
  if s.mode ≠ modePowerUp ∨ s.pwr.devHeld ∨ s.pwr.faulty ∨ !s.pwr.good ∨ s.pwr.tripped ∨ s.pwr.therm then s
  else if faulty then { s with pwr := { s.pwr with faulty := true } }
  else
    let s := { s with epoch := some s.scEdge, host := { s.host with clkreq := true } }
    let s := vio.zipIdx.foldl (fun s p => if p.2 < 8 then s.setFld (Reg.PIN_BANK p.2) Fld.PIN_BANK_VIO p.1 else s) s
    let s := ((s.fillBank 0).clockStart.domainsStart).viaCheck vias
    ((s.ledgerLoad.boardStart).setMode modeFill).cacheFillMode

end Sys2Proof.Machine
end

