-- ==== Sys2Proof/Machine/System.lean ====
section
/-!
DEFINITION. The commands that concern every block: writes to control registers (R4–R6, R32, R545), the step phase of the command
sequencer (R404), and the arrival of a response (R275, R276).
-/
namespace Sys2Proof.Machine


/-! ### Control register writes by field type (R4) -/

/-- The bits of a row's fields of some types. -/
def RegRow.mask (r : RegRow) (p : FieldType → Bool) : Word32 := (r.fields.filter (fun f => p f.ty)).foldl (fun m f => m ||| f.mask) 0

/-- A register word after a write of `v`: RW and RWL fields take it, ones clear W1C bits and set W1S bits, and RO, WO and RWO fields keep
what they hold. -/
def RegRow.written (r : RegRow) (old v : Word32) : Word32 :=
  let set := r.mask (fun t => t == .rw || t == .rwl)
  (((old &&& ~~~set) ||| (v &&& set)) &&& ~~~(v &&& r.mask (· == .w1c))) ||| (v &&& r.mask (· == .w1s))

/-- A write that has no effect but on its own register; a reserved offset takes nothing (R5). -/
def State.plainWrite4 (s : State) (a : Nat) (v : Word32) : State :=
  match regRowAt a with
  | some r =>
    let s := s.setReg a (r.written (s.reg a) v)
    if v.getLsbD 31 then s.logAgain a else s
  | none => s

/-- Register `[i][j]` of a row of `n` × `m`. -/
def idx2 (a base si n sj m : Nat) : Option (Nat × Nat) :=
  if base ≤ a ∧ (a - base) / si < n ∧ (a - base) % si % sj = 0 ∧ (a - base) % si / sj < m then some ((a - base) / si, (a - base) % si / sj) else none

/-! ### Writes with effects, block by block -/

/-- A write of TALLY_SPILL_CFG(r): BANK and SLOTS are locked while slots are held; a count that is not 1–23 leaves EN at 0 (R178). -/
def State.spillCfgWrite (s : State) (r : Nat) (v : Nat) : State :=
  let a := Reg.TALLY_SPILL_CFG r
  let s := if (s.sreg r).slots.isEmpty then
      (s.setFld a Fld.TALLY_SPILL_CFG_BANK (v / 2 ^ 8)).setFld a Fld.TALLY_SPILL_CFG_SLOTS v
    else s
  let n := s.fld a Fld.TALLY_SPILL_CFG_SLOTS
  s.setFld a Fld.TALLY_SPILL_CFG_EN (b2n (v.testBit 31 && decide (1 ≤ n ∧ n ≤ 23)))

/-- PLANE registers (chapters 02 and 03). -/
def State.writePlane (s : State) (a v : Nat) : State :=
  let r := (a - 0x80000) / 0x400
  let o := (a - 0x80000) % 0x400
  if 0xA0000 ≤ a then s
  else if o = 0x00 then s.planeCtlWrite r v
  else if o = 0x04 then s.planePtrWrite r v
  else if o = 0x10 then (if v / 2 ^ 16 % 16 = 0 then s else s.addWrite r (.discard (v / 2 ^ 16 % 16)))
  else if 0x30 ≤ o ∧ o < 0x40 then s.addWrite r (.strobeCfg ((o - 0x30) / 4) (BitVec.ofNat 32 v))
  else if o = 0x48 then
    let s := s.plainWrite4 a (BitVec.ofNat 32 v)
    if v.testBit 8 then s.xferWrite r (v % 4) (v.testBit 9) else s
  else if 0x310 ≤ o ∧ o < 0x320 then s.uclkWrite r ((o - 0x310) / 4) v
  else s.plainWrite4 a (BitVec.ofNat 32 v)

/-- CFG registers (chapter 04); `src` writes. -/
def State.writeCfg (s : State) (src a v : Nat) : State :=
  if a = Reg.CFG_LOAD_CTL then s.loadCtlWrite v
  else if a = Reg.CFG_BOOT_SEL then s.bootSelWrite v
  else if a = Reg.CFG_STORE_CTL then s.storeCtlWrite v
  else if a = Reg.CFG_STORE_GOLDEN then (if src = 0 then s.goldenSet v else s)
  else s.plainWrite4 a (BitVec.ofNat 32 v)

/-- TALLY registers (chapters 05 and 06). -/
def State.writeTally (s : State) (a v : Nat) : State :=
  if a = Reg.TALLY_CANCEL then s.addCancel .reg v s.scEdge
  else match idxIn a (Reg.TALLY_SPILL_ACK 0) 8 64, idxIn a (Reg.TALLY_SPILL_CFG 0) 4 128, idxIn a (Reg.TALLY_REGION 0) 4 128 with
  | some n, _, _ => if v.testBit 31 then s.spillAck n (v % 16) else s
  | _, some r, _ => s.spillCfgWrite r v
  | _, _, some r => s.quiesceWrite r (v.testBit 31)
  | _, _, _ =>
    if 0x140000 ≤ a ∧ a < 0x160000 then
      let tm := (a - 0x140000) / 32
      if a % 32 = 0 then s.templateWrite tm v
      else if s.tLocked tm then s
      else s.plainWrite4 a (BitVec.ofNat 32 v)
    else s.plainWrite4 a (BitVec.ofNat 32 v)

/-- ENG registers (chapter 07). -/
def State.writeEng (s : State) (src a v : Nat) : State :=
  let n := (a - 0x180000) / 0x1000
  let o := (a - 0x180000) % 0x1000
  if n = 0 ∧ src ≠ 0 ∧ (o = 0x00 ∨ o = 0x08) then s
  else if o = 0x00 then s.engCtlSet n v
  else if o = 0x30 then s.mboxIn n v
  else if o = 0x34 then s.mboxOut n v
  else s.plainWrite4 a (BitVec.ofNat 32 v)

/-- SCR registers (chapter 08): SCR_CFG takes its owner's writes (R245). -/
def State.writeScratch (s : State) (src a v : Nat) : State :=
  match idxIn a (Reg.SCR_HANDOVER 0) 0x20 96, idxIn a (Reg.SCR_CFG 0) 0x20 96 with
  | some b, _ =>
    let ask : HoAsk := ⟨b, ownerCode src, none, v % 256, v.testBit 8, s.scEdge⟩
    { s with scr := { s.scr with asks := s.scr.asks ++ [ask] } }
  | _, some b => if s.owner b = ownerCode src then s.setReg a (BitVec.ofNat 32 (v &&& 0x1F1)) else s
  | _, _ => s.plainWrite4 a (BitVec.ofNat 32 v)

/-- NOC registers (chapter 09). -/
def State.writeNoc (s : State) (a v : Nat) : State :=
  if a = Reg.NOC_CTL then
    let s := s.setFld a Fld.NOC_CTL_AUTO_REROUTE (v / 4)
    let s := if v.testBit 1 then s.requestRecompute else s
    if !v.testBit 0 then s
    else if s.bit Reg.NOC_STATUS Fld.NOC_STATUS_FLIP_STATE then s.setFld Reg.NOC_STATUS Fld.NOC_STATUS_FLIP_REFUSED 1
    else s.startFlip
  else if a = Reg.NOC_TGT_LIMIT then s.limitWrite false v
  else if a = Reg.NOC_INIT_LIMIT then s.limitWrite true v
  else match idx2 a (Reg.NOC_LINK 0 0) 0x2000 64 4 4 with
  | some (n, p) => if v.testBit 0 then s.retireLink n p else s
  | none =>
    if 0x290000 ≤ a ∧ 0x400 ≤ (a - 0x290000) % 0x2000 ∧ (a - 0x290000) % 0x2000 < 0x800 then
      if ((a - 0x290000) % 0x2000 - 0x400) / 0x200 = s.epochNow then s.setFld Reg.NOC_STATUS Fld.NOC_STATUS_RT_REFUSED 1
      else s.plainWrite4 a (BitVec.ofNat 32 v)
    else s.plainWrite4 a (BitVec.ofNat 32 v)

/-- XTS registers (chapter 12): the secure domain alone writes them (R351). -/
def State.writeXts (s : State) (src a v : Nat) : State :=
  s.xtsWrite src (fun s =>
    let plain := s.plainWrite4 a (BitVec.ofNat 32 v)
    let j := (a - 0x500100) / 0x20
    if a = Reg.XTS_ALARM then s.alarmWrite v
    else if a = Reg.XTS_KEY_CMD then s.keyCmdWrite v
    else if a = Reg.XTS_CNT_AUTH ∨ a = Reg.XTS_CNT_UNVERIFIED then s.setReg a (BitVec.ofNat 32 v)
    else if (idxIn a (Reg.XTS_KEY_STAGE 0) 4 8).isSome then s.setReg a (BitVec.ofNat 32 v)
    else if (idxIn a (Reg.XTS_RANGE_CTL 0) 0x20 8).isSome then s.rangeCtlWrite j v
    else if (idxIn a (Reg.XTS_RANGE_BASE 0) 0x20 8).isSome ∨ (idxIn a (Reg.XTS_RANGE_LIMIT 0) 0x20 8).isSome then
      (if s.rangeEn j then s else plain)
    else if (idxIn a (Reg.XTS_ROT 0) 0x20 8).isSome then s.rotWrite j v
    else if (idxIn a (Reg.XTS_LINK 0) 4 4).isSome then s.setFld a Fld.XTS_LINK_EN (v / 2 ^ 31)
    else plain)

/-- LANE registers (chapter 13). -/
def State.writeLane (s : State) (a v : Nat) : State :=
  let l := (a - 0x581000) / 0x100
  let o := (a - 0x581000) % 0x100
  if a < 0x581000 ∨ 48 ≤ l then s.plainWrite4 a (BitVec.ofNat 32 v)
  else if o = 0x00 then s.laneCfgWrite l v
  else if o = 0x04 then s.laneCtlWrite l v
  else if o = 0x08 then (s.plainWrite4 a (BitVec.ofNat 32 v)).laneInt (l / 4)
  else if 0x20 ≤ o ∧ o < 0x30 then s.laneProfWrite l ((o - 0x20) / 4) v
  else if o = 0xC0 then s.captureCtl l v
  else s.plainWrite4 a (BitVec.ofNat 32 v)

/-- HOST registers (chapter 14). -/
def State.writeHost (s : State) (a v : Nat) : State :=
  let q := (a - 0x601000) / 0x20
  let o := (a - 0x601000) % 0x20
  let plain := s.plainWrite4 a (BitVec.ofNat 32 v)
  if a = Reg.HOST_CTL then s.hostCtlWrite v
  else if 0x600100 ≤ a ∧ a < 0x600180 then
    (if a % 8 = 0 then s.winCtlWrite ((a - 0x600100) / 8) v else s.winBaseWrite ((a - 0x600100) / 8) v)
  else if a < 0x601000 ∨ 64 ≤ q then plain
  else if o = 0x08 then (if v.testBit 31 then s.queueEnable q v else s.queueDisable q v)
  else if o = 0x00 ∨ o = 0x04 ∨ o = 0x10 ∨ o = 0x14 then (if s.hqState q = hqDisabled then plain else s)
  else if o = 0x18 then
    (if s.hqState q = hqDisabled then plain else plain.setFld a Fld.HOST_CQ_CFG_SIZE (s.fld a Fld.HOST_CQ_CFG_SIZE))
  else plain

/-- PIN registers (chapter 15): pins take their owners' writes (R415). -/
def State.writePin (s : State) (src a v : Nat) : State :=
  let plain := s.plainWrite4 a (BitVec.ofNat 32 v)
  match idxIn a (Reg.PIN_OUT 0) 4 10, idxIn a (Reg.PIN_OE 0) 4 10, idxIn a (Reg.PIN_ISEL 0) 4 2112 with
  | some w, _, _ => s.gpioWrite src a w v
  | _, some w, _ => s.gpioWrite src a w v
  | _, _, some i => s.iselWrite src i v
  | _, _, _ =>
    if 0x681000 ≤ a ∧ a < 0x681000 + 0x10 * 320 then
      let p := (a - 0x681000) / 0x10
      if a % 0x10 = 0 then s.pinFuncWrite src p v
      else if a % 0x10 = 4 then s.pinElecWrite src p v
      else if a % 0x10 = 8 then s.pinOwnWrite src p v
      else s
    else match idxIn a (Reg.UART_CTL 0) 0x100 8, idxIn a (Reg.UART_DATA 0) 0x100 8, idxIn a (Reg.SPI_DATA 0) 0x100 8,
        idxIn a (Reg.I2C_CMD 0) 0x100 8 with
    | some u, _, _, _ => s.uartCtlWrite u v
    | _, some u, _, _ => s.uartPush u v
    | _, _, some u, _ => s.spiStart u v
    | _, _, _, some u => s.i2cStart u v
    | _, _, _, _ => plain

/-- CLK, PWR and RST registers (chapters 16 and 17); `ok` says whether a ledger record that the write asks for is written. -/
def State.writePower (s : State) (src a v : Nat) (ok : Bool) : State :=
  let plain := s.plainWrite4 a (BitVec.ofNat 32 v)
  if a = Reg.CLK_CTL then s.clkCtlWrite v
  else if a = Reg.CLK_SRC_CTL then
    (if v.testBit 31 then s.switchRequest (v % 4) else s.setFld a Fld.CLK_SRC_CTL_SEL v)
  else if a = Reg.PWR_MODE_CTL then s.modeCtlWrite v ok
  else if a = Reg.RST_CTL then s.rstCtlSet src v
  else match idxIn a (Reg.CLK_GATE_CTL 0) 8 84, idxIn a (Reg.PWR_DOM_CTL 0) 8 212, idxIn a (Reg.RST_DIE 0) 4 8, idxIn a (Reg.RST_ROD 0) 4 64 with
  | some g, _, _, _ => if v.testBit 31 then s.gateRequest g (v.testBit 30) else s.ungate g (v.testBit 30)
  | _, some d, _, _ => if v.testBit 31 then s.domOnWrite d v else s.domOffWrite d v
  | _, _, some k, _ => if v.testBit 31 then s.dieAssert src k else s.dieHoldOff src k
  | _, _, _, some n => s.rodWrite n v
  | _, _, _, _ => plain

/-- ALINK registers (chapter 19). -/
def State.writeAlink (s : State) (a v : Nat) : State :=
  if a = Reg.ALINK_PAIR_CTL then
    let s := if s.pairState = pairOff then s.setFld a Fld.ALINK_PAIR_CTL_PORT v else s
    let s := if v.testBit 31 then s.pairArm v else s
    if v.testBit 30 then s.pairLeaveWrite else s
  else match idxIn a (Reg.ALINK_PORT_CFG 0) 0x10 4, idx2 a (Reg.ALINK_RT 0 0) 0x40 2 4 16 with
  | some p, _ => s.portCfgWrite p v
  | _, some (b, _) =>
    if b = s.epochNow then s.setFld Reg.NOC_STATUS Fld.NOC_STATUS_RT_REFUSED 1 else s.plainWrite4 a (BitVec.ofNat 32 v)
  | _, _ => s.plainWrite4 a (BitVec.ofNat 32 v)

/-- The other blocks with effects of their own: counters, cache, memory, triggers, stack, scrubber. -/
def State.writeOther (s : State) (a v : Nat) (ok : Bool) : State :=
  let plain := s.plainWrite4 a (BitVec.ofNat 32 v)
  if a = Reg.STAT_CTL then
    let s := s.setFld a Fld.STAT_CTL_VIEW (v / 2)
    if v.testBit 0 then s.statSnap else s
  else if a = Reg.CACHE_CMD then s.cacheCmdWrite v
  else if a = Reg.EMC_CTL then s.emcCtlWrite v
  else if a = Reg.EMC_FILL_CTL then s.fillCtlWrite v
  else if a = Reg.STACK_CTL then s.stackCtlWrite v ok
  else if a = Reg.SCRUB_CTL then s.scrubCtlWrite v
  else match idxIn a (Reg.EMC_CH_CFG 0) 0x10 4, idxIn a (Reg.TRIG_CH_CTL 0) 0x20 16, idxIn a (Reg.TRIG_ARM_HI 0) 0x20 16 with
  | some c, _, _ => s.chCfgWrite c v
  | _, some c, _ => s.trigCtlWrite c v
  | _, _, some c => s.armWrite c v
  | _, _, _ => plain

/-- The effect of a write of `v` to the register at offset `a` by `src` (R4); a reserved offset takes nothing (R31, R5). -/
def State.writeReg (s : State) (src a v : Nat) (ok : Bool) : State :=
  if (regRowAt a).isNone then s
  else if a < 0x10000 then s.plainWrite4 a (BitVec.ofNat 32 v)
  else if a < 0x40000 then s.writePower src a v ok
  else if a < 0x80000 then s.writeCfg src a v
  else if a < 0x100000 then s.writePlane a v
  else if a < 0x180000 then s.writeTally a v
  else if a < 0x200000 then s.writeEng src a v
  else if a < 0x280000 then s.writeScratch src a v
  else if a < 0x380000 then s.writeNoc a v
  else if 0x500000 ≤ a ∧ a < 0x580000 then s.writeXts src a v
  else if 0x580000 ≤ a ∧ a < 0x600000 then s.writeLane a v
  else if 0x600000 ≤ a ∧ a < 0x680000 then s.writeHost a v
  else if 0x680000 ≤ a ∧ a < 0x700000 then s.writePin src a v
  else if 0x800000 ≤ a ∧ a < 0x900000 then s.writeAlink a v
  else s.writeOther a v ok

/-- A write of `len` bytes by `src`: one register, or two, the lower first (R32). In SECURE HALT the writes of others than engine 0 do
nothing, but for RST_CTL (R471). -/
def State.writeRegs (s : State) (src a : Nat) (data : List Byte) (ok : Bool) : State :=
  let one (s : State) (a v : Nat) : State := if s.writeDead src && a != Reg.RST_CTL then s else s.writeReg src a v ok
  let s := one s a (ofBytes (data.take 4))
  if data.length = 8 then one s (a + 4) (ofBytes (data.drop 4)) else s

/-- A control node performs part `p` of request `id`, a write to control registers (R545). -/
def State.controlWrite (s : State) (id p : Nat) (ok : Bool) : State :=
  match s.servable id p with
  | none => s
  | some (rq, q) =>
    let a := q.addr % 2 ^ 48
    if rq.kind != .write || q.port != portAUX || !s.isLocal q.addr || decide (a < ctlBase) || !inControlSpan (a - ctlBase) then s
    else if s.nodeBusy q.router then s.arriveAt id p
    else ((s.respond id p (codeAnswer rOK)).nodeUse q.router).writeRegs rq.src (a - ctlBase) (partData rq q) ok

/-! ### The step phase (R404) -/

/-- The step of an operation of kind `k`; channels in the mask `trained` end their training READY in this step, and those in `failed` end it
FAILED (R336). -/
def State.seqStepOf (s : State) (trained failed k : Nat) : State :=
  if k = 0 then s.loadStep
  else if k = 1 then s.storeStep
  else if k = 2 then s.scrubCheck true
  else if k = 3 then s.cacheStep
  else if k = 4 then s.fillStep
  else if k < 9 then
    (if trained.testBit (k - 5) then s.trainEnd (k - 5) true else if failed.testBit (k - 5) then s.trainEnd (k - 5) false else s)
  else if k = 9 then s.rotStep
  else s.recomputeStep

/-- One step phase: every operation that runs at its start performs its next step, in ascending order of kind. -/
def State.stepPhase (s : State) (trained failed : Nat) : State :=
  let s := s.seqSync
  let run := (List.range 11).filter (fun k => s.bit (Reg.HOST_SEQ_OP k) Fld.HOST_SEQ_OP_BUSY)
  (run.foldl (fun s k => (s.bump (Reg.HOST_SEQ_OP k) Fld.HOST_SEQ_OP_STEPS 1).seqStepOf trained failed k) s).seqSync

/-! ### Responses (R276) -/

/-- Every initiator takes the responses that its interface has delivered. -/
def State.takeResponses (s : State) (src : Nat) (bypass : Bool) : State :=
  if src < 0x40 then s.engInbox src
  else if isRegionSrc src then s.takeInbox (fun d => d.src == src) State.regionDelivery
  else if src = srcLoader then s.loaderInbox
  else if src = srcScrub then s.scrubInbox
  else if src = srcCache then (s.emcInbox bypass).cacheInbox
  else if 0xC8 ≤ src ∧ src ≤ 0xCB then s.alinkInbox
  else s.hostSettle

/-- The regions take what their interfaces have delivered, an interface's own answers among it (R195). -/
def State.regionInbox (s : State) : State := s.takeInbox (fun d => isRegionSrc d.src) State.regionDelivery

/-- The initiator of a request. -/
def State.srcOf (s : State) (id : Nat) : Nat := ((s.findReq id).map (·.src)).getD srcHost

end Sys2Proof.Machine
end

