-- ==== Sys2Proof/Machine/Time.lean ====
section
/-!
DEFINITION. Time: the effects that rules put at later edges, and what passes with time alone before a command.
-/
namespace Sys2Proof.Machine

/-- What a later edge does. -/
def State.runLater (s : State) : Later → State
  | .logTake a => (match tfind s.logs a with
    | some p => s.takeLog a p
    | none => s)
  | .inject => s.injectAll
  | .beamWrites r => s.beamWrites r
  | .regionE1 r => s.endCycle r s.now
  | .present r => s.present r s.now
  | .operands r => s.useOperands r
  | .regionReset r => s.enterReset r
  | .fills => s.fillSlots
  | .resolveSpecs => s.resolveSpecs
  | .taskEnd r h => s.taskEnd r h
  | .dispatchBack r => (s.dispatchBack r).quiesceAt r
  | .spillEnd j o => s.spillEnd j o
  | .quiesce r => s.quiesceAt r
  | .scratchEdge b => s.scrEdge b
  | .drainEnd b => s.drainEnd b
  | .cacheServe => s.cacheRun
  | .endWait n => s.endWait n
  | .banksLost r bs p => s.banksLost r bs p
  | .profGo l p => s.profRequest l p false
  | .planesInvalid rs ps a => s.planesInvalid rs ps a

/-- Up to `t`, what the blocks do as their edges come. -/
def State.flow (s : State) (t : Nat) : State :=
  let e := max s.now t
  ((s.domSee e).pass t).engSettle e

/-- What the agenda and the control nodes do up to `t`, edge by edge: an effect that stands for an edge comes before the reads of that edge, and
those before whatever a later edge does (R545). -/
def State.runTo : Nat → State → Nat → State
  | 0, s, t => s.flow t
  | n + 1, s, t =>
    let due := s.agenda.head?.filter (fun a => a.1 ≤ t)
    let read := s.nextRead.filter (fun r => r.1 < t)
    match due, read with
    | none, none => s.flow t
    | some a, none => State.runTo n (({ s with agenda := s.agenda.tail }.flow a.1).runLater a.2) t
    | none, some r => State.runTo n ((s.flow r.1).controlRead r.2.2.1 r.2.2.2) t
    | some a, some r =>
      if a.1 ≤ r.1 then State.runTo n (({ s with agenda := s.agenda.tail }.flow a.1).runLater a.2) t
      else State.runTo n ((s.flow r.1).controlRead r.2.2.1 r.2.2.2) t

/-- Time moves on to `t` (R1; log entry 2): what the spec lets pass with time alone is brought up to date. -/
def State.advance (s : State) (t : Nat) : State :=
  State.runTo (s.agenda.length + s.noc.reqs.length + 64 + 8 * (s.scr.wait.map (fun p => p.2.length)).sum) s t

/-- Before an engine's command: time moves on, and the responses that it has are taken. -/
def State.engAdvance (s : State) (t n : Nat) : State := (s.advance t).engInbox n

/-- Before a command of the host interface. -/
def State.hostAdvance (s : State) (t : Nat) : State := (s.advance t).hostSettle

/-- Before a command of chapter 19: time moves on, what has come for the ports is taken, and what has reached them leaves (log entry 40). -/
def State.alinkAdvance (s : State) (t : Nat) : State := ((s.advance t).alinkInbox).departAll

/-- Before a command of chapter 19. -/
def State.boardAdvance (s : State) (t : Nat) : State := (s.alinkAdvance t).pairSettle

end Sys2Proof.Machine
end

