-- ==== Sys2Proof/Machine/BootCmds.lean ====
section
/-!
DEFINITION. The commands of power-good, monitors and the end of POWER-UP (chapters 17, 18 and 20). Before each, time moves on to its edge.
-/
namespace Sys2Proof.Machine

/-- PWRGOOD_RISE (R521). -/
def execPwrgoodRise (t : Nat) (s : State) : Host.Outcome State Fault Refusal := .next ((s.advance t).pwrgoodRise)

/-- POWER_UP_END (R468). -/
def execPowerUpEnd (t : Nat) (vio : List Nat) (vias : List (Nat × Nat)) (faulty : Bool) (s : State) : Host.Outcome State Fault Refusal :=
  .next ((s.advance t).powerUpEnd vio vias faulty)

/-- PWRGOOD_FALL (R521). -/
def execPwrgoodFall (t : Nat) (s : State) : Host.Outcome State Fault Refusal := .next ((s.advance t).pwrgoodFall)

/-- POWER_FAIL_INTERVAL_END (R521). -/
def execPowerFailIntervalEnd (t : Nat) (s : State) : Host.Outcome State Fault Refusal := .next ((s.advance t).failEnd)

/-- RAIL_MONITOR_TRIP (R518). -/
def execRailMonitorTrip (t : Nat) (s : State) : Host.Outcome State Fault Refusal := .next ((s.advance t).railTrip)

/-- THERMAL_TRIP (R527). -/
def execThermalTrip (t : Nat) (s : State) : Host.Outcome State Fault Refusal := .next ((s.advance t).thermalTrip)

end Sys2Proof.Machine
end

