-- ==== Sys2Proof/Machine/CacheCmds.lean ====
section
/-!
DEFINITION. The commands of the stacked cache (chapter 11). Before each, time moves on to its edge.
-/
namespace Sys2Proof.Machine

/-- CACHE_REQUEST (R313, R318, R319). -/
def execCacheRequest (t id p : Nat) (s : State) : Host.Outcome State Fault Refusal := .next (((s.advance t).cacheInbox).cacheRequest id p)

/-- CACHE_FILL_RESPONSE (R318, R339): part `p` of the fill `id` reaches its slice. -/
def execCacheFillResponse (t id p : Nat) (s : State) : Host.Outcome State Fault Refusal :=
  .next (((s.advance t).arriveResp id p).cacheInbox)

/-- CACHE_CORRECTED_WRITEBACK (R322): an idle cycle of channel `w` of slice `n`. -/
def execCacheCorrectedWriteback (t n w : Nat) (s : State) : Host.Outcome State Fault Refusal :=
  .next ((s.advance t).cacheWriteback n w)

/-- CACHE_CMD_FLUSH (R320): `v` gives the other bits of the write. -/
def execCacheCmdFlush (t src v : Nat) (s : State) : Host.Outcome State Fault Refusal :=
  .next ((s.advance t).ctlWrite src Reg.CACHE_CMD (fun s => s.cacheCmdWrite (cmdWord v 1)))

/-- CACHE_CMD_FLUSH_INV (R320). -/
def execCacheCmdFlushInv (t src v : Nat) (s : State) : Host.Outcome State Fault Refusal :=
  .next ((s.advance t).ctlWrite src Reg.CACHE_CMD (fun s => s.cacheCmdWrite (cmdWord v 2)))

/-- CACHE_CMD_SETUSE (R320). -/
def execCacheCmdSetuse (t src v : Nat) (s : State) : Host.Outcome State Fault Refusal :=
  .next ((s.advance t).ctlWrite src Reg.CACHE_CMD (fun s => s.cacheCmdWrite (cmdWord v 3)))

/-- REMAP_SET_MOVE (R330, R331): slice `n`. -/
def execRemapSetMove (t n : Nat) (s : State) : Host.Outcome State Fault Refusal := .next ((s.advance t).remapStep n)

/-- CACHE_FILL_MODE (R321). -/
def execCacheFillMode (t : Nat) (s : State) : Host.Outcome State Fault Refusal := .next ((s.advance t).cacheFillMode)

/-- FILL_END (R321, R140). -/
def execFillEnd (t : Nat) (s : State) : Host.Outcome State Fault Refusal := .next ((s.advance t).fillEnd)

end Sys2Proof.Machine
end

