-- ==== Sys2Proof/Machine/ClocksCmds.lean ====
section
/-!
DEFINITION. The commands of clock generation (chapter 16). Before each, time moves on to its edge.
-/
namespace Sys2Proof.Machine

/-- CLOCK_TRIP (R437): the monitor trips on the source in force; `cause` is 0 no edge, 1 frequency. -/
def execClockTrip (t cause : Nat) (s : State) : Host.Outcome State Fault Refusal :=
  let s := s.advance t
  .next (if s.mayTrip cause then s.clockTrip s.clkInForce cause else s)

/-- FALLBACK_START (R439). -/
def execFallbackStart (t : Nat) (s : State) : Host.Outcome State Fault Refusal := .next ((s.advance t).fallbackStart)

/-- AUTO_RETURN (R440). -/
def execAutoReturn (t : Nat) (s : State) : Host.Outcome State Fault Refusal := .next ((s.advance t).autoReturn)

/-- REFERENCE_READY (R433): source `k`, encoded as SEL. -/
def execReferenceReady (t k : Nat) (s : State) : Host.Outcome State Fault Refusal := .next ((s.advance t).sourceReady k)

/-- REFERENCE_READY_LOSS (R433). -/
def execReferenceReadyLoss (t k : Nat) (s : State) : Host.Outcome State Fault Refusal := .next ((s.advance t).sourceLost k)

/-- CLK_SRC_GO (R441): a write of CLK_SRC_CTL with GO and SEL. -/
def execClkSrcGo (t src sel : Nat) (s : State) : Host.Outcome State Fault Refusal :=
  .next ((s.advance t).ctlWrite src Reg.CLK_SRC_CTL (fun s => s.switchRequest sel))

/-- SOURCE_SWITCH_LOCK (R442): the switch ends with LOCK (`ok`), or its target trips with `cause`. -/
def execSourceSwitchLock (t : Nat) (ok : Bool) (cause : Nat) (s : State) : Host.Outcome State Fault Refusal :=
  .next ((s.advance t).switchEnd ok cause)

/-- LANE_HOLDOVER_END (R436). -/
def execLaneHoldoverEnd (t : Nat) (s : State) : Host.Outcome State Fault Refusal := .next ((s.advance t).holdoverEnd)

/-- INT_EN_WRITE (R443): a write of CLK_CTL. -/
def execIntEnWrite (t src v : Nat) (s : State) : Host.Outcome State Fault Refusal :=
  .next ((s.advance t).ctlWrite src Reg.CLK_CTL (fun s => s.clkCtlWrite v))

/-- CLK_GATE_REQUEST (R445): a write of CLK_GATE_CTL(g) with GATE = 1. -/
def execClkGateRequest (t src g : Nat) (force : Bool) (s : State) : Host.Outcome State Fault Refusal :=
  .next ((s.advance t).ctlWrite src (Reg.CLK_GATE_CTL g) (fun s => s.gateRequest g force))

/-- GATE_IDLE (R446). -/
def execGateIdle (t g : Nat) (s : State) : Host.Outcome State Fault Refusal := .next ((s.advance t).gateSeenIdle g)

/-- GATE_TIMEOUT (R446). -/
def execGateTimeout (t g : Nat) (s : State) : Host.Outcome State Fault Refusal := .next ((s.advance t).gateTimeout g)

/-- CLK_UNGATE (R447): a write of CLK_GATE_CTL(g) with GATE = 0. -/
def execClkUngate (t src g : Nat) (force : Bool) (s : State) : Host.Outcome State Fault Refusal :=
  .next ((s.advance t).ctlWrite src (Reg.CLK_GATE_CTL g) (fun s => s.ungate g force))

end Sys2Proof.Machine
end

