-- ==== Sys2Proof/Machine/EmcCmds.lean ====
section
/-!
DEFINITION. The commands of external memory (chapter 12). Before each, time moves on to its edge.
-/
namespace Sys2Proof.Machine

/-- EMC_TRAIN (R336): a write of EMC_CH_CFG(c) with TRAIN and EN; `v` gives the other bits. -/
def execEmcTrain (t src c v : Nat) (s : State) : Host.Outcome State Fault Refusal :=
  .next ((s.advance t).ctlWrite src (Reg.EMC_CH_CFG c) (fun s => s.chCfgWrite c (v ||| 0xC0000000)))

/-- EMC_MAP (R337): a write of EMC_CTL with MAP; `v` gives the other bits. -/
def execEmcMap (t src v : Nat) (s : State) : Host.Outcome State Fault Refusal :=
  .next ((s.advance t).ctlWrite src Reg.EMC_CTL (fun s => s.emcCtlWrite (v ||| 0x80000000)))

/-- EMC_REQUEST (R339, R342, R454). -/
def execEmcRequest (t id p : Nat) (s : State) : Host.Outcome State Fault Refusal := .next (((s.advance t).emcInbox false).emcRequest id p)

/-- FORWARD_ANSWER (R339): the answer to the forward `id` reaches its controller. -/
def execForwardAnswer (t id p : Nat) (s : State) : Host.Outcome State Fault Refusal :=
  let s := s.advance t
  .next ((s.arriveResp id p).emcInbox (s.bypassOf id p))

/-- DRAM_READ_COMPLETE (R346, R347). -/
def execDramReadComplete (t id p : Nat) (s : State) : Host.Outcome State Fault Refusal := .next ((s.advance t).dramComplete id p)

/-- EMC_FILL_GO (R341). -/
def execEmcFillGo (t src : Nat) (s : State) : Host.Outcome State Fault Refusal :=
  .next ((s.advance t).ctlWrite src Reg.EMC_FILL_CTL (fun s => s.fillCtlWrite 0x80000000))

/-- EMC_FILL_CANCEL (R341). -/
def execEmcFillCancel (t src : Nat) (s : State) : Host.Outcome State Fault Refusal :=
  .next ((s.advance t).ctlWrite src Reg.EMC_FILL_CTL (fun s => s.fillCtlWrite 0x40000000))

end Sys2Proof.Machine
end

