-- ==== Sys2Proof/Machine/EnginesCmds.lean ====
section
/-!
DEFINITION. The commands of the reckoner engines (chapter 07). Before each, time moves on to its edge.
-/
namespace Sys2Proof.Machine

/-- XQ_POST (R216). -/
def execXqPost (t n : Nat) (s : State) : Host.Outcome State Fault Refusal :=
  .next ((s.engAdvance t n).issueRow n (fun i => match i with | .xq (.post _ _ _) => true | _ => false)
    (fun s _ len i => match i with | .xq (.post a b c) => s.xqPost n len a.toNat b.toNat c.toNat | _ => s))

/-- XQ_WAIT (R217). -/
def execXqWait (t n : Nat) (s : State) : Host.Outcome State Fault Refusal :=
  .next ((s.engAdvance t n).issueRow n (fun i => match i with | .xq (.wait _ _ _ _) => true | _ => false)
    (fun s _ len i => match i with | .xq (.wait rd a b opt) => s.xqWait n len rd.toNat a.toNat b.toNat opt.toNat | _ => s))

/-- WAIT_END (R218): the sc edge of now decides the wait. -/
def execWaitEnd (t n : Nat) (s : State) : Host.Outcome State Fault Refusal := .next ((s.engAdvance t n).waitEnd n)

/-- XQ_DONE (R219). -/
def execXqDone (t n : Nat) (s : State) : Host.Outcome State Fault Refusal :=
  .next ((s.engAdvance t n).issueRow n (fun i => match i with | .xq (.done _) => true | _ => false)
    (fun s _ len i => match i with | .xq (.done rd) => s.xqDone n len rd.toNat | _ => s))

/-- ENGINE_DONE_REPORT (R162). -/
def execEngineDoneReport (t n : Nat) (s : State) : Host.Outcome State Fault Refusal := .next ((s.engAdvance t n).engineDone n)

/-- XQ_CANCEL (R220). -/
def execXqCancel (t n : Nat) (s : State) : Host.Outcome State Fault Refusal :=
  .next ((s.engAdvance t n).issueRow n (fun i => match i with | .xq (.cancel _ _) => true | _ => false)
    (fun s _ len i => match i with | .xq (.cancel rd a) => s.xqCancel n len rd.toNat a.toNat | _ => s))

/-- XQ_PSEL (R221). -/
def execXqPsel (t n : Nat) (s : State) : Host.Outcome State Fault Refusal :=
  .next ((s.engAdvance t n).issueRow n (fun i => match i with | .xq (.psel _ _) => true | _ => false)
    (fun s _ len i => match i with | .xq (.psel rd a) => s.xqPsel n len rd.toNat a.toNat | _ => s))

/-- PSEL_RESULT (R221). -/
def execPselResult (t n : Nat) (s : State) : Host.Outcome State Fault Refusal := .next ((s.engAdvance t n).pselResult n)

/-- ENGINE_SELECT_AT_BEAM (R85): the edge at which the request takes effect in region `r` has come. -/
def execEngineSelectAtBeam (t r : Nat) (s : State) : Host.Outcome State Fault Refusal := .next ((s.advance t).resolve r)

/-- XQ_SACQ (R222). -/
def execXqSacq (t n : Nat) (s : State) : Host.Outcome State Fault Refusal :=
  .next ((s.engAdvance t n).issueRow n (fun i => match i with | .xq (.sacq _ _) => true | _ => false)
    (fun s _ len i => match i with
      | .xq (.sacq rd a) => s.xqHandover n len rd.toNat (((s.engine n).get a.toNat).toNat % 128) (ownEngine n) false
      | _ => s))

/-- XQ_SREL (R222): rs2 bits 7:0 name the new owner, bit 8 is CLEAR. -/
def execXqSrel (t n : Nat) (s : State) : Host.Outcome State Fault Refusal :=
  .next ((s.engAdvance t n).issueRow n (fun i => match i with | .xq (.srel _ _ _) => true | _ => false)
    (fun s _ len i => match i with
      | .xq (.srel rd a b) =>
        let v := ((s.engine n).get b.toNat).toNat
        s.xqHandover n len rd.toNat (((s.engine n).get a.toNat).toNat % 128) (v % 256) (v.testBit 8)
      | _ => s))

/-- XQ_PTEST (R223). -/
def execXqPtest (t n : Nat) (s : State) : Host.Outcome State Fault Refusal :=
  .next ((s.engAdvance t n).issueRow n (fun i => match i with | .xq (.ptest _ _ _) => true | _ => false)
    (fun s _ len i => match i with
      | .xq (.ptest rd a imm) => s.engRead n len formPtest rd.toNat ((s.engine n).get a.toNat + imm.signExtend 32).toNat
      | _ => s))

/-- XQ_LD64 (R224). -/
def execXqLd64 (t n : Nat) (s : State) : Host.Outcome State Fault Refusal :=
  .next ((s.engAdvance t n).issueRow n (fun i => match i with | .xq (.ld64 _ _ _) => true | _ => false)
    (fun s _ len i => match i with
      | .xq (.ld64 rd a imm) => s.engRead n len formLd64 rd.toNat ((s.engine n).get a.toNat + imm.signExtend 32).toNat
      | _ => s))

/-- XQ_SD64 (R224). -/
def execXqSd64 (t n : Nat) (s : State) : Host.Outcome State Fault Refusal :=
  .next ((s.engAdvance t n).issueRow n (fun i => match i with | .xq (.sd64 _ _ _) => true | _ => false)
    (fun s _ len i => match i with
      | .xq (.sd64 a b imm) =>
        let e := s.engine n
        let v := (e.get b.toNat).toNat + (e.get (b.toNat + 1)).toNat * 2 ^ 32
        s.engWrite n len (e.get a.toNat + imm.signExtend 32).toNat (toBytes 8 v) (e.marked b.toNat || e.marked (b.toNat + 1))
      | _ => s))

/-- ENGINE_INSTRUCTION (R204): a base instruction that makes no memory request; also the exceptions of the fetch, of a poisoned
instruction word, and of a word that encodes no instruction. -/
def execEngineInstruction (t n : Nat) (s : State) : Host.Outcome State Fault Refusal :=
  let s := s.engAdvance t n
  match s.toIssue n with
  | .fault code a => .next (s.accessFault n causeFetch 0 code a)
  | .poisoned s => .next (s.poisonTrap n 0 true)
  | _ => .next (s.issueRow n Rv.isBase (fun s w len i => s.engBase n len w i))

/-- ENGINE_LOAD (R227). -/
def execEngineLoad (t n : Nat) (s : State) : Host.Outcome State Fault Refusal :=
  .next ((s.engAdvance t n).issueRow n (fun i => match i with | .load _ _ _ _ => true | _ => false)
    (fun s _ len i => match i with
      | .load f3 rd a imm => s.engRead n len f3 rd ((s.engine n).get a + imm).toNat
      | _ => s))

/-- ENGINE_LOAD_RESPONSE (R227): part `p` of request `id` answers engine `n`. -/
def execEngineLoadResponse (t n id p : Nat) (s : State) : Host.Outcome State Fault Refusal :=
  .next (((s.advance t).arriveResp id p).engInbox n)

/-- ENGINE_STORE (R228). -/
def execEngineStore (t n : Nat) (s : State) : Host.Outcome State Fault Refusal :=
  .next ((s.engAdvance t n).issueRow n (fun i => match i with | .store _ _ _ _ => true | _ => false)
    (fun s _ len i => match i with
      | .store f3 a b imm =>
        let e := s.engine n
        s.engWrite n len (e.get a + imm).toNat (toBytes (2 ^ f3) (e.get b).toNat) (e.marked b)
      | _ => s))

/-- ENGINE_AMO (R204). -/
def execEngineAmo (t n : Nat) (s : State) : Host.Outcome State Fault Refusal :=
  .next ((s.engAdvance t n).issueRow n
    (fun i => match i with | .lr _ _ => true | .sc _ _ _ => true | .amo _ _ _ _ => true | _ => false)
    (fun s _ len i => s.engAtomic n len i))

/-- ENGINE_FENCE (R211): a fence over every stream, on the stream of data accesses; the instruction retires when it completes. -/
def execEngineFence (t n : Nat) (s : State) : Host.Outcome State Fault Refusal :=
  .next ((s.engAdvance t n).issueRow n (fun i => match i with | .fence => true | _ => false)
    (fun s _ len _ => if s.gateState n ≠ 0 then s else
      (s.acceptFence n 0 (bitsOf ((s.engine n).csrVal csrXqctl).toNat 2 0) allStreams allStreams true tagEngFence).hold n len .fence))

/-- ENGINE_FENCE_I (R205). -/
def execEngineFenceI (t n : Nat) (s : State) : Host.Outcome State Fault Refusal :=
  .next ((s.engAdvance t n).issueRow n (fun i => match i with | .fenceI => true | _ => false)
    (fun s _ len _ => (s.mapEngine n (fun e => { e with icache := [] })).finish n len 0 0 false))

/-- INSTRUCTION_FETCH_LINE (R209): part `p` of request `id` brings a line to engine `n`; `pre` says whether the next line is
prefetched, which the PMP region of the pc must hold and let execute. -/
def execInstructionFetchLine (t n id p : Nat) (pre : Bool) (s : State) : Host.Outcome State Fault Refusal :=
  let s := s.advance t
  let line := match s.findReq id with | some r => r.tag - tagFetch 0 | none => 0
  let s := (s.arriveResp id p).engInbox n
  let e := s.engine n
  let nl := line + 64
  let region (a len : Nat) : Option Nat := match e.pmpMatch a len (List.range 16) with
    | some (i, true) => if (e.pmpcfg i).testBit 2 then some i else none
    | _ => none
  if pre && (region nl 64).isSome && region nl 64 == region e.pc.toNat 2 && (e.icache.all (fun l => l.1 != nl)) then
    .next (s.requestLine n nl)
  else .next s

/-- ENGINE_INTERRUPT (R229): the first pending and enabled interrupt is taken. -/
def execEngineInterrupt (t n : Nat) (s : State) : Host.Outcome State Fault Refusal :=
  let s := s.engAdvance t n
  match s.firstInt n with
  | some i =>
    if s.mayIssue n && (!s.machineMode n || ((s.engine n).csrVal csrMstatus).getLsbD 3) then
      .next (s.trap n (s.engine n).pc i true 0)
    else .next s
  | none => .next s

/-- ENGINE_TIMER_EXPIRY (R229): TALLY_NOW passes ENG_TIMECMP. MTI is pending by the time alone (`State.pendingInt`). -/
def execEngineTimerExpiry (t n : Nat) (s : State) : Host.Outcome State Fault Refusal := .next (s.engAdvance t n)

/-- ENGINE_RESET (R231): a write of ENG_CTL(n) with RESET = 1; `v` gives the other bits. -/
def execEngineReset (t src n v : Nat) (s : State) : Host.Outcome State Fault Refusal :=
  .next ((s.engAdvance t n).engCtlWrite src n (v ||| 2))

/-- ENGINE_RUN (R231): a write of ENG_CTL(n) with RESET = 0 and RUN = 1. -/
def execEngineRun (t src n : Nat) (s : State) : Host.Outcome State Fault Refusal := .next ((s.engAdvance t n).engCtlWrite src n 1)

/-- ENGINE_HALT (R231): a write of ENG_CTL(n) with RESET = 0 and RUN = 0. -/
def execEngineHalt (t src n : Nat) (s : State) : Host.Outcome State Fault Refusal := .next ((s.engAdvance t n).engCtlWrite src n 0)

/-- ENG_MBOX_IN_WRITE (R234). -/
def execEngMboxInWrite (t src n v : Nat) (s : State) : Host.Outcome State Fault Refusal :=
  .next ((s.advance t).ctlWrite src (Reg.ENG_MBOX_IN n) (fun s => s.mboxIn n v))

/-- ENG_MBOX_OUT_WRITE (R234). -/
def execEngMboxOutWrite (t src n v : Nat) (s : State) : Host.Outcome State Fault Refusal :=
  .next ((s.advance t).ctlWrite src (Reg.ENG_MBOX_OUT n) (fun s => s.mboxOut n v))

/-- MBOX_NONCE (R233). -/
def execMboxNonce (t : Nat) (s : State) : Host.Outcome State Fault Refusal := .next ((s.advance t).mboxNonce)

end Sys2Proof.Machine
end

