-- ==== Sys2Proof/Machine/FabricCmds.lean ====
section
/-!
DEFINITION. The commands of user clocks and deck RAM (chapter 02). Before each, time moves on to its edge.
-/
namespace Sys2Proof.Machine

/-- UCLK_WRITE (R63). -/
def execUclkWrite (t src r k v : Nat) (s : State) : Host.Outcome State Fault Refusal :=
  .next ((s.advance t).ctlWrite src (Reg.PLANE_FAB_UCLK r k) (fun s => s.uclkWrite r k v))

/-- UCLK_APPLY (R63): the edge of user clock `k` that applies a waiting setting. -/
def execUclkApply (t r k : Nat) (s : State) : Host.Outcome State Fault Refusal := .next ((s.advance t).uclkApply r k)

/-- DECK_RAM_WINDOW_ACCESS (R54): part `p` of request `id` reaches the window. -/
def execDeckRamWindowAccess (t id p : Nat) (s : State) : Host.Outcome State Fault Refusal :=
  .next ((s.advance t).windowAccess id p)

/-- DECK_RAM_WINDOW_ROW_SERVE (R54): the design leaves `port` of block `k` idle in this fc. -/
def execDeckRamWindowRowServe (t r k port : Nat) (s : State) : Host.Outcome State Fault Refusal :=
  .next ((s.advance t).rowServe r k port)

/-- DECK_RAM_WINDOW_TIMEOUT (R54). -/
def execDeckRamWindowTimeout (t id p : Nat) (s : State) : Host.Outcome State Fault Refusal :=
  .next ((s.advance t).windowTimeout id p)

/-- DECK_RAM_PORT_ACCESS (R51): port A (0) or B (1) of block `k` reads fabric address `a`, or writes a value there. -/
def execDeckRamPortAccess (t r k port a : Nat) (w : Option Nat) (s : State) : Host.Outcome State Fault Refusal :=
  .next ((s.advance t).portAccess r k port a w)

end Sys2Proof.Machine
end

