-- ==== Sys2Proof/Machine/HostCmds.lean ====
section
/-!
DEFINITION. The commands of the host interface (chapter 14). Before each, time moves on to its edge.
-/
namespace Sys2Proof.Machine

/-- HOST_CONFIG_REQUEST (R383): dword `d` of the configuration space; a write carries its byte enables and value. -/
def execHostConfigRequest (t d : Nat) (w : Option (Nat × Nat)) (s : State) : Host.Outcome State Fault Refusal :=
  .next ((s.hostAdvance t).configRequest d w)

/-- BAR0_READ (R384): a read TLP with its tag. -/
def execBar0Read (t tag off len : Nat) (s : State) : Host.Outcome State Fault Refusal := .next ((s.hostAdvance t).bar0Read tag off len)

/-- BAR0_WRITE (R384). -/
def execBar0Write (t off : Nat) (data : List Byte) (ep : Bool) (s : State) : Host.Outcome State Fault Refusal :=
  .next ((s.hostAdvance t).bar0Write off data ep)

/-- BAR2_READ (R386). -/
def execBar2Read (t tag off len : Nat) (s : State) : Host.Outcome State Fault Refusal := .next ((s.hostAdvance t).bar2Read tag off len)

/-- BAR2_WRITE (R386). -/
def execBar2Write (t off : Nat) (data : List Byte) (ep : Bool) (s : State) : Host.Outcome State Fault Refusal :=
  .next ((s.hostAdvance t).bar2Write off data ep)

/-- BAR4_TABLE_WRITE (R389). -/
def execBar4TableWrite (t off v : Nat) (s : State) : Host.Outcome State Fault Refusal := .next ((s.hostAdvance t).bar4Write off v)

/-- SQ_TAIL_DOORBELL (R391). -/
def execSqTailDoorbell (t q v : Nat) (s : State) : Host.Outcome State Fault Refusal := .next ((s.hostAdvance t).doorbell q false v)

/-- CQ_HEAD_DOORBELL (R391). -/
def execCqHeadDoorbell (t q v : Nat) (s : State) : Host.Outcome State Fault Refusal := .next ((s.hostAdvance t).doorbell q true v)

/-- DESCRIPTOR_FETCH_RESPONSE (R392). -/
def execDescriptorFetchResponse (t q idx status : Nat) (bytes : List Byte) (s : State) : Host.Outcome State Fault Refusal :=
  .next ((s.hostAdvance t).fetchAnswer q idx status bytes)

/-- DESC_NOP (R394). -/
def execDescNop (t q : Nat) (s : State) : Host.Outcome State Fault Refusal :=
  .next ((s.hostAdvance t).startHead q (fun l o => !l && (match o with | .nop => true | _ => false)))

/-- DESC_COPY (R396). -/
def execDescCopy (t q : Nat) (s : State) : Host.Outcome State Fault Refusal :=
  .next ((s.hostAdvance t).startHead q (fun l o => !l && (match o with | .copy _ => true | _ => false)))

/-- DESC_REGSEQ (R397): it starts, and its first register write goes out. -/
def execDescRegseq (t q : Nat) (s : State) : Host.Outcome State Fault Refusal :=
  .next (((s.hostAdvance t).startHead q (fun l o => !l && (match o with | .regseq _ _ => true | _ => false))).seqProgress q)

/-- DESC_TOKEN (R398). -/
def execDescToken (t q : Nat) (s : State) : Host.Outcome State Fault Refusal :=
  .next ((s.hostAdvance t).startHead q (fun l o => !l && (match o with | .token _ _ _ _ => true | _ => false)))

/-- DESC_CANCEL (R398). -/
def execDescCancel (t q : Nat) (s : State) : Host.Outcome State Fault Refusal :=
  .next ((s.hostAdvance t).startHead q (fun l o => !l && (match o with | .cancel _ => true | _ => false)))

/-- DESC_CREATE (R398). -/
def execDescCreate (t q : Nat) (s : State) : Host.Outcome State Fault Refusal :=
  .next ((s.hostAdvance t).startHead q (fun l o => !l && (match o with | .create _ => true | _ => false)))

/-- DESC_FENCE (R398). -/
def execDescFence (t q : Nat) (s : State) : Host.Outcome State Fault Refusal :=
  .next ((s.hostAdvance t).startHead q (fun l o => !l && (match o with | .fence => true | _ => false)))

/-- LEGACY_NOP (R399). -/
def execLegacyNop (t q : Nat) (s : State) : Host.Outcome State Fault Refusal :=
  .next ((s.hostAdvance t).startHead q (fun l o => l && (match o with | .nop => true | _ => false)))

/-- LEGACY_COPY (R399). -/
def execLegacyCopy (t q : Nat) (s : State) : Host.Outcome State Fault Refusal :=
  .next ((s.hostAdvance t).startHead q (fun l o => l && (match o with | .copy _ => true | _ => false)))

/-- LEGACY_REGWR (R399). -/
def execLegacyRegwr (t q : Nat) (s : State) : Host.Outcome State Fault Refusal :=
  .next (((s.hostAdvance t).startHead q (fun l o => l && (match o with | .regseq _ _ => true | _ => false))).seqProgress q)

/-- LEGACY_FENCE (R399). -/
def execLegacyFence (t q : Nat) (s : State) : Host.Outcome State Fault Refusal :=
  .next ((s.hostAdvance t).startHead q (fun l o => l && (match o with | .fence => true | _ => false)))

/-- COPY_COMPLETE (R396). -/
def execCopyComplete (t d : Nat) (s : State) : Host.Outcome State Fault Refusal := .next ((s.hostAdvance t).copyComplete d)

/-- REGSEQ_POLL_TIMEOUT (R397). -/
def execRegseqPollTimeout (t q : Nat) (s : State) : Host.Outcome State Fault Refusal := .next ((s.hostAdvance t).pollTimeout q)

/-- COMPLETION_WRITE (R401). -/
def execCompletionWrite (t q : Nat) (s : State) : Host.Outcome State Fault Refusal := .next ((s.hostAdvance t).completionWrite q)

/-- BLOCK_IRQ_EDGE (R402): line `i` of R230. -/
def execBlockIrqEdge (t i : Nat) (s : State) : Host.Outcome State Fault Refusal := .next ((s.hostAdvance t).irqEdge i)

/-- HOST_QUEUE_ENABLE (R390): a write of HOST_Q_CFG(q) with EN = 1; `v` gives the other bits. -/
def execHostQueueEnable (t src q v : Nat) (s : State) : Host.Outcome State Fault Refusal :=
  .next ((s.hostAdvance t).ctlWrite src (Reg.HOST_Q_CFG q) (fun s => s.queueEnable q (v ||| 2 ^ 31)))

/-- HOST_QUEUE_DISABLE (R406): a write of HOST_Q_CFG(q) with EN = 0. -/
def execHostQueueDisable (t src q v : Nat) (s : State) : Host.Outcome State Fault Refusal :=
  .next ((s.hostAdvance t).ctlWrite src (Reg.HOST_Q_CFG q) (fun s => s.queueDisable q v))

/-- QUEUE_DRAINED (R390). -/
def execQueueDrained (t q : Nat) (s : State) : Host.Outcome State Fault Refusal := .next ((s.hostAdvance t).queueDrained q)

/-- HOST_RETRAIN (R381): a write of HOST_CTL with RETRAIN = 1; `v` gives the other bits. -/
def execHostRetrain (t src v : Nat) (s : State) : Host.Outcome State Fault Refusal :=
  .next ((s.hostAdvance t).ctlWrite src Reg.HOST_CTL (fun s => s.hostCtlWrite (v ||| 2 ^ 31)))

/-- HOST_LINK_UP (R383): the generation and width that the partner allows. -/
def execHostLinkUp (t gen width : Nat) (s : State) : Host.Outcome State Fault Refusal := .next ((s.hostAdvance t).linkUp gen width)

/-- HOST_LINK_DOWN (R406). -/
def execHostLinkDown (t : Nat) (s : State) : Host.Outcome State Fault Refusal := .next ((s.hostAdvance t).linkDown)

/-- HOST_WIN_ENABLE (R386): a write of HOST_WIN_CTL(k) with EN = 1. -/
def execHostWinEnable (t src k v : Nat) (s : State) : Host.Outcome State Fault Refusal :=
  .next ((s.hostAdvance t).ctlWrite src (Reg.HOST_WIN_CTL k) (fun s => s.winCtlWrite k (v ||| 2 ^ 31)))

/-- HOST_WIN_BASE_WRITE (R386). -/
def execHostWinBaseWrite (t src k v : Nat) (s : State) : Host.Outcome State Fault Refusal :=
  .next ((s.hostAdvance t).ctlWrite src (Reg.HOST_WIN_BASE k) (fun s => s.winBaseWrite k v))

/-- DMA_HOST_READ_COMPLETION (R388, R396). -/
def execDmaHostReadCompletion (t d status : Nat) (bytes : List Byte) (s : State) : Host.Outcome State Fault Refusal :=
  .next ((s.hostAdvance t).dmaHostData d status bytes)

/-- SEQUENCER_SERVICE_TURN (R404). -/
def execSequencerServiceTurn (t : Nat) (s : State) : Host.Outcome State Fault Refusal := .next ((s.hostAdvance t).serviceTurn)

end Sys2Proof.Machine
end

