-- ==== Sys2Proof/Machine/KeysCmds.lean ====
section
/-!
DEFINITION. The commands of encryption ranges and keys (chapter 12). Before each, time moves on to its edge.
-/
namespace Sys2Proof.Machine

/-- XTS_RANGE_ENABLE (R350): a write of XTS_RANGE_CTL(j) with EN = 1; `v` gives the other bits. -/
def execXtsRangeEnable (t src j v : Nat) (s : State) : Host.Outcome State Fault Refusal :=
  .next ((s.advance t).ctlWrite src (Reg.XTS_RANGE_CTL j) (fun s => s.xtsWrite src (fun s => s.rangeCtlWrite j (v ||| 0x80000000))))

/-- XTS_RANGE_DISABLE (R350): a write with EN = 0. -/
def execXtsRangeDisable (t src j v : Nat) (s : State) : Host.Outcome State Fault Refusal :=
  .next ((s.advance t).ctlWrite src (Reg.XTS_RANGE_CTL j) (fun s => s.xtsWrite src (fun s => s.rangeCtlWrite j (v % 2 ^ 31))))

/-- XTS_KEY_STAGE_WRITE (R351). -/
def execXtsKeyStageWrite (t src i v : Nat) (s : State) : Host.Outcome State Fault Refusal :=
  .next ((s.advance t).ctlWrite src (Reg.XTS_KEY_STAGE i) (fun s => s.xtsWrite src (fun s => s.setReg (Reg.XTS_KEY_STAGE i) (BitVec.ofNat 32 v))))

/-- XTS_KEY_LOAD_CUR (R351): key `key` of range `idx`. -/
def execXtsKeyLoadCur (t src key idx : Nat) (s : State) : Host.Outcome State Fault Refusal :=
  .next ((s.advance t).ctlWrite src Reg.XTS_KEY_CMD (fun s => s.xtsWrite src (fun s => s.keyLoad keyCur key idx)))

/-- XTS_KEY_LOAD_NEW (R351). -/
def execXtsKeyLoadNew (t src key idx : Nat) (s : State) : Host.Outcome State Fault Refusal :=
  .next ((s.advance t).ctlWrite src Reg.XTS_KEY_CMD (fun s => s.xtsWrite src (fun s => s.keyLoad keyNew key idx)))

/-- XTS_KEY_LOAD_SLOT (R351). -/
def execXtsKeyLoadSlot (t src key idx : Nat) (s : State) : Host.Outcome State Fault Refusal :=
  .next ((s.advance t).ctlWrite src Reg.XTS_KEY_CMD (fun s => s.xtsWrite src (fun s => s.keyLoad keySlot key idx)))

/-- XTS_KEY_LOAD_LINK (R351). -/
def execXtsKeyLoadLink (t src key idx : Nat) (s : State) : Host.Outcome State Fault Refusal :=
  .next ((s.advance t).ctlWrite src Reg.XTS_KEY_CMD (fun s => s.xtsWrite src (fun s => s.keyLoad keyLink key idx)))

/-- XTS_ROT_GO (R352). -/
def execXtsRotGo (t src j : Nat) (s : State) : Host.Outcome State Fault Refusal :=
  .next ((s.advance t).ctlWrite src (Reg.XTS_ROT j) (fun s => s.xtsWrite src (fun s => s.rotWrite j 0x80000000)))

end Sys2Proof.Machine
end

