-- ==== Sys2Proof/Machine/LanesCmds.lean ====
section
/-!
DEFINITION. The commands of the duplex lanes (chapter 13). Before each, time moves on to its edge.
-/
namespace Sys2Proof.Machine

/-- LANE_ENABLE (R379): a write of LANE_CFG(l) with EN = 1; `v` gives the other bits. -/
def execLaneEnable (t src l v : Nat) (s : State) : Host.Outcome State Fault Refusal :=
  .next ((s.advance t).ctlWrite src (Reg.LANE_CFG l) (fun s => s.laneCfgWrite l (v ||| 2 ^ 31)))

/-- LANE_DISABLE (R379): a write of LANE_CFG(l) with EN = 0. -/
def execLaneDisable (t src l v : Nat) (s : State) : Host.Outcome State Fault Refusal :=
  .next ((s.advance t).ctlWrite src (Reg.LANE_CFG l) (fun s => s.laneCfgWrite l (v % 2 ^ 31)))

/-- LANE_CAL_DONE (R379). -/
def execLaneCalDone (t l : Nat) (s : State) : Host.Outcome State Fault Refusal := .next ((s.advance t).calDone l)

/-- LANE_PROF_GO (R363): a write of LANE_CTL(l) with PROF_GO. -/
def execLaneProfGo (t src l p : Nat) (s : State) : Host.Outcome State Fault Refusal :=
  .next ((s.advance t).ctlWrite src (Reg.LANE_CTL l) (fun s => s.laneCtlWrite l (2 ^ 29 + p % 4)))

/-- LPROF_REQ (R363): a rising edge of the bound region's LPROF_REQ with LPROF_SEL. -/
def execLprofReq (t l sel : Nat) (s : State) : Host.Outcome State Fault Refusal :=
  .next (let s := s.advance t; if s.laneRegionLive l then s.profRequest l (sel % 4) true else s)

/-- PROF_DONE (R363). -/
def execProfDone (t l : Nat) (s : State) : Host.Outcome State Fault Refusal := .next ((s.advance t).profDone l)

/-- LANE_REALIGN (R366): a write of LANE_CTL(l) with REALIGN. -/
def execLaneRealign (t src l p : Nat) (s : State) : Host.Outcome State Fault Refusal :=
  .next ((s.advance t).ctlWrite src (Reg.LANE_CTL l) (fun s => s.laneCtlWrite l (2 ^ 31 + p % 4)))

/-- LANE_SLIP (R366): a write of LANE_CTL(l) with SLIP. -/
def execLaneSlip (t src l p : Nat) (s : State) : Host.Outcome State Fault Refusal :=
  .next ((s.advance t).ctlWrite src (Reg.LANE_CTL l) (fun s => s.laneCtlWrite l (2 ^ 30 + p % 4)))

/-- SIGNAL_DETECT (R379). -/
def execSignalDetect (t l : Nat) (s : State) : Host.Outcome State Fault Refusal := .next ((s.advance t).signalDetect l)

/-- SIGNAL_LOSS (R366). -/
def execSignalLoss (t l : Nat) (s : State) : Host.Outcome State Fault Refusal := .next ((s.advance t).signalLoss l)

/-- RX_LOCK (R366). -/
def execRxLock (t l : Nat) (s : State) : Host.Outcome State Fault Refusal := .next ((s.advance t).rxLock l)

/-- RX_LOCK_LOST (R366). -/
def execRxLockLost (t l : Nat) (s : State) : Host.Outcome State Fault Refusal := .next ((s.advance t).rxLockLost l)

/-- LANE_RX_WORD (R369): the word whose first bit reached the pad at `u` (line units). -/
def execLaneRxWord (t l u corr : Nat) (unc : Bool) (data side err : Nat) (s : State) : Host.Outcome State Fault Refusal :=
  .next ((s.advance t).rxWord l u corr unc ⟨BitVec.ofNat 128 data, BitVec.ofNat 16 side, BitVec.ofNat 16 err⟩)

/-- FORWARD_STOP (R373): a condition of R370 has failed on lane `l`. -/
def execForwardStop (t l : Nat) (s : State) : Host.Outcome State Fault Refusal := .next ((s.advance t).checkForward l)

/-- LANE_TX_RETIMED (R373). -/
def execLaneTxRetimed (t l : Nat) (s : State) : Host.Outcome State Fault Refusal :=
  .next ((s.advance t).mapLane l (fun x => { x with retime := false }))

/-- LANE_TX_ACCEPT (R368). -/
def execLaneTxAccept (t l data side : Nat) (s : State) : Host.Outcome State Fault Refusal :=
  .next ((s.advance t).txAccept l ⟨BitVec.ofNat 128 data, BitVec.ofNat 16 side, 0⟩)

/-- LANE_TX_SLOT (R368): a slot that begins at `u` (line units), with the region's LTX_EIDLE. -/
def execLaneTxSlot (t l u : Nat) (eidle : Bool) (s : State) : Host.Outcome State Fault Refusal :=
  .next ((s.advance t).txSlot l u eidle)

/-- SUBSTITUTION_ACCEPT (R372): the region's LTX_SUB_MODE, LTX_SEQ, LTX_DATA and LTX_SIDE on forward destination `l`. -/
def execSubstitutionAccept (t l : Nat) (mode : Bool) (seq data side : Nat) (s : State) : Host.Outcome State Fault Refusal :=
  .next (let s := s.advance t
    if s.laneRegionLive l then s.substitute l mode (seq % 256) ⟨BitVec.ofNat 128 data, BitVec.ofNat 16 side, 0⟩ else s)

/-- CAPTURE_ENABLE (R374): a write of LANE_CAP_CTL(l) with EN = 1. -/
def execCaptureEnable (t src l v : Nat) (s : State) : Host.Outcome State Fault Refusal :=
  .next ((s.advance t).ctlWrite src (Reg.LANE_CAP_CTL l) (fun s => s.captureCtl l (v ||| 2 ^ 31)))

/-- CAPTURE_WRITE (R375). -/
def execCaptureWrite (t l : Nat) (s : State) : Host.Outcome State Fault Refusal := .next ((s.advance t).captureWrite l)

end Sys2Proof.Machine
end

