-- ==== Sys2Proof/Machine/LinksCmds.lean ====
section
/-!
DEFINITION. The commands of links, routers and routes (chapter 09). Before each, time moves on to its edge.
-/
namespace Sys2Proof.Machine

/-- FLIT_ARRIVAL (R263): flit `f` reaches input `p` of router `n`; `lost` names the request part that it carries. -/
def execFlitArrival (t n p : Nat) (f : Flit) (lost : Option (Nat × Nat)) (s : State) : Host.Outcome State Fault Refusal :=
  .next ((s.advance t).flitArrival n p f lost)

/-- LINK_NAK (R264). -/
def execLinkNak (t n p q : Nat) (s : State) : Host.Outcome State Fault Refusal := .next ((s.advance t).linkNak n p q)

/-- LINK_ACK (R264). -/
def execLinkAck (t n p q : Nat) (s : State) : Host.Outcome State Fault Refusal := .next ((s.advance t).linkAck n p q)

/-- LINK_ACK_SEND (R264). -/
def execLinkAckSend (t n p : Nat) (s : State) : Host.Outcome State Fault Refusal := .next ((s.advance t).linkAckSend n p)

/-- BUCKET_LEAK (R269). -/
def execBucketLeak (t n p : Nat) (s : State) : Host.Outcome State Fault Refusal := .next ((s.advance t).bucketLeak n p)

/-- LINK_DEATH (R271). -/
def execLinkDeath (t n p : Nat) (lost : List (Nat × Nat)) (s : State) : Host.Outcome State Fault Refusal :=
  .next ((s.advance t).linkDeath n p lost)

/-- NOC_LINK_RETIRE_WRITE (R270): NOC_LINK(n, p).RETIRE is written 1. -/
def execNocLinkRetireWrite (t src n p : Nat) (s : State) : Host.Outcome State Fault Refusal :=
  .next ((s.advance t).ctlWrite src (Reg.NOC_LINK n p) (fun s => s.retireLink n p))

/-- NOC_RECOMPUTE (R267): NOC_CTL.RECOMPUTE is written 1. -/
def execNocRecompute (t src : Nat) (s : State) : Host.Outcome State Fault Refusal :=
  .next ((s.advance t).ctlWrite src Reg.NOC_CTL (fun s => s.requestRecompute))

/-- NOC_FLIP (R268): NOC_CTL.FLIP is written 1. -/
def execNocFlip (t src : Nat) (s : State) : Host.Outcome State Fault Refusal :=
  .next ((s.advance t).ctlWrite src Reg.NOC_CTL (fun s =>
    if s.bit Reg.NOC_STATUS Fld.NOC_STATUS_FLIP_STATE then s.setFld Reg.NOC_STATUS Fld.NOC_STATUS_FLIP_REFUSED 1 else s.startFlip))

/-- FLIP_COMPLETE (R268). -/
def execFlipComplete (t : Nat) (s : State) : Host.Outcome State Fault Refusal := .next ((s.advance t).flipComplete)

/-- NOC_LIMIT_WRITE (R275): a write to NOC_INIT_LIMIT (`init`) or NOC_TGT_LIMIT. -/
def execNocLimitWrite (t src : Nat) (init : Bool) (v : Nat) (s : State) : Host.Outcome State Fault Refusal :=
  .next ((s.advance t).ctlWrite src (if init then Reg.NOC_INIT_LIMIT else Reg.NOC_TGT_LIMIT) (fun s => s.limitWrite init v))

/-- NOC_RT_WRITE (R267): a write to NOC_RT_LO or NOC_RT_HI(n, b, d). -/
def execNocRtWrite (t src n b d : Nat) (hi : Bool) (v : Nat) (s : State) : Host.Outcome State Fault Refusal :=
  let a := if hi then Reg.NOC_RT_HI n b d else Reg.NOC_RT_LO n b d
  .next ((s.advance t).ctlWrite src a (fun s =>
    if b = s.epochNow then s.setFld Reg.NOC_STATUS Fld.NOC_STATUS_RT_REFUSED 1
    else s.setReg a (BitVec.ofNat 32 v &&& (if hi then 0xC03FFFFF else 0xFFFFFFFF))))

end Sys2Proof.Machine
end

