-- ==== Sys2Proof/Machine/LoaderCmds.lean ====
section
/-!
DEFINITION. The commands of the configuration loader (chapter 04). Before each, time moves on to its edge.
-/
namespace Sys2Proof.Machine

/-- LOAD_GO (R119): a write of CFG_LOAD_CTL with GO; `v` gives the other bits. -/
def execLoadGo (t src v : Nat) (s : State) : Host.Outcome State Fault Refusal :=
  .next ((s.advance t).ctlWrite src Reg.CFG_LOAD_CTL (fun s => s.loadCtlWrite (v ||| 2 ^ 31)))

/-- LOAD_VERIFY_GO (R132): GO with VERIFY = 1. -/
def execLoadVerifyGo (t src v : Nat) (s : State) : Host.Outcome State Fault Refusal :=
  .next ((s.advance t).ctlWrite src Reg.CFG_LOAD_CTL (fun s => s.loadCtlWrite (v ||| 2 ^ 31 ||| 2 ^ 10)))

/-- LOAD_CANCEL (R130). -/
def execLoadCancel (t src v : Nat) (s : State) : Host.Outcome State Fault Refusal :=
  .next ((s.advance t).ctlWrite src Reg.CFG_LOAD_CTL (fun s => s.loadCtlWrite (v ||| 2 ^ 30)))

end Sys2Proof.Machine
end

