-- ==== Sys2Proof/Machine/NetworkCmds.lean ====
section
/-!
DEFINITION. The commands of the network interfaces (chapters 09 and 10). Before each, time moves on to its edge.
-/
namespace Sys2Proof.Machine

/-- NOC_REQUEST_ACCEPT (R25): initiator `src` issues a request; `code` is its region code (R259). -/
def execNocRequestAccept (t src stream code addr len : Nat) (data : List Byte) (marks : List Bool) (tag : Nat) (s : State) :
    Host.Outcome State Fault Refusal := .next ((s.advance t).issue src stream code addr len data marks tag)

/-- INTERFACE_SELF_ANSWER (R25). -/
def execInterfaceSelfAnswer (t id : Nat) (s : State) : Host.Outcome State Fault Refusal := .next ((s.advance t).selfAnswer id).regionInbox

/-- TARGET_LIMIT_TIMEOUT (R274). -/
def execTargetLimitTimeout (t id p : Nat) (s : State) : Host.Outcome State Fault Refusal :=
  .next ((s.advance t).targetTimeout id p)

/-- INITIATOR_TIMEOUT (R275). -/
def execInitiatorTimeout (t id : Nat) (s : State) : Host.Outcome State Fault Refusal := .next ((s.advance t).initiatorTimeout id).regionInbox

/-- STAT_SNAP (R280). -/
def execStatSnap (t src : Nat) (s : State) : Host.Outcome State Fault Refusal :=
  .next ((s.advance t).ctlWrite src Reg.STAT_CTL (fun s => s.statSnap))

/-- FENCE_ACCEPT (R287, R288). -/
def execFenceAccept (t src stream tag : Nat) (s : State) : Host.Outcome State Fault Refusal :=
  .next ((s.advance t).issueFence src stream tag)

/-- FENCE_PACKET_AT_TARGET (R288). -/
def execFencePacketAtTarget (t id p : Nat) (s : State) : Host.Outcome State Fault Refusal :=
  .next ((s.advance t).fencePacket id p)

/-- FENCE_COMPLETE (R287, R289). -/
def execFenceComplete (t id : Nat) (s : State) : Host.Outcome State Fault Refusal := .next ((s.advance t).fenceComplete id).regionInbox

/-- WRITE_FAILURE_ACK_ARRIVAL (R290, R291). -/
def execWriteFailureAckArrival (t id p : Nat) (s : State) : Host.Outcome State Fault Refusal :=
  .next ((s.advance t).failureAck id p)

end Sys2Proof.Machine
end

