-- ==== Sys2Proof/Machine/PairCmds.lean ====
section
/-!
DEFINITION. The commands of counting boards and paired run (chapter 19). Before each, time moves on to its edge.
-/
namespace Sys2Proof.Machine

/-- ALINK_PORT_UP (R491): port `p` has trained with version `ver`, coded as VER. -/
def execAlinkPortUp (t p ver : Nat) (s : State) : Host.Outcome State Fault Refusal := .next ((s.boardAdvance t).portUp p ver)

/-- ALINK_PORT_LOST (R491). -/
def execAlinkPortLost (t p : Nat) (s : State) : Host.Outcome State Fault Refusal := .next ((s.boardAdvance t).portLost p)

/-- ALINK_RETRY_LIMIT (R493): a frame resent 64 times has not been acknowledged. -/
def execAlinkRetryLimit (t p : Nat) (s : State) : Host.Outcome State Fault Refusal :=
  let s := s.boardAdvance t
  .next (if 64 ≤ (s.aport p).resent.2 ∧ (s.aport p).replay.any (fun r => r.1 == (s.aport p).resent.1) then s.portLost p else s)

/-- ALINK_DATA_FRAME (R504): the bytes of a frame at port `p`; `resp`: it carries a response, to the request part `ans`. -/
def execAlinkDataFrame (t p : Nat) (bytes : List Byte) (resp : Bool) (ans : Option (Nat × Nat)) (s : State) :
    Host.Outcome State Fault Refusal := .next ((s.boardAdvance t).onFrame p frData bytes (fun s f => s.dataFrame p resp ans f))

/-- ALINK_NAK (R493): the transmitter resends from the SEQ after the frame's ACK (log entry 37). -/
def execAlinkNak (t p : Nat) (bytes : List Byte) (s : State) : Host.Outcome State Fault Refusal :=
  .next ((s.boardAdvance t).onFrame p frNak bytes (fun s _ =>
    let a := ofBytes ((bytes.drop 8).take 8)
    s.replayFrom p (if a = ackNone then 0 else a + 1)))

/-- ALINK_IDLE (R492): it carries its acknowledgement only. -/
def execAlinkIdle (t p : Nat) (bytes : List Byte) (s : State) : Host.Outcome State Fault Refusal :=
  .next ((s.boardAdvance t).onFrame p frIdle bytes (fun s _ => s))

/-- BEACON (R496, R497). -/
def execBeacon (t p : Nat) (bytes : List Byte) (s : State) : Host.Outcome State Fault Refusal :=
  .next ((s.boardAdvance t).onFrame p frBeacon bytes (fun s f =>
    if s.portState p = lpPair ∨ s.portState p = lpForeign ∨ f.body.length ≠ 32 then s else s.takeBeacon p (beaconOf f.body)))

/-- BEACON_SEND (R496). -/
def execBeaconSend (t p : Nat) (s : State) : Host.Outcome State Fault Refusal := .next ((s.boardAdvance t).beaconSend p)

/-- DEVICE_SETTLE (R499). -/
def execDeviceSettle (t : Nat) (s : State) : Host.Outcome State Fault Refusal :=
  let s := s.boardAdvance t
  .next (if s.maySettle then s.settle else s)

/-- PORT_ABSENT_TIMEOUT (R500). -/
def execPortAbsentTimeout (t p : Nat) (s : State) : Host.Outcome State Fault Refusal :=
  let s := s.boardAdvance t
  .next (if s.expectedPort p ∧ s.portState p = lpTraining ∧ s.pwr.upAt + absentTime ≤ s.now then
      (s.setPort p lpAbsent).setFld Reg.ALINK_BOARD_STATUS Fld.ALINK_BOARD_STATUS_PARTIAL 1
    else s)

/-- FOREIGN_TIMEOUT (R496, R506). -/
def execForeignTimeout (t p : Nat) (s : State) : Host.Outcome State Fault Refusal :=
  let s := s.boardAdvance t
  .next (if s.portState p = lpUp ∧ !s.bit (Reg.ALINK_PORT_STATUS p) Fld.ALINK_PORT_STATUS_VER ∧ (s.aport p).nb.isNone ∧
      (s.aport p).upAt + foreignTime ≤ s.now then s.setPort p lpForeign else s)

/-- DELIVERY (R504): the frame tells of the packet of part `k` of request `id`, which its bytes do not name (log entry 39). -/
def execDelivery (t p : Nat) (bytes : List Byte) (id k : Nat) (s : State) : Host.Outcome State Fault Refusal :=
  .next ((s.boardAdvance t).onFrame p frDelivery bytes (fun s f => s.deliveryFrame p (id, k) f))

/-- ALINK_RT_WRITE (R502): a write to ALINK_RT(b, d). -/
def execAlinkRtWrite (t src b d v : Nat) (s : State) : Host.Outcome State Fault Refusal :=
  .next ((s.boardAdvance t).ctlWrite src (Reg.ALINK_RT b d) (fun s =>
    if b = s.epochNow then s.setFld Reg.NOC_STATUS Fld.NOC_STATUS_RT_REFUSED 1
    else s.setReg (Reg.ALINK_RT b d) (BitVec.ofNat 32 v &&& 0x80000003)))

/-- PAIR_ARM (R507): a write of ALINK_PAIR_CTL with ARM and PORT. -/
def execPairArm (t src port : Nat) (s : State) : Host.Outcome State Fault Refusal :=
  .next ((s.boardAdvance t).ctlWrite src Reg.ALINK_PAIR_CTL (fun s => s.pairArm port))

/-- PAIR_READY (R507). -/
def execPairReady (t p : Nat) (bytes : List Byte) (s : State) : Host.Outcome State Fault Refusal :=
  .next ((s.boardAdvance t).onPair p pkReady bytes (fun s _ _ => s.gotReady))

/-- PAIRED_RUN_ENTRY (R509): `edge` is the fc edge at which the device sampled the chassis sync edge. -/
def execPairedRunEntry (t edge : Nat) (s : State) : Host.Outcome State Fault Refusal := .next ((s.boardAdvance t).pairEntry edge)

/-- PAIR_WINDOW_END (R510). -/
def execPairWindowEnd (t : Nat) (s : State) : Host.Outcome State Fault Refusal := .next ((s.boardAdvance t).windowEnd)

/-- PAIR_SIG (R510, R511). -/
def execPairSig (t p : Nat) (bytes : List Byte) (s : State) : Host.Outcome State Fault Refusal :=
  .next ((s.boardAdvance t).onPair p pkSig bytes (fun s w c => s.gotSig w c))

/-- PAIR_LINK_TIMEOUT (R511). -/
def execPairLinkTimeout (t : Nat) (s : State) : Host.Outcome State Fault Refusal := .next ((s.boardAdvance t).pairTimeout)

/-- PAIR_HALT (R511). -/
def execPairHalt (t p : Nat) (bytes : List Byte) (s : State) : Host.Outcome State Fault Refusal :=
  .next ((s.boardAdvance t).onPair p pkHalt bytes (fun s _ _ => if s.pairState = pairOff ∨ s.pairState = pairHalted then s else s.pairMismatch 3))

/-- ALINK_PAIR_LEAVE_WRITE (R512): a write of ALINK_PAIR_CTL with LEAVE. -/
def execAlinkPairLeaveWrite (t src : Nat) (s : State) : Host.Outcome State Fault Refusal :=
  .next ((s.boardAdvance t).ctlWrite src Reg.ALINK_PAIR_CTL (fun s => s.pairLeaveWrite))

/-- PAIR_LEAVE (R512): `retired` says what made the partner leave. -/
def execPairLeave (t p : Nat) (bytes : List Byte) (retired : Bool) (s : State) : Host.Outcome State Fault Refusal :=
  .next ((s.boardAdvance t).onPair p pkLeave bytes (fun s w _ => s.gotLeave retired w))

/-- PAIR_LEAVE_END (R512). -/
def execPairLeaveEnd (t : Nat) (s : State) : Host.Outcome State Fault Refusal := .next ((s.boardAdvance t).pairLeaveEnd)

end Sys2Proof.Machine
end

