-- ==== Sys2Proof/Machine/PinsCmds.lean ====
section
/-!
DEFINITION. The commands of flex pins, triggers and serial units (chapter 15). Before each, time moves on to its edge.
-/
namespace Sys2Proof.Machine

/-- PIN_OWN_WRITE (R415). -/
def execPinOwnWrite (t src p v : Nat) (s : State) : Host.Outcome State Fault Refusal :=
  .next ((s.advance t).ctlWrite src (Reg.PIN_OWN p) (fun s => s.pinOwnWrite src p v))

/-- PIN_FUNC_WRITE (R416). -/
def execPinFuncWrite (t src p v : Nat) (s : State) : Host.Outcome State Fault Refusal :=
  .next ((s.advance t).ctlWrite src (Reg.PIN_FUNC p) (fun s => s.pinFuncWrite src p v))

/-- PIN_ELEC_WRITE (R409). -/
def execPinElecWrite (t src p v : Nat) (s : State) : Host.Outcome State Fault Refusal :=
  .next ((s.advance t).ctlWrite src (Reg.PIN_ELEC p) (fun s => s.pinElecWrite src p v))

/-- PIN_DRIVE_SWITCH (R419). -/
def execPinDriveSwitch (t p : Nat) (s : State) : Host.Outcome State Fault Refusal := .next ((s.advance t).driveSwitch p)

/-- PIN_ISEL_WRITE (R420). -/
def execPinIselWrite (t src i v : Nat) (s : State) : Host.Outcome State Fault Refusal :=
  .next ((s.advance t).ctlWrite src (Reg.PIN_ISEL i) (fun s => s.iselWrite src i v))

/-- PIN_OUT_WRITE (R417). -/
def execPinOutWrite (t src w v : Nat) (s : State) : Host.Outcome State Fault Refusal :=
  .next ((s.advance t).ctlWrite src (Reg.PIN_OUT w) (fun s => s.gpioWrite src (Reg.PIN_OUT w) w v))

/-- PIN_OE_WRITE (R417). -/
def execPinOeWrite (t src w v : Nat) (s : State) : Host.Outcome State Fault Refusal :=
  .next ((s.advance t).ctlWrite src (Reg.PIN_OE w) (fun s => s.gpioWrite src (Reg.PIN_OE w) w v))

/-- TRIGGER_INPUT_EDGE (R426): the source of channel `c` changes at rc edge `t`. -/
def execTriggerInputEdge (t c : Nat) (rising : Bool) (s : State) : Host.Outcome State Fault Refusal :=
  .next ((s.advance t).trigEdge c rising)

/-- TRIGGER_FIRE (R426): a write of TRIG_CH_CTL(c) with FIRE = 1; `v` gives the other bits. -/
def execTriggerFire (t src c v : Nat) (s : State) : Host.Outcome State Fault Refusal :=
  .next ((s.advance t).ctlWrite src (Reg.TRIG_CH_CTL c) (fun s => s.trigCtlWrite c (v ||| 2 ^ 30)))

/-- TRIG_TS_POP (R427): an 8-byte read of TRIG_TS_LO, part `p` of request `id`, is performed and answered. -/
def execTrigTsPop (t id p : Nat) (s : State) : Host.Outcome State Fault Refusal :=
  .next ((s.advance t).readAt id p (fun off len => len == 8 && (idxIn off (Reg.TRIG_TS_LO 0) 0x20 16).isSome))

/-- TRIG_ARM (R428): a write of TRIG_ARM_HI(c) with ARM = 1; `v` gives the other bits. -/
def execTrigArm (t src c v : Nat) (s : State) : Host.Outcome State Fault Refusal :=
  .next ((s.advance t).ctlWrite src (Reg.TRIG_ARM_HI c) (fun s => s.armWrite c (v ||| 2 ^ 31)))

/-- ARM_TIME_REACHED (R428). -/
def execArmTimeReached (t c : Nat) (s : State) : Host.Outcome State Fault Refusal := .next ((s.advance t).armReached c)

/-- PULSE_END (R428). -/
def execPulseEnd (t c : Nat) (s : State) : Host.Outcome State Fault Refusal := .next ((s.advance t).pulseEnd c)

/-- UART_DATA_WRITE (R430). -/
def execUartDataWrite (t src u v : Nat) (s : State) : Host.Outcome State Fault Refusal :=
  .next ((s.advance t).ctlWrite src (Reg.UART_DATA u) (fun s => s.uartPush u v))

/-- UART_DATA_READ (R430): a read of UART_DATA, part `p` of request `id`, is performed and answered. -/
def execUartDataRead (t id p : Nat) (s : State) : Host.Outcome State Fault Refusal :=
  .next ((s.advance t).readAt id p (fun off _ => (idxIn off (Reg.UART_DATA 0) 0x100 8).isSome))

/-- UART_RX_BYTE (R430). -/
def execUartRxByte (t u b : Nat) (ferr perr : Bool) (s : State) : Host.Outcome State Fault Refusal :=
  .next ((s.advance t).uartReceive u (BitVec.ofNat 8 b) ferr perr)

/-- UART_TX_BYTE_DONE (R430). -/
def execUartTxByteDone (t u : Nat) (s : State) : Host.Outcome State Fault Refusal := .next ((s.advance t).uartSent u)

/-- UART_CTS_CHANGE (R430). -/
def execUartCtsChange (t u : Nat) (cts : Bool) (s : State) : Host.Outcome State Fault Refusal := .next ((s.advance t).uartCts u cts)

/-- SPI_DATA_WRITE (R430). -/
def execSpiDataWrite (t src u v : Nat) (s : State) : Host.Outcome State Fault Refusal :=
  .next ((s.advance t).ctlWrite src (Reg.SPI_DATA u) (fun s => s.spiStart u v))

/-- SPI_TRANSFER_END (R430). -/
def execSpiTransferEnd (t u rx : Nat) (s : State) : Host.Outcome State Fault Refusal := .next ((s.advance t).spiEnd u rx)

/-- I2C_CMD (R430). -/
def execI2cCmd (t src u v : Nat) (s : State) : Host.Outcome State Fault Refusal :=
  .next ((s.advance t).ctlWrite src (Reg.I2C_CMD u) (fun s => s.i2cStart u v))

/-- I2C_COMMAND_END (R430). -/
def execI2cCommandEnd (t u : Nat) (lost ack : Bool) (rdata : Nat) (s : State) : Host.Outcome State Fault Refusal :=
  .next ((s.advance t).i2cEnd u lost ack rdata)

end Sys2Proof.Machine
end

