-- ==== Sys2Proof/Machine/PlanesCmds.lean ====
section
/-!
DEFINITION. The commands of switches, releases, isolations, banks and parked responses (chapter 03). Before each, time moves on to its edge.
-/
namespace Sys2Proof.Machine

/-- PLANE_PTR_WRITE (R84): the control node performs the write, and the request sets out for the beam. -/
def execPlanePtrWrite (t src r v : Nat) (s : State) : Host.Outcome State Fault Refusal :=
  .next ((s.advance t).ctlWrite src (Reg.PLANE_PTR r) (fun s => s.planePtrWrite r v))

/-- PLANE_CTL_RELEASE (R97): a PLANE_CTL write with RELEASE; `v` gives the other bits. -/
def execPlaneCtlRelease (t src r v : Nat) (s : State) : Host.Outcome State Fault Refusal :=
  .next ((s.advance t).ctlWrite src (Reg.PLANE_CTL r) (fun s => s.planeCtlWrite r (v ||| 1)))

/-- PLANE_CTL_ISOLATE (R96). -/
def execPlaneCtlIsolate (t src r v : Nat) (s : State) : Host.Outcome State Fault Refusal :=
  .next ((s.advance t).ctlWrite src (Reg.PLANE_CTL r) (fun s => s.planeCtlWrite r (v ||| 2)))

/-- PLANE_CTL_SET_SCHED (R83). -/
def execPlaneCtlSetSched (t src r v : Nat) (s : State) : Host.Outcome State Fault Refusal :=
  .next ((s.advance t).ctlWrite src (Reg.PLANE_CTL r) (fun s => s.planeCtlWrite r (v ||| 4)))

/-- PLANE_CTL_SET_DIRECT (R83). -/
def execPlaneCtlSetDirect (t src r v : Nat) (s : State) : Host.Outcome State Fault Refusal :=
  .next ((s.advance t).ctlWrite src (Reg.PLANE_CTL r) (fun s => s.planeCtlWrite r (v ||| 8)))

/-- PLANE_REQUEST_AT_BEAM (R543): a write has reached the beam; it is PENDING, and at its edge it is checked and applied. -/
def execPlaneRequestAtBeam (t r : Nat) (s : State) : Host.Outcome State Fault Refusal :=
  .next (((s.advance t).resolve r).showPending r)

/-- SWITCH (R79): the edge E0 of region `r` has come. -/
def execSwitch (t r : Nat) (s : State) : Host.Outcome State Fault Refusal := .next ((s.advance t).resolve r)

/-- REGION_RELEASE (R97): the edge L of a release has come. -/
def execRegionRelease (t r : Nat) (s : State) : Host.Outcome State Fault Refusal := .next ((s.advance t).resolve r)

/-- REGION_ISOLATION (R96): the edge I of an isolation has come. -/
def execRegionIsolation (t r : Nat) (s : State) : Host.Outcome State Fault Refusal := .next ((s.advance t).resolve r)

/-- STROBE_FIRE (R87): the source of slot `k` is sampled high at the fc edge of now, having been low. -/
def execStrobeFire (t r k : Nat) (s : State) : Host.Outcome State Fault Refusal := .next ((s.advance t).strobeFire r k)

/-- BANK_DISCARD (R75): a write of PLANE_BSTATE.DISCARD acts. -/
def execBankDiscard (t src r mask : Nat) (s : State) : Host.Outcome State Fault Refusal :=
  .next ((s.advance t).ctlWrite src (Reg.PLANE_BSTATE r) (fun s => s.addWrite r (.discard (mask % 16))))

/-- BANK_XFER_SAVE (R76, R77): PLANE_XFER_CTL.GO with DIR = 0. -/
def execBankXferSave (t src r b : Nat) (s : State) : Host.Outcome State Fault Refusal :=
  .next ((s.advance t).ctlWrite src (Reg.PLANE_XFER_CTL r) (fun s => s.xferWrite r b false))

/-- BANK_XFER_RESTORE (R76, R77): PLANE_XFER_CTL.GO with DIR = 1. -/
def execBankXferRestore (t src r b : Nat) (s : State) : Host.Outcome State Fault Refusal :=
  .next ((s.advance t).ctlWrite src (Reg.PLANE_XFER_CTL r) (fun s => s.xferWrite r b true))

/-- BANK_XFER_DONE (R77): the transfer of region `r` ends once its every flit has been answered. -/
def execBankXferDone (t r : Nat) (s : State) : Host.Outcome State Fault Refusal := .next ((s.advance t).xferDone r)

/-- PARKED_RESPONSE_DELIVERY (R101): the first parked response of the bound bank is taken at NOC_RSP. -/
def execParkedResponseDelivery (t r : Nat) (s : State) : Host.Outcome State Fault Refusal :=
  .next ((s.advance t).deliverParked r)

end Sys2Proof.Machine
end

