-- ==== Sys2Proof/Machine/PowerCmds.lean ====
section
/-!
DEFINITION. The commands of power domains, resets and modes (chapter 17). Before each, time moves on to its edge.
-/
namespace Sys2Proof.Machine

/-- PWR_DOM_OFF_WRITE (R452): a write of PWR_DOM_CTL(d) with ON = 0; `v` gives POLICY. -/
def execPwrDomOffWrite (t src d v : Nat) (s : State) : Host.Outcome State Fault Refusal :=
  .next ((s.advance t).ctlWrite src (Reg.PWR_DOM_CTL d) (fun s => s.domOffWrite d v))

/-- DOMAIN_DRAINING (R452). -/
def execDomainDraining (t d : Nat) (s : State) : Host.Outcome State Fault Refusal := .next ((s.advance t).domDrain d)

/-- DOMAIN_OFF (R453). -/
def execDomainOff (t d : Nat) (s : State) : Host.Outcome State Fault Refusal := .next ((s.boardAdvance t).domOff d)

/-- PWR_DOM_ON_WRITE (R456): a write of PWR_DOM_CTL(d) with ON = 1; `v` gives POLICY. -/
def execPwrDomOnWrite (t src d v : Nat) (s : State) : Host.Outcome State Fault Refusal :=
  .next ((s.advance t).ctlWrite src (Reg.PWR_DOM_CTL d) (fun s => s.domOnWrite d v))

/-- DOMAIN_ON (R457). -/
def execDomainOn (t d : Nat) (s : State) : Host.Outcome State Fault Refusal := .next ((s.boardAdvance t).domOn d)

/-- POWER_ON_RESET (R459). -/
def execPowerOnReset (t : Nat) (s : State) : Host.Outcome State Fault Refusal :=
  let s := s.advance t
  .next (s.powerOnReset s.pwr.tripped s.pwr.therm)

/-- DEVICE_RESET (R459): a write of RST_CTL with DEVICE = 1; `v` gives the other bits. -/
def execDeviceReset (t src v : Nat) (s : State) : Host.Outcome State Fault Refusal :=
  .next ((s.advance t).rstCtlWrite src (v ||| 2 ^ 31))

/-- WARM_RESET (R463): a write of RST_CTL with WARM = 1; `v` gives RETAIN and PERST_DEV. -/
def execWarmReset (t src v : Nat) (s : State) : Host.Outcome State Fault Refusal :=
  .next ((s.boardAdvance t).rstCtlWrite src (2 ^ 30 + v % 4))

/-- WARM_RESET_RELEASE (R463). -/
def execWarmResetRelease (t : Nat) (s : State) : Host.Outcome State Fault Refusal := .next ((s.advance t).warmRelease)

/-- DIE_RESET_ASSERT (R461): a write of RST_DIE(k) with HOLD = 1. -/
def execDieResetAssert (t src k : Nat) (s : State) : Host.Outcome State Fault Refusal :=
  .next ((s.advance t).ctlWrite src (Reg.RST_DIE k) (fun s => s.dieAssert src k))

/-- DIE_RESET_RELEASE (R461): a write of RST_DIE(k) with HOLD = 0 by `w`, or the end of the 16 sc of a release written early. -/
def execDieResetRelease (t k : Nat) (w : Option Nat) (s : State) : Host.Outcome State Fault Refusal :=
  let s := s.advance t
  .next (match w with
    | some src => s.ctlWrite src (Reg.RST_DIE k) (fun s => s.dieHoldOff src k)
    | none => s.dieRelease k)

/-- ROD_RESET_WRITE (R461). -/
def execRodResetWrite (t src n v : Nat) (s : State) : Host.Outcome State Fault Refusal :=
  .next ((s.advance t).ctlWrite src (Reg.RST_ROD n) (fun s => s.rodWrite n v))

/-- ROD_RESET_MIN_RELEASE (R461). -/
def execRodResetMinRelease (t n : Nat) (s : State) : Host.Outcome State Fault Refusal :=
  .next ([0, 1, 2].foldl (fun s j => s.rodRelease n j) (s.advance t))

/-- MODE_QUIESCE (R469): a write of PWR_MODE_CTL with QUIESCE = 1; `v` gives the other bits. -/
def execModeQuiesce (t src v : Nat) (s : State) : Host.Outcome State Fault Refusal :=
  .next ((s.advance t).ctlWrite src Reg.PWR_MODE_CTL (fun s => s.modeCtlWrite (v ||| 1) false))

/-- MODE_RESUME (R469). -/
def execModeResume (t src v : Nat) (s : State) : Host.Outcome State Fault Refusal :=
  .next ((s.advance t).ctlWrite src Reg.PWR_MODE_CTL (fun s => s.modeCtlWrite (v ||| 2) false))

/-- MODE_STANDBY (R470): `ok` says whether the ledger record is written. -/
def execModeStandby (t src v : Nat) (ok : Bool) (s : State) : Host.Outcome State Fault Refusal :=
  .next ((s.advance t).ctlWrite src Reg.PWR_MODE_CTL (fun s => s.modeCtlWrite (v ||| 4) ok))

/-- MODE_WAKE (R470). -/
def execModeWake (t src v : Nat) (s : State) : Host.Outcome State Fault Refusal :=
  .next ((s.advance t).ctlWrite src Reg.PWR_MODE_CTL (fun s => s.modeCtlWrite (v ||| 8) false))

/-- PERST_ASSERT (R464). -/
def execPerstAssert (t : Nat) (s : State) : Host.Outcome State Fault Refusal := .next ((s.advance t).perstAssert)

/-- PERST_RELEASE (R464). -/
def execPerstRelease (t : Nat) (s : State) : Host.Outcome State Fault Refusal := .next ((s.advance t).perstRelease)

end Sys2Proof.Machine
end

