-- ==== Sys2Proof/Machine/ScratchCmds.lean ====
section
/-!
DEFINITION. The commands of the scratch banks (chapter 08). Before each, time moves on to its edge.
-/
namespace Sys2Proof.Machine

/-- SCR_HANDOVER_WRITE (R239): the SCR block accepts the write at the sc edge H of now. -/
def execScrHandoverWrite (t src b v : Nat) (s : State) : Host.Outcome State Fault Refusal :=
  .next ((s.advance t).ctlWrite src (Reg.SCR_HANDOVER b) (fun s =>
    let ask : HoAsk := ⟨b, ownerCode src, none, v % 256, v.testBit 8, s.scEdge⟩
    { s with scr := { s.scr with asks := s.scr.asks ++ [ask] } }))

/-- HANDOVER_EVALUATE (R239, R240). -/
def execHandoverEvaluate (t b : Nat) (s : State) : Host.Outcome State Fault Refusal := .next ((s.advance t).evaluateHandover b)

/-- DRAIN_MARKER_ARRIVAL (R241). -/
def execDrainMarkerArrival (t id p : Nat) (s : State) : Host.Outcome State Fault Refusal :=
  .next ((s.advance t).markerArrival id p)

/-- SCRATCH_CLEAR_DONE (R242). -/
def execScratchClearDone (t b : Nat) (s : State) : Host.Outcome State Fault Refusal := .next ((s.advance t).clearDone b)

/-- HANDOVER_TIMEOUT (R243). -/
def execHandoverTimeout (t b : Nat) (s : State) : Host.Outcome State Fault Refusal := .next ((s.advance t).handoverTimeout b)

/-- SCRATCH_ACCESS (R238): the part reaches its bank; the ports serve what waits at each nc edge (R246, R247). -/
def execScratchAccess (t id p _port : Nat) (s : State) : Host.Outcome State Fault Refusal :=
  .next ((s.advance t).scratchAccess id p)

/-- SCRATCH_CORRECTED_WRITEBACK (R249). -/
def execScratchCorrectedWriteback (t b : Nat) (s : State) : Host.Outcome State Fault Refusal :=
  .next ((s.advance t).scratchWriteback b)

end Sys2Proof.Machine
end

