-- ==== Sys2Proof/Machine/ScrubCmds.lean ====
section
/-!
DEFINITION. The commands of the scrubber (chapter 11). Before each, time moves on to its edge.
-/
namespace Sys2Proof.Machine

/-- SCRUB_GO (R324): a write of SCRUB_CTL with GO and KIND. -/
def execScrubGo (t src kind : Nat) (s : State) : Host.Outcome State Fault Refusal :=
  .next ((s.advance t).ctlWrite src Reg.SCRUB_CTL (fun s => s.scrubCtlWrite (0x80000000 + kind % 4)))

/-- SCRUB_CANCEL (R328): a write of SCRUB_CTL with CANCEL and KIND. -/
def execScrubCancel (t src kind : Nat) (s : State) : Host.Outcome State Fault Refusal :=
  .next ((s.advance t).ctlWrite src Reg.SCRUB_CTL (fun s => s.scrubCtlWrite (0x40000000 + kind % 4)))

/-- SCRUB_REQUEST_SEND (R325). -/
def execScrubRequestSend (t : Nat) (s : State) : Host.Outcome State Fault Refusal := .next (((s.advance t).scrubInbox).scrubSend)

/-- SCRUB_REQUEST_AT_TARGET (R325). -/
def execScrubRequestAtTarget (t id p : Nat) (s : State) : Host.Outcome State Fault Refusal := .next ((s.advance t).scrubAtTarget id p)

/-- SCRUB_ANSWER (R328): the answer to part `p` of the scrubber's request `id` arrives. -/
def execScrubAnswer (t id p : Nat) (s : State) : Host.Outcome State Fault Refusal := .next (((s.advance t).arriveResp id p).scrubInbox)

end Sys2Proof.Machine
end

