-- ==== Sys2Proof/Machine/StackCmds.lean ====
section
/-!
DEFINITION. The commands of stack health (chapter 18). Before each, time moves on to its edge.
-/
namespace Sys2Proof.Machine

/-- SWEEP_START (R479). -/
def execSweepStart (t : Nat) (s : State) : Host.Outcome State Fault Refusal := .next ((s.advance t).periodicSweep)

/-- STACK_CHECK_NOW (R479): a write of STACK_CTL with CHECK_NOW = 1; `v` gives RC_DEFER and CHECK_EN. -/
def execStackCheckNow (t src v : Nat) (s : State) : Host.Outcome State Fault Refusal :=
  .next ((s.advance t).ctlWrite src Reg.STACK_CTL (fun s => s.stackCtlWrite (2 ^ 31 + v % 4) false))

/-- GROUP_OBSERVATION_END (R480). -/
def execGroupObservationEnd (t g : Nat) (faults : List (Nat × Nat)) (s : State) : Host.Outcome State Fault Refusal :=
  .next ((s.boardAdvance t).observe g faults)

/-- PAUSE_END (R481). -/
def execPauseEnd (t g : Nat) (s : State) : Host.Outcome State Fault Refusal := .next ((s.advance t).pauseEnd g)

/-- DEFERRED_PAUSE_START (R482). -/
def execDeferredPauseStart (t g : Nat) (s : State) : Host.Outcome State Fault Refusal := .next ((s.advance t).deferredStart g)

/-- FUSE_BLOW (R477). -/
def execFuseBlow (t g v : Nat) (s : State) : Host.Outcome State Fault Refusal := .next ((s.advance t).fuseBlow g v)

/-- WEAR_SAMPLE (R486). -/
def execWearSample (t : Nat) (temps : List Nat) (s : State) : Host.Outcome State Fault Refusal := .next ((s.advance t).wearSample temps)

/-- LEDGER_RECORD_WRITE (R488). -/
def execLedgerRecordWrite (t : Nat) (ok : Bool) (s : State) : Host.Outcome State Fault Refusal := .next ((s.advance t).hourlyRecord ok)

/-- STACK_SAVE (R488): a write of STACK_CTL with SAVE = 1; `v` gives the other bits. -/
def execStackSave (t src v : Nat) (ok : Bool) (s : State) : Host.Outcome State Fault Refusal :=
  .next ((s.advance t).ctlWrite src Reg.STACK_CTL (fun s => s.stackCtlWrite (v ||| 0x40000000) ok))

end Sys2Proof.Machine
end

