-- ==== Sys2Proof/Machine/StoreCmds.lean ====
section
/-!
DEFINITION. The commands of the image store and the boot selection (chapter 04). Before each, time moves on to its edge.
-/
namespace Sys2Proof.Machine

/-- LOAD_SOURCE_RESPONSE (R123): part `p` of request `id` answers, and the load takes the responses that its interface has. -/
def execLoadSourceResponse (t id p : Nat) (s : State) : Host.Outcome State Fault Refusal :=
  .next (((s.advance t).arriveResp id p).loaderInbox)

/-- SETTINGS_RECORD_WRITE (R129). -/
def execSettingsRecordWrite (t : Nat) (s : State) : Host.Outcome State Fault Refusal :=
  .next (((s.advance t).loaderInbox).applyNext)

/-- CFG_BOOT_SEL_WRITE (R140). -/
def execCfgBootSelWrite (t src v : Nat) (s : State) : Host.Outcome State Fault Refusal :=
  .next ((s.advance t).ctlWrite src Reg.CFG_BOOT_SEL (fun s => s.bootSelWrite v))

/-- STORE_READ (R137): a write of CFG_STORE_CTL with GO and OP READ; `slot` gives SLOT. -/
def execStoreRead (t src slot : Nat) (s : State) : Host.Outcome State Fault Refusal :=
  .next ((s.advance t).ctlWrite src Reg.CFG_STORE_CTL (fun s => s.storeCtlWrite (2 ^ 31 + slot % 4 * 2 ^ 8)))

/-- STORE_WRITE (R137). -/
def execStoreWrite (t src slot : Nat) (s : State) : Host.Outcome State Fault Refusal :=
  .next ((s.advance t).ctlWrite src Reg.CFG_STORE_CTL (fun s => s.storeCtlWrite (2 ^ 31 + slot % 4 * 2 ^ 8 + 1)))

/-- GOLDEN_UNLOCK_WRITE (R136): UNLOCK written 1. -/
def execGoldenUnlockWrite (t src : Nat) (s : State) : Host.Outcome State Fault Refusal := .next ((s.advance t).goldenWrite src 2)

/-- MBOX_UNLOCK_GOLDEN (R233). -/
def execMboxUnlockGolden (t : Nat) (s : State) : Host.Outcome State Fault Refusal := .next ((s.advance t).unlockGolden)

end Sys2Proof.Machine
end

