-- ==== Sys2Proof/Machine/SystemCmds.lean ====
section
/-!
DEFINITION. The commands of every block: control register writes, the step phase and responses (R404, R545, R276). Before each, time moves on to its edge.
-/
namespace Sys2Proof.Machine

/-- CONTROL_REGISTER_WRITE (R545): part `p` of request `id`; `ok` says whether a ledger record that it asks for is written (R488). -/
def execControlRegisterWrite (t id p : Nat) (ok : Bool) (s : State) : Host.Outcome State Fault Refusal :=
  .next ((s.advance t).controlWrite id p ok)

/-- SEQUENCER_STEP_PHASE (R404). -/
def execSequencerStepPhase (t trained failed : Nat) (s : State) : Host.Outcome State Fault Refusal :=
  .next (((s.advance t).loaderInbox).stepPhase trained failed)

/-- NOC_RESPONSE_ARRIVAL (R276): the response to part `p` of request `id` reaches its initiator. -/
def execNocResponseArrival (t id p : Nat) (s : State) : Host.Outcome State Fault Refusal :=
  let s := s.advance t
  .next ((s.arriveResp id p).takeResponses (s.srcOf id) (s.bypassOf id p))

end Sys2Proof.Machine
end

