-- ==== Sys2Proof/Machine/TallyCmds.lean ====
section
/-!
DEFINITION. The commands of the tally scheduler and of speculation (chapters 05 and 06). Before each, time moves on to its edge.
-/
namespace Sys2Proof.Machine

/-- TALLY_CREATE (R154): part `p` of read `id` is performed at the create window. -/
def execTallyCreate (t id p : Nat) (s : State) : Host.Outcome State Fault Refusal := .next ((s.advance t).createRead id p)

/-- TP_TOKEN (R160): region `r` presents a token at its token output. -/
def execTpToken (t r handle slot value : Nat) (poison : Bool) (s : State) : Host.Outcome State Fault Refusal :=
  .next ((s.advance t).regionToken r ⟨handle % 2 ^ 28, slot % 4, BitVec.ofNat 64 value, poison⟩)

/-- TOKEN_MATCH (R157): the matching store takes a token; `miss` says whether its record must be fetched (R159). -/
def execTokenMatch (t : Nat) (miss : Bool) (s : State) : Host.Outcome State Fault Refusal :=
  .next ((s.advance t).takeToken miss)

/-- RECORD_FETCH_DONE (R159). -/
def execRecordFetchDone (t src : Nat) (s : State) : Host.Outcome State Fault Refusal := .next ((s.advance t).fetchDone src)

/-- SCHEDULER_DECISION (R164): the decisions of the sc edge of now. -/
def execSchedulerDecision (t : Nat) (s : State) : Host.Outcome State Fault Refusal := .next ((s.advance t).decisions)

/-- DISPATCH_AT_BEAM (R166). -/
def execDispatchAtBeam (t r : Nat) (s : State) : Host.Outcome State Fault Refusal := .next ((s.advance t).dispatchAtBeam r)

/-- TASK_DONE (R161): TP_DONE is high in region `r`, and no token waits at its output. -/
def execTaskDone (t r : Nat) (s : State) : Host.Outcome State Fault Refusal := .next ((s.advance t).taskDone r)

/-- TALLY_SPILL_ACK_WRITE (R172, R173): a write with ACK = 1. -/
def execTallySpillAckWrite (t src n outcome : Nat) (s : State) : Host.Outcome State Fault Refusal :=
  .next ((s.advance t).ctlWrite src (Reg.TALLY_SPILL_ACK n) (fun s => s.spillAck n (outcome % 16)))

/-- TALLY_CANCEL_WRITE (R174): the cancel takes effect at the sc edge at which the write is performed. -/
def execTallyCancelWrite (t src handle : Nat) (s : State) : Host.Outcome State Fault Refusal :=
  .next ((s.advance t).ctlWrite src Reg.TALLY_CANCEL (fun s => s.addCancel .reg handle (s.now / scLen * scLen)))

/-- CANCEL_EVALUATE (R174). -/
def execCancelEvaluate (t : Nat) (s : State) : Host.Outcome State Fault Refusal := .next ((s.advance t).evaluateCancel)

/-- TALLY_REGION_QUIESCE_WRITE (R177). -/
def execTallyRegionQuiesceWrite (t src r : Nat) (v : Bool) (s : State) : Host.Outcome State Fault Refusal :=
  .next ((s.advance t).ctlWrite src (Reg.TALLY_REGION r) (fun s => s.quiesceWrite r v))

/-- SCHEDULER_ISOLATION (R177): the edge I of an isolation that the scheduler requested. -/
def execSchedulerIsolation (t r : Nat) (s : State) : Host.Outcome State Fault Refusal := .next ((s.advance t).schedIsolate r)

/-- TEMPLATE_ENABLE (R152): a write of word 0 with EN = 1; `v` gives the other bits. -/
def execTemplateEnable (t src tm v : Nat) (s : State) : Host.Outcome State Fault Refusal :=
  .next ((s.advance t).ctlWrite src (Reg.TALLY_TMPL_CTL tm) (fun s => s.templateWrite tm (v % 2 ^ 31 + 2 ^ 31)))

/-- TEMPLATE_DISABLE (R152): a write of word 0 with EN = 0. -/
def execTemplateDisable (t src tm v : Nat) (s : State) : Host.Outcome State Fault Refusal :=
  .next ((s.advance t).ctlWrite src (Reg.TALLY_TMPL_CTL tm) (fun s => s.templateWrite tm (v % 2 ^ 31)))

/-- SPEC_COMMIT_AT_REGION (R191): the edge M of region `r` has come. -/
def execSpecCommitAtRegion (t r : Nat) (s : State) : Host.Outcome State Fault Refusal := .next ((s.advance t).commitAtRegion r)

/-- COMMIT_BUFFER_RELEASE (R191). -/
def execCommitBufferRelease (t r : Nat) (s : State) : Host.Outcome State Fault Refusal := .next ((s.advance t).bufferRelease r)

/-- SPEC_WINDOW_EXPIRY (R193). -/
def execSpecWindowExpiry (t r : Nat) (s : State) : Host.Outcome State Fault Refusal := .next ((s.advance t).windowExpiry r)

/-- SQUASH_SWITCH (R198). -/
def execSquashSwitch (t r : Nat) (s : State) : Host.Outcome State Fault Refusal := .next ((s.advance t).squashSwitch r)

end Sys2Proof.Machine
end

