-- ==== Sys2Proof/Machine/Dispatch.lean ====
section
/-!
DEFINITION. The dispatcher: one arm for each command, a direct call of its meaning.
-/
namespace Sys2Proof.Machine

def exec (i : Instr) (s : State) : Host.Outcome State Fault Refusal :=
  match i with
  | .controlRegisterWrite t id p ok => Sys2Proof.Machine.execControlRegisterWrite t id p ok s
  | .nocRequestAccept t src stream code addr len data marks tag => Sys2Proof.Machine.execNocRequestAccept t src stream code addr len data marks tag s
  | .interfaceSelfAnswer t id => Sys2Proof.Machine.execInterfaceSelfAnswer t id s
  | .uclkWrite t src r k v => Sys2Proof.Machine.execUclkWrite t src r k v s
  | .uclkApply t r k => Sys2Proof.Machine.execUclkApply t r k s
  | .deckRamWindowAccess t id p => Sys2Proof.Machine.execDeckRamWindowAccess t id p s
  | .deckRamWindowRowServe t r k port => Sys2Proof.Machine.execDeckRamWindowRowServe t r k port s
  | .deckRamWindowTimeout t id p => Sys2Proof.Machine.execDeckRamWindowTimeout t id p s
  | .deckRamPortAccess t r k port a w => Sys2Proof.Machine.execDeckRamPortAccess t r k port a w s
  | .planePtrWrite t src r v => Sys2Proof.Machine.execPlanePtrWrite t src r v s
  | .planeCtlRelease t src r v => Sys2Proof.Machine.execPlaneCtlRelease t src r v s
  | .planeCtlIsolate t src r v => Sys2Proof.Machine.execPlaneCtlIsolate t src r v s
  | .planeCtlSetSched t src r v => Sys2Proof.Machine.execPlaneCtlSetSched t src r v s
  | .planeCtlSetDirect t src r v => Sys2Proof.Machine.execPlaneCtlSetDirect t src r v s
  | .planeRequestAtBeam t r => Sys2Proof.Machine.execPlaneRequestAtBeam t r s
  | .switch t r => Sys2Proof.Machine.execSwitch t r s
  | .regionRelease t r => Sys2Proof.Machine.execRegionRelease t r s
  | .regionIsolation t r => Sys2Proof.Machine.execRegionIsolation t r s
  | .strobeFire t r k => Sys2Proof.Machine.execStrobeFire t r k s
  | .bankDiscard t src r mask => Sys2Proof.Machine.execBankDiscard t src r mask s
  | .bankXferSave t src r b => Sys2Proof.Machine.execBankXferSave t src r b s
  | .bankXferRestore t src r b => Sys2Proof.Machine.execBankXferRestore t src r b s
  | .bankXferDone t r => Sys2Proof.Machine.execBankXferDone t r s
  | .nocResponseArrival t id p => Sys2Proof.Machine.execNocResponseArrival t id p s
  | .parkedResponseDelivery t r => Sys2Proof.Machine.execParkedResponseDelivery t r s
  | .loadGo t src v => Sys2Proof.Machine.execLoadGo t src v s
  | .loadVerifyGo t src v => Sys2Proof.Machine.execLoadVerifyGo t src v s
  | .loadCancel t src v => Sys2Proof.Machine.execLoadCancel t src v s
  | .sequencerStepPhase t trained failed => Sys2Proof.Machine.execSequencerStepPhase t trained failed s
  | .sequencerServiceTurn t => Sys2Proof.Machine.execSequencerServiceTurn t s
  | .loadSourceResponse t id p => Sys2Proof.Machine.execLoadSourceResponse t id p s
  | .settingsRecordWrite t => Sys2Proof.Machine.execSettingsRecordWrite t s
  | .cfgBootSelWrite t src v => Sys2Proof.Machine.execCfgBootSelWrite t src v s
  | .storeRead t src slot => Sys2Proof.Machine.execStoreRead t src slot s
  | .storeWrite t src slot => Sys2Proof.Machine.execStoreWrite t src slot s
  | .goldenUnlockWrite t src => Sys2Proof.Machine.execGoldenUnlockWrite t src s
  | .tallyCreate t id p => Sys2Proof.Machine.execTallyCreate t id p s
  | .tpToken t r handle slot value poison => Sys2Proof.Machine.execTpToken t r handle slot value poison s
  | .tokenMatch t miss => Sys2Proof.Machine.execTokenMatch t miss s
  | .recordFetchDone t src => Sys2Proof.Machine.execRecordFetchDone t src s
  | .schedulerDecision t => Sys2Proof.Machine.execSchedulerDecision t s
  | .dispatchAtBeam t r => Sys2Proof.Machine.execDispatchAtBeam t r s
  | .taskDone t r => Sys2Proof.Machine.execTaskDone t r s
  | .tallySpillAckWrite t src n outcome => Sys2Proof.Machine.execTallySpillAckWrite t src n outcome s
  | .tallyCancelWrite t src handle => Sys2Proof.Machine.execTallyCancelWrite t src handle s
  | .cancelEvaluate t => Sys2Proof.Machine.execCancelEvaluate t s
  | .tallyRegionQuiesceWrite t src r v => Sys2Proof.Machine.execTallyRegionQuiesceWrite t src r v s
  | .schedulerIsolation t r => Sys2Proof.Machine.execSchedulerIsolation t r s
  | .templateEnable t src tm v => Sys2Proof.Machine.execTemplateEnable t src tm v s
  | .templateDisable t src tm v => Sys2Proof.Machine.execTemplateDisable t src tm v s
  | .specCommitAtRegion t r => Sys2Proof.Machine.execSpecCommitAtRegion t r s
  | .commitBufferRelease t r => Sys2Proof.Machine.execCommitBufferRelease t r s
  | .specWindowExpiry t r => Sys2Proof.Machine.execSpecWindowExpiry t r s
  | .squashSwitch t r => Sys2Proof.Machine.execSquashSwitch t r s
  | .xqPost t n => Sys2Proof.Machine.execXqPost t n s
  | .xqWait t n => Sys2Proof.Machine.execXqWait t n s
  | .waitEnd t n => Sys2Proof.Machine.execWaitEnd t n s
  | .xqDone t n => Sys2Proof.Machine.execXqDone t n s
  | .engineDoneReport t n => Sys2Proof.Machine.execEngineDoneReport t n s
  | .xqCancel t n => Sys2Proof.Machine.execXqCancel t n s
  | .xqPsel t n => Sys2Proof.Machine.execXqPsel t n s
  | .pselResult t n => Sys2Proof.Machine.execPselResult t n s
  | .xqSacq t n => Sys2Proof.Machine.execXqSacq t n s
  | .xqSrel t n => Sys2Proof.Machine.execXqSrel t n s
  | .xqPtest t n => Sys2Proof.Machine.execXqPtest t n s
  | .xqLd64 t n => Sys2Proof.Machine.execXqLd64 t n s
  | .xqSd64 t n => Sys2Proof.Machine.execXqSd64 t n s
  | .engineInstruction t n => Sys2Proof.Machine.execEngineInstruction t n s
  | .engineLoad t n => Sys2Proof.Machine.execEngineLoad t n s
  | .engineLoadResponse t n id p => Sys2Proof.Machine.execEngineLoadResponse t n id p s
  | .engineStore t n => Sys2Proof.Machine.execEngineStore t n s
  | .engineAmo t n => Sys2Proof.Machine.execEngineAmo t n s
  | .engineFence t n => Sys2Proof.Machine.execEngineFence t n s
  | .engineFenceI t n => Sys2Proof.Machine.execEngineFenceI t n s
  | .instructionFetchLine t n id p pre => Sys2Proof.Machine.execInstructionFetchLine t n id p pre s
  | .engineInterrupt t n => Sys2Proof.Machine.execEngineInterrupt t n s
  | .engineTimerExpiry t n => Sys2Proof.Machine.execEngineTimerExpiry t n s
  | .engineReset t src n v => Sys2Proof.Machine.execEngineReset t src n v s
  | .engineRun t src n => Sys2Proof.Machine.execEngineRun t src n s
  | .engineHalt t src n => Sys2Proof.Machine.execEngineHalt t src n s
  | .engMboxInWrite t src n v => Sys2Proof.Machine.execEngMboxInWrite t src n v s
  | .engMboxOutWrite t src n v => Sys2Proof.Machine.execEngMboxOutWrite t src n v s
  | .mboxNonce t => Sys2Proof.Machine.execMboxNonce t s
  | .mboxUnlockGolden t => Sys2Proof.Machine.execMboxUnlockGolden t s
  | .scrHandoverWrite t src b v => Sys2Proof.Machine.execScrHandoverWrite t src b v s
  | .handoverEvaluate t b => Sys2Proof.Machine.execHandoverEvaluate t b s
  | .drainMarkerArrival t id p => Sys2Proof.Machine.execDrainMarkerArrival t id p s
  | .scratchClearDone t b => Sys2Proof.Machine.execScratchClearDone t b s
  | .handoverTimeout t b => Sys2Proof.Machine.execHandoverTimeout t b s
  | .scratchAccess t id p port => Sys2Proof.Machine.execScratchAccess t id p port s
  | .scratchCorrectedWriteback t b => Sys2Proof.Machine.execScratchCorrectedWriteback t b s
  | .flitArrival t n p f lost => Sys2Proof.Machine.execFlitArrival t n p f lost s
  | .linkNak t n p q => Sys2Proof.Machine.execLinkNak t n p q s
  | .linkAck t n p q => Sys2Proof.Machine.execLinkAck t n p q s
  | .linkAckSend t n p => Sys2Proof.Machine.execLinkAckSend t n p s
  | .bucketLeak t n p => Sys2Proof.Machine.execBucketLeak t n p s
  | .linkDeath t n p lost => Sys2Proof.Machine.execLinkDeath t n p lost s
  | .nocLinkRetireWrite t src n p => Sys2Proof.Machine.execNocLinkRetireWrite t src n p s
  | .nocRecompute t src => Sys2Proof.Machine.execNocRecompute t src s
  | .nocFlip t src => Sys2Proof.Machine.execNocFlip t src s
  | .flipComplete t => Sys2Proof.Machine.execFlipComplete t s
  | .nocLimitWrite t src init v => Sys2Proof.Machine.execNocLimitWrite t src init v s
  | .nocRtWrite t src n b d hi v => Sys2Proof.Machine.execNocRtWrite t src n b d hi v s
  | .targetLimitTimeout t id p => Sys2Proof.Machine.execTargetLimitTimeout t id p s
  | .initiatorTimeout t id => Sys2Proof.Machine.execInitiatorTimeout t id s
  | .statSnap t src => Sys2Proof.Machine.execStatSnap t src s
  | .fenceAccept t src stream tag => Sys2Proof.Machine.execFenceAccept t src stream tag s
  | .fencePacketAtTarget t id p => Sys2Proof.Machine.execFencePacketAtTarget t id p s
  | .fenceComplete t id => Sys2Proof.Machine.execFenceComplete t id s
  | .writeFailureAckArrival t id p => Sys2Proof.Machine.execWriteFailureAckArrival t id p s
  | .cacheRequest t id p => Sys2Proof.Machine.execCacheRequest t id p s
  | .cacheFillResponse t id p => Sys2Proof.Machine.execCacheFillResponse t id p s
  | .cacheCorrectedWriteback t n w => Sys2Proof.Machine.execCacheCorrectedWriteback t n w s
  | .cacheCmdFlush t src v => Sys2Proof.Machine.execCacheCmdFlush t src v s
  | .cacheCmdFlushInv t src v => Sys2Proof.Machine.execCacheCmdFlushInv t src v s
  | .cacheCmdSetuse t src v => Sys2Proof.Machine.execCacheCmdSetuse t src v s
  | .scrubGo t src kind => Sys2Proof.Machine.execScrubGo t src kind s
  | .scrubCancel t src kind => Sys2Proof.Machine.execScrubCancel t src kind s
  | .scrubRequestSend t => Sys2Proof.Machine.execScrubRequestSend t s
  | .scrubRequestAtTarget t id p => Sys2Proof.Machine.execScrubRequestAtTarget t id p s
  | .scrubAnswer t id p => Sys2Proof.Machine.execScrubAnswer t id p s
  | .remapSetMove t n => Sys2Proof.Machine.execRemapSetMove t n s
  | .cacheFillMode t => Sys2Proof.Machine.execCacheFillMode t s
  | .fillEnd t => Sys2Proof.Machine.execFillEnd t s
  | .emcTrain t src c v => Sys2Proof.Machine.execEmcTrain t src c v s
  | .emcMap t src v => Sys2Proof.Machine.execEmcMap t src v s
  | .emcRequest t id p => Sys2Proof.Machine.execEmcRequest t id p s
  | .forwardAnswer t id p => Sys2Proof.Machine.execForwardAnswer t id p s
  | .dramReadComplete t id p => Sys2Proof.Machine.execDramReadComplete t id p s
  | .emcFillGo t src => Sys2Proof.Machine.execEmcFillGo t src s
  | .emcFillCancel t src => Sys2Proof.Machine.execEmcFillCancel t src s
  | .xtsRangeEnable t src j v => Sys2Proof.Machine.execXtsRangeEnable t src j v s
  | .xtsRangeDisable t src j v => Sys2Proof.Machine.execXtsRangeDisable t src j v s
  | .xtsKeyStageWrite t src q v => Sys2Proof.Machine.execXtsKeyStageWrite t src q v s
  | .xtsKeyLoadCur t src key idx => Sys2Proof.Machine.execXtsKeyLoadCur t src key idx s
  | .xtsKeyLoadNew t src key idx => Sys2Proof.Machine.execXtsKeyLoadNew t src key idx s
  | .xtsKeyLoadSlot t src key idx => Sys2Proof.Machine.execXtsKeyLoadSlot t src key idx s
  | .xtsKeyLoadLink t src key idx => Sys2Proof.Machine.execXtsKeyLoadLink t src key idx s
  | .xtsRotGo t src j => Sys2Proof.Machine.execXtsRotGo t src j s
  | .laneEnable t src l v => Sys2Proof.Machine.execLaneEnable t src l v s
  | .laneDisable t src l v => Sys2Proof.Machine.execLaneDisable t src l v s
  | .laneCalDone t l => Sys2Proof.Machine.execLaneCalDone t l s
  | .laneProfGo t src l p => Sys2Proof.Machine.execLaneProfGo t src l p s
  | .lprofReq t l sel => Sys2Proof.Machine.execLprofReq t l sel s
  | .profDone t l => Sys2Proof.Machine.execProfDone t l s
  | .laneRealign t src l p => Sys2Proof.Machine.execLaneRealign t src l p s
  | .laneSlip t src l p => Sys2Proof.Machine.execLaneSlip t src l p s
  | .signalDetect t l => Sys2Proof.Machine.execSignalDetect t l s
  | .signalLoss t l => Sys2Proof.Machine.execSignalLoss t l s
  | .rxLock t l => Sys2Proof.Machine.execRxLock t l s
  | .rxLockLost t l => Sys2Proof.Machine.execRxLockLost t l s
  | .laneRxWord t l u corr unc data side err => Sys2Proof.Machine.execLaneRxWord t l u corr unc data side err s
  | .forwardStop t l => Sys2Proof.Machine.execForwardStop t l s
  | .laneTxRetimed t l => Sys2Proof.Machine.execLaneTxRetimed t l s
  | .laneTxAccept t l data side => Sys2Proof.Machine.execLaneTxAccept t l data side s
  | .laneTxSlot t l u eidle => Sys2Proof.Machine.execLaneTxSlot t l u eidle s
  | .substitutionAccept t l mode seq data side => Sys2Proof.Machine.execSubstitutionAccept t l mode seq data side s
  | .captureEnable t src l v => Sys2Proof.Machine.execCaptureEnable t src l v s
  | .captureWrite t l => Sys2Proof.Machine.execCaptureWrite t l s
  | .hostConfigRequest t d w => Sys2Proof.Machine.execHostConfigRequest t d w s
  | .bar0Read t tag off len => Sys2Proof.Machine.execBar0Read t tag off len s
  | .bar0Write t off data ep => Sys2Proof.Machine.execBar0Write t off data ep s
  | .bar2Read t tag off len => Sys2Proof.Machine.execBar2Read t tag off len s
  | .bar2Write t off data ep => Sys2Proof.Machine.execBar2Write t off data ep s
  | .bar4TableWrite t off v => Sys2Proof.Machine.execBar4TableWrite t off v s
  | .sqTailDoorbell t q v => Sys2Proof.Machine.execSqTailDoorbell t q v s
  | .cqHeadDoorbell t q v => Sys2Proof.Machine.execCqHeadDoorbell t q v s
  | .descriptorFetchResponse t q idx status bytes => Sys2Proof.Machine.execDescriptorFetchResponse t q idx status bytes s
  | .descNop t q => Sys2Proof.Machine.execDescNop t q s
  | .descCopy t q => Sys2Proof.Machine.execDescCopy t q s
  | .descRegseq t q => Sys2Proof.Machine.execDescRegseq t q s
  | .descToken t q => Sys2Proof.Machine.execDescToken t q s
  | .descCancel t q => Sys2Proof.Machine.execDescCancel t q s
  | .descCreate t q => Sys2Proof.Machine.execDescCreate t q s
  | .descFence t q => Sys2Proof.Machine.execDescFence t q s
  | .legacyNop t q => Sys2Proof.Machine.execLegacyNop t q s
  | .legacyCopy t q => Sys2Proof.Machine.execLegacyCopy t q s
  | .legacyRegwr t q => Sys2Proof.Machine.execLegacyRegwr t q s
  | .legacyFence t q => Sys2Proof.Machine.execLegacyFence t q s
  | .copyComplete t d => Sys2Proof.Machine.execCopyComplete t d s
  | .regseqPollTimeout t q => Sys2Proof.Machine.execRegseqPollTimeout t q s
  | .completionWrite t q => Sys2Proof.Machine.execCompletionWrite t q s
  | .blockIrqEdge t k => Sys2Proof.Machine.execBlockIrqEdge t k s
  | .hostQueueEnable t src q v => Sys2Proof.Machine.execHostQueueEnable t src q v s
  | .hostQueueDisable t src q v => Sys2Proof.Machine.execHostQueueDisable t src q v s
  | .queueDrained t q => Sys2Proof.Machine.execQueueDrained t q s
  | .hostRetrain t src v => Sys2Proof.Machine.execHostRetrain t src v s
  | .hostLinkDown t => Sys2Proof.Machine.execHostLinkDown t s
  | .perstAssert t => Sys2Proof.Machine.execPerstAssert t s
  | .perstRelease t => Sys2Proof.Machine.execPerstRelease t s
  | .hostWinEnable t src k v => Sys2Proof.Machine.execHostWinEnable t src k v s
  | .hostWinBaseWrite t src k v => Sys2Proof.Machine.execHostWinBaseWrite t src k v s
  | .pinOwnWrite t src p v => Sys2Proof.Machine.execPinOwnWrite t src p v s
  | .pinFuncWrite t src p v => Sys2Proof.Machine.execPinFuncWrite t src p v s
  | .pinElecWrite t src p v => Sys2Proof.Machine.execPinElecWrite t src p v s
  | .pinDriveSwitch t p => Sys2Proof.Machine.execPinDriveSwitch t p s
  | .pinIselWrite t src q v => Sys2Proof.Machine.execPinIselWrite t src q v s
  | .pinOutWrite t src w v => Sys2Proof.Machine.execPinOutWrite t src w v s
  | .pinOeWrite t src w v => Sys2Proof.Machine.execPinOeWrite t src w v s
  | .triggerInputEdge t c rising => Sys2Proof.Machine.execTriggerInputEdge t c rising s
  | .triggerFire t src c v => Sys2Proof.Machine.execTriggerFire t src c v s
  | .trigTsPop t id p => Sys2Proof.Machine.execTrigTsPop t id p s
  | .trigArm t src c v => Sys2Proof.Machine.execTrigArm t src c v s
  | .armTimeReached t c => Sys2Proof.Machine.execArmTimeReached t c s
  | .pulseEnd t c => Sys2Proof.Machine.execPulseEnd t c s
  | .uartDataWrite t src u v => Sys2Proof.Machine.execUartDataWrite t src u v s
  | .uartDataRead t id p => Sys2Proof.Machine.execUartDataRead t id p s
  | .uartRxByte t u b ferr perr => Sys2Proof.Machine.execUartRxByte t u b ferr perr s
  | .uartTxByteDone t u => Sys2Proof.Machine.execUartTxByteDone t u s
  | .spiDataWrite t src u v => Sys2Proof.Machine.execSpiDataWrite t src u v s
  | .spiTransferEnd t u rx => Sys2Proof.Machine.execSpiTransferEnd t u rx s
  | .i2cCmd t src u v => Sys2Proof.Machine.execI2cCmd t src u v s
  | .i2cCommandEnd t u lost ack rdata => Sys2Proof.Machine.execI2cCommandEnd t u lost ack rdata s
  | .clockTrip t cause => Sys2Proof.Machine.execClockTrip t cause s
  | .fallbackStart t => Sys2Proof.Machine.execFallbackStart t s
  | .autoReturn t => Sys2Proof.Machine.execAutoReturn t s
  | .referenceReady t k => Sys2Proof.Machine.execReferenceReady t k s
  | .clkSrcGo t src sel => Sys2Proof.Machine.execClkSrcGo t src sel s
  | .sourceSwitchLock t ok cause => Sys2Proof.Machine.execSourceSwitchLock t ok cause s
  | .intEnWrite t src v => Sys2Proof.Machine.execIntEnWrite t src v s
  | .clkGateRequest t src g force => Sys2Proof.Machine.execClkGateRequest t src g force s
  | .gateIdle t g => Sys2Proof.Machine.execGateIdle t g s
  | .gateTimeout t g => Sys2Proof.Machine.execGateTimeout t g s
  | .clkUngate t src g force => Sys2Proof.Machine.execClkUngate t src g force s
  | .pwrDomOffWrite t src d v => Sys2Proof.Machine.execPwrDomOffWrite t src d v s
  | .domainDraining t d => Sys2Proof.Machine.execDomainDraining t d s
  | .domainOff t d => Sys2Proof.Machine.execDomainOff t d s
  | .pwrDomOnWrite t src d v => Sys2Proof.Machine.execPwrDomOnWrite t src d v s
  | .domainOn t d => Sys2Proof.Machine.execDomainOn t d s
  | .powerOnReset t => Sys2Proof.Machine.execPowerOnReset t s
  | .deviceReset t src v => Sys2Proof.Machine.execDeviceReset t src v s
  | .warmReset t src v => Sys2Proof.Machine.execWarmReset t src v s
  | .warmResetRelease t => Sys2Proof.Machine.execWarmResetRelease t s
  | .dieResetAssert t src k => Sys2Proof.Machine.execDieResetAssert t src k s
  | .dieResetRelease t k w => Sys2Proof.Machine.execDieResetRelease t k w s
  | .rodResetWrite t src n v => Sys2Proof.Machine.execRodResetWrite t src n v s
  | .rodResetMinRelease t n => Sys2Proof.Machine.execRodResetMinRelease t n s
  | .modeQuiesce t src v => Sys2Proof.Machine.execModeQuiesce t src v s
  | .modeResume t src v => Sys2Proof.Machine.execModeResume t src v s
  | .modeStandby t src v ok => Sys2Proof.Machine.execModeStandby t src v ok s
  | .modeWake t src v => Sys2Proof.Machine.execModeWake t src v s
  | .pwrgoodRise t => Sys2Proof.Machine.execPwrgoodRise t s
  | .powerUpEnd t vio vias faulty => Sys2Proof.Machine.execPowerUpEnd t vio vias faulty s
  | .pwrgoodFall t => Sys2Proof.Machine.execPwrgoodFall t s
  | .powerFailIntervalEnd t => Sys2Proof.Machine.execPowerFailIntervalEnd t s
  | .railMonitorTrip t => Sys2Proof.Machine.execRailMonitorTrip t s
  | .thermalTrip t => Sys2Proof.Machine.execThermalTrip t s
  | .sweepStart t => Sys2Proof.Machine.execSweepStart t s
  | .stackCheckNow t src v => Sys2Proof.Machine.execStackCheckNow t src v s
  | .groupObservationEnd t g faults => Sys2Proof.Machine.execGroupObservationEnd t g faults s
  | .pauseEnd t g => Sys2Proof.Machine.execPauseEnd t g s
  | .deferredPauseStart t g => Sys2Proof.Machine.execDeferredPauseStart t g s
  | .fuseBlow t g v => Sys2Proof.Machine.execFuseBlow t g v s
  | .wearSample t temps => Sys2Proof.Machine.execWearSample t temps s
  | .ledgerRecordWrite t ok => Sys2Proof.Machine.execLedgerRecordWrite t ok s
  | .stackSave t src v ok => Sys2Proof.Machine.execStackSave t src v ok s
  | .alinkPortUp t p ver => Sys2Proof.Machine.execAlinkPortUp t p ver s
  | .alinkPortLost t p => Sys2Proof.Machine.execAlinkPortLost t p s
  | .alinkRetryLimit t p => Sys2Proof.Machine.execAlinkRetryLimit t p s
  | .alinkDataFrame t p bytes resp ans => Sys2Proof.Machine.execAlinkDataFrame t p bytes resp ans s
  | .alinkNak t p bytes => Sys2Proof.Machine.execAlinkNak t p bytes s
  | .alinkIdle t p bytes => Sys2Proof.Machine.execAlinkIdle t p bytes s
  | .beacon t p bytes => Sys2Proof.Machine.execBeacon t p bytes s
  | .beaconSend t p => Sys2Proof.Machine.execBeaconSend t p s
  | .deviceSettle t => Sys2Proof.Machine.execDeviceSettle t s
  | .portAbsentTimeout t p => Sys2Proof.Machine.execPortAbsentTimeout t p s
  | .foreignTimeout t p => Sys2Proof.Machine.execForeignTimeout t p s
  | .delivery t p bytes id k => Sys2Proof.Machine.execDelivery t p bytes id k s
  | .alinkRtWrite t src b d v => Sys2Proof.Machine.execAlinkRtWrite t src b d v s
  | .pairArm t src port => Sys2Proof.Machine.execPairArm t src port s
  | .pairReady t p bytes => Sys2Proof.Machine.execPairReady t p bytes s
  | .pairedRunEntry t edge => Sys2Proof.Machine.execPairedRunEntry t edge s
  | .pairWindowEnd t => Sys2Proof.Machine.execPairWindowEnd t s
  | .pairSig t p bytes => Sys2Proof.Machine.execPairSig t p bytes s
  | .pairLinkTimeout t => Sys2Proof.Machine.execPairLinkTimeout t s
  | .pairHalt t p bytes => Sys2Proof.Machine.execPairHalt t p bytes s
  | .alinkPairLeaveWrite t src => Sys2Proof.Machine.execAlinkPairLeaveWrite t src s
  | .pairLeave t p bytes retired => Sys2Proof.Machine.execPairLeave t p bytes retired s
  | .pairLeaveEnd t => Sys2Proof.Machine.execPairLeaveEnd t s
  | .engineSelectAtBeam t r => Sys2Proof.Machine.execEngineSelectAtBeam t r s
  | .hostLinkUp t gen width => Sys2Proof.Machine.execHostLinkUp t gen width s
  | .dmaHostReadCompletion t d status bytes => Sys2Proof.Machine.execDmaHostReadCompletion t d status bytes s
  | .laneHoldoverEnd t => Sys2Proof.Machine.execLaneHoldoverEnd t s
  | .referenceReadyLoss t k => Sys2Proof.Machine.execReferenceReadyLoss t k s
  | .uartCtsChange t u cts => Sys2Proof.Machine.execUartCtsChange t u cts s

end Sys2Proof.Machine
end

