-- ==== Sys2Proof/Safety.lean ====
section
/-!
DEFINITION. What counts as a safe state and a safe step: the canonical forms of the registers and memories, and steps that do not stop.
-/
namespace Sys2Proof.Machine

/-- The control registers are in canonical form. -/
def State.regsWf (s : State) : Bool := twf resetWord s.regs

/-- The scratch banks: rising keys, and no zero word listed in a bank that reads as zero. -/
def Scr.wf (x : Scr) : Bool :=
  tsorted x.mem && x.mem.all (fun p => !(x.zeroed.contains (p.1 / 32768) && decide (p.2 = encodeWord 0)))

/-- The memories that the spec gives the block are in canonical form: deck RAM, scratch banks, stacked cache, external memory, the image store
and the local RAM of the engines. -/
def State.memWf (s : State) : Bool :=
  tsorted s.fab.ram && s.scr.wf && twf (fun _ => 0) s.cache.mem && twf (fun _ => 0) s.emc.mem && twf Config.storeImage s.cfg.image &&
  s.eng.all (fun p => tsorted p.2.ram)

/-- A state in canonical form. -/
def State.wf (s : State) : Bool := s.regsWf && s.memWf

/-! ### The terms of the claims -/

/-- `a` is the state in which the write of `src` at time `t` to the control register at `off` acts: time has passed, the write is not one that
SECURE HALT stops (R471) or that must wait for its turn (R284, R545), and the request that carries it is marked performed. -/
def Acts (s : State) (t src off : Nat) (a : State) : Prop :=
  (s.advance t).writeStops src off = false ∧ a = (s.advance t).takeControl src off

/-- From `a` to `u` no control register changes but those at the offsets in `l`. -/
def State.keepsRegs (a u : State) (l : List Nat) : Prop := ∀ o, o ∉ l → u.reg o = a.reg o

/-- From `a` to `u` no word changes of a scratch bank, the stacked cache, external memory, the image store, a deck RAM or an engine's RAM. -/
def State.keepsMem (a u : State) : Prop :=
  u.scr.mem = a.scr.mem ∧ u.scr.zeroed = a.scr.zeroed ∧ u.cache.mem = a.cache.mem ∧ u.emc.mem = a.emc.mem ∧ u.cfg.image = a.cfg.image ∧
  u.fab.ram = a.fab.ram ∧ ∀ n, (u.engine n).ram = (a.engine n).ram

/-- No event of the present edge of its clock has reached the log at `o` (R544). -/
def State.logQuiet (a : State) (o : Nat) : Bool :=
  (tfind a.logs o).all (fun p => [1, ncLen, ccLen, fcLen].all (fun k => p.cyc != a.now / k))

/-- An event of the present sc waits for the log at `o` to take it at the next sc edge (R544). -/
def State.logPresent (a : State) (o : Nat) : Bool := (tfind a.logs o).any (fun p => p.cyc == a.scNow && decide (a.now < p.at_))

/-- The network interfaces have nothing left to do: identifiers are those given out, once each, no request that is held could enter the network
(R268, R284, R287), no complete response waits for its place (R542), and no region has a response to take. -/
def State.idleNoc (a : State) : Prop :=
  (a.noc.reqs.map (·.id)).Nodup ∧ (∀ q ∈ a.noc.reqs, q.id < a.noc.nextId ∧ a.mayInject q = false ∧ a.answerable q = false) ∧ ∀ d ∈ a.noc.inbox, isRegionSrc d.src = false

/-- Part `p` of request `id`, if it is still listed, has been performed with the answer `x`; a posted request keeps only a failing one (R290). -/
def State.answered (u : State) (id p : Nat) (x : Answer) : Prop :=
  ∀ q ∈ u.noc.reqs, q.id = id → ∀ y, q.parts[p]? = some y →
    y.performed = true ∧ y.answer = if q.kind.nonPosted || isErr x.code then some x else none

/-- What a scrub leaves of a word (R325): a correctable error is corrected, an uncorrectable word stamped. -/
def afterScrub (v : Word72) : Word72 :=
  match (decodeWord v).1 with
  | .corrected => encodeWord (decodeWord v).2
  | .uncorrectable => stampWord (decodeWord v).2
  | _ => v

/-- The same of a word of external memory, in a channel that stores two copies of the check bits or one. -/
def afterScrubDram (two : Bool) (v : BitVec 80) : BitVec 80 :=
  match (dramDecode two v).1 with
  | .corrected => dramWord two false (dramDecode two v).2
  | .uncorrectable => dramWord two true (dramDecode two v).2
  | _ => v

/-- Lane `l` raises no token, captures nothing, and no lane of its quad forwards. -/
def State.laneQuiet (a : State) (l : Nat) : Prop :=
  l < 48 ∧ (∀ e, e < 16 → a.bit (Reg.LANE_EVTOK l e) Fld.LANE_EVTOK_EN = false) ∧
  a.bit (Reg.LANE_CAP_CTL l) Fld.LANE_CAP_CTL_EN = false ∧ ∀ i, i < 4 → a.forwarding (l / 4 * 4 + i) = false

/-- From `a` to `u` a request for profile `p` of lane `l` has had its outcome (R363): BUSY while a switch runs, STATE on a lane that is not ACTIVE,
BAD_PROF for a profile that is not valid; otherwise the switch starts, and the receiver leaves LOCKED. -/
def State.switchOutcome (a u : State) (l p : Nat) : Prop :=
  (a.bit (Reg.LANE_STATUS l) Fld.LANE_STATUS_PROF_BUSY = true → u.fld (Reg.LANE_STATUS l) Fld.LANE_STATUS_PROF_STAT = 1 ∧
    u.laneState l = a.laneState l ∧ a.keepsRegs u [Reg.LANE_STATUS l] ∧ a.keepsMem u) ∧
  (a.bit (Reg.LANE_STATUS l) Fld.LANE_STATUS_PROF_BUSY = false → a.laneState l ≠ 3 → u.fld (Reg.LANE_STATUS l) Fld.LANE_STATUS_PROF_STAT = 3 ∧
    u.laneState l = a.laneState l ∧ a.keepsRegs u [Reg.LANE_STATUS l] ∧ a.keepsMem u) ∧
  (a.bit (Reg.LANE_STATUS l) Fld.LANE_STATUS_PROF_BUSY = false → a.laneState l = 3 → profileValid (a.reg (Reg.LANE_PROF l p)) = false →
    u.fld (Reg.LANE_STATUS l) Fld.LANE_STATUS_PROF_STAT = 2 ∧ u.laneState l = 3 ∧ a.keepsRegs u [Reg.LANE_STATUS l] ∧ a.keepsMem u) ∧
  (a.bit (Reg.LANE_STATUS l) Fld.LANE_STATUS_PROF_BUSY = false → a.laneState l = 3 → profileValid (a.reg (Reg.LANE_PROF l p)) = true →
    u.fld (Reg.LANE_STATUS l) Fld.LANE_STATUS_PROF_STAT = 0 ∧ u.bit (Reg.LANE_STATUS l) Fld.LANE_STATUS_PROF_BUSY = true ∧ u.laneState l = 2 ∧
    (u.laneOf l).target = p ∧ u.laneRx l ≠ 2 ∧ a.keepsRegs u [Reg.LANE_STATUS l, Reg.LANE_INT_STATUS] ∧ a.keepsMem u)

/-- At time `t` engine `n` issues the instruction `i` of `len` bytes: it has been fetched, decoded and allowed, no register of it is outstanding or
carries a mark that it would consume, and `a` is the state after the fetch (R209, R213, R221, R225). -/
def Issues (s : State) (t n : Nat) (a : State) (len : Nat) (i : Rv) : Prop :=
  (∃ w, (s.engAdvance t n).toIssue n = .instr a w len i) ∧ (a.engine n).poisonedUse i = none

/-- `a` is the state in which the write of `src` at time `t` to ENG_CTL(n) acts. -/
def EngActs (s : State) (t src n : Nat) (a : State) : Prop :=
  (s.engAdvance t n).writeStops src (Reg.ENG_CTL n) = false ∧ a = (s.engAdvance t n).takeControl src (Reg.ENG_CTL n)

/-- From `a` to `u` channel `c` has had the event that `x` stamps (R427): it joins a queue with room, a full one sets OVF and loses it, and a second
event in one sc sets MISSED. -/
def State.stamped (a u : State) (c : Nat) (x : Stamp) : Prop :=
  ((a.trig c).lastSc ≠ some a.scNow → (a.trig c).queue.length < 16 → (u.trig c).queue = (a.trig c).queue ++ [x] ∧
    (u.trig c).lost = false ∧ (u.reg Reg.TRIG_INT_STATUS).getLsbD c = true ∧
    u.fld (Reg.TRIG_CH_STATUS c) Fld.TRIG_CH_STATUS_COUNT = (a.trig c).queue.length + 1) ∧
  ((a.trig c).lastSc ≠ some a.scNow → 16 ≤ (a.trig c).queue.length → (u.trig c).queue = (a.trig c).queue ∧
    (u.trig c).lost = true ∧ u.bit (Reg.TRIG_CH_STATUS c) Fld.TRIG_CH_STATUS_OVF = true ∧ (u.reg Reg.TRIG_INT_STATUS).getLsbD (16 + c) = true) ∧
  ((a.trig c).lastSc = some a.scNow → u.bit (Reg.TRIG_CH_STATUS c) Fld.TRIG_CH_STATUS_MISSED = true ∧ u.pin = a.pin) ∧
  a.keepsRegs u [Reg.TRIG_CH_CTL c, Reg.TRIG_INT_STATUS, Reg.TRIG_CH_STATUS c] ∧ a.keepsMem u

/-- `a` is `s` at time `t`, once the host controller has taken what has come for it; the descriptor `d` at ring index `idx` is the head of queue
`q`, which is forerunner or native, may start, runs nothing else, and has fetched every descriptor up to its tail (R392, R395). -/
def Starts (s : State) (t q : Nat) (a : State) (legacy : Bool) (idx : Nat) (d : Desc) : Prop :=
  a = s.hostAdvance t ∧ q < 64 ∧ a.headDesc q = some (idx, d) ∧ a.bit (Reg.HOST_Q_CFG q) Fld.HOST_Q_CFG_LEGACY = legacy ∧ a.mayStart q d = true ∧
  (a.hostQ q).runs = [] ∧ (a.hostQ q).next = a.fld (Reg.HOST_Q_STATUS q) Fld.HOST_Q_STATUS_TAIL

/-- From `a` to `u` the head descriptor `d` of queue `q`, at ring index `idx`, has left the ring and completes at once: it runs no more, and its
completion is owed with outcome `h` (R394, R400). -/
def State.owesAtOnce (a u : State) (q idx : Nat) (d : Desc) (h : Nat) : Prop :=
  (u.hostQ q).runs = [] ∧ (u.hostQ q).fetched = (a.hostQ q).fetched.drop 1 ∧
  (u.hostQ q).owed = (a.hostQ q).owed ++ [⟨d.tag, (idx + 1) % a.sqSize q, h, 0, 0, d.irq⟩] ∧ a.keepsRegs u [Reg.HOST_Q_STATUS q] ∧ a.keepsMem u

/-- From `a` to `u` the copy `x` of the head descriptor has gone to the idle channel `ch`, which has asked the host for its first piece (R396). -/
def State.copyBegun (a u : State) (q idx ch : Nat) (d : Desc) (x : Copy) : Prop :=
  (u.hostQ q).runs = [⟨idx, d.tag, d.irq, .copy⟩] ∧ (u.dma ch).run = some { x with asked := true } ∧
  u.host.sent = a.host.sent ++ [.read 1 ch 0 x.src (min x.len (256 - x.src % 256))] ∧ a.keepsRegs u [] ∧ a.keepsMem u

/-- From `a` to `u` the register sequence at the head has started, and the write of `v` to offset `off` has gone out (R397). -/
def State.seqBegun (a u : State) (q off v : Nat) : Prop :=
  (∃ r ∈ u.noc.reqs, r.kind = .write ∧ r.src = srcSeq ∧ r.addr = a.bar0Addr off ∧ r.data = toBytes 4 v) ∧
  (u.hostQ q).runs.length = 1 ∧ (u.hostQ q).owed = (a.hostQ q).owed ∧ a.keepsMem u

/-- From `a` to `u` a fence over every stream of the host has begun for the head descriptor, and holds every later request of theirs (R287,
R398). -/
def State.fenceBegun (a u : State) (q idx : Nat) (d : Desc) : Prop :=
  (u.hostQ q).runs = [⟨idx, d.tag, d.irq, .fence⟩] ∧
  (∃ r ∈ u.noc.reqs, r.kind = .fence ∧ r.src = srcHost ∧ r.covers = allStreams ∧ r.holds = allStreams ∧ r.report = true ∧ r.tag = 100 + q) ∧
  a.keepsRegs u [] ∧ a.keepsMem u

/-- `a` is the state in which the write of `src` at time `t` to a HOST register at `off` acts. -/
def HostActs (s : State) (t src off : Nat) (a : State) : Prop :=
  (s.hostAdvance t).writeStops src off = false ∧ a = (s.hostAdvance t).takeControl src off

/-- `a` is the state in which the write of `src` at time `t` to an ALINK register at `off` acts. -/
def BoardActs (s : State) (t src off : Nat) (a : State) : Prop :=
  (s.boardAdvance t).writeStops src off = false ∧ a = (s.boardAdvance t).takeControl src off

/-- The frame with the bytes `b` that comes to port `p` at time `t` is accepted (R493): it is `f`, of type `type`, in clear, and `a` is the
state once it is acknowledged. -/
def FrameIn (s : State) (t p type : Nat) (b : List Byte) (f : AFrame) (a : State) : Prop :=
  p < 4 ∧ (s.boardAdvance t).receive p b = (a, some f) ∧ f.type = type

/-- A PAIR frame of kind `kind`, for window `w` with CRC `c`, is accepted on the pair port (R508). -/
def PairIn (s : State) (t p kind w c : Nat) (b : List Byte) (a : State) : Prop :=
  ∃ f m x, FrameIn s t p frPair b f m ∧ m.portState p = lpPair ∧ m.pairPort = p ∧ parsePair f.body = some (kind, x, w, c) ∧
    a = m.mapPair (fun y => { y with lastAt := m.now })

/-- The registers that a change of the state of port `p` may change, with the routes that a settled device rebuilds for it (R502, R513). -/
def State.portRegs (a : State) (p : Nat) : List Nat :=
  [Reg.ALINK_PORT_STATUS p, Reg.ALINK_INT_STATUS, Reg.NOC_STATUS] ++ (List.range 16).map (Reg.ALINK_RT (1 - a.epochNow))

/-- The step of `s` does not stop. -/
def State.live (s : State) : Prop := ∃ t, step s = .next t

/-- The step of `s` neither stops nor leaves the canonical forms. -/
def State.safeStep (s : State) : Prop := ∃ t, step s = .next t ∧ t.wf = true

end Sys2Proof.Machine
end

