-- ==== Sys2Proof/Certificates/Slice0/Obligations.lean ====
section
/-!
DEFINITION. The statements for the provers: what the commands of each chapter do, what they leave alone, and what every step keeps.
In each clause `s` is any state and `a` is `s` once time has passed to the command's edge (for a register write also: once the request that
carries it is marked performed); the conclusion says that the command answers a next state `u`, and what `u` holds.
-/
open Sys2Proof Sys2Proof.Machine

/-! ### Chapter 02: user clocks, deck RAM -/

/-- Rests on R63: a write to a user clock register is what the register reads from the cycle after it; the setting sets out for the region and takes
effect at an edge of the old setting, and the setting in force before it stays until then. -/
def Obligations.UserClockSettingIsWrittenThenApplied : Prop :=
  (∀ (s a : State) (t src r k v : Nat), Acts s t src (Reg.PLANE_FAB_UCLK r k) a →
    ∃ u, exec (.uclkWrite t src r k v) s = .next u ∧
      u.reg (Reg.PLANE_FAB_UCLK r k) = BitVec.ofNat 32 v &&& 0x8000FFFF ∧
      u.uclkQueue r k = a.uclkQueue r k ++
        [(uclkOf (BitVec.ofNat 32 v &&& 0x8000FFFF), (a.now / 12 + if r < 64 then 2 else 4) * 12)] ∧
      u.uclk r k = a.uclk r k ∧ a.keepsRegs u [Reg.PLANE_FAB_UCLK r k] ∧ a.keepsMem u) ∧
  (∀ (s a : State) (t r k e x : Nat) (v : UClk), a = s.advance t → a.epoch = some e → a.uclkQueue r k = [(v, x)] →
    a.fabTime ((a.uclk r k).nextEdge (a.fabF x)) ≤ a.now →
    ∃ u, exec (.uclkApply t r k) s = .next u ∧ u.uclk r k = v ∧ u.uclkQueue r k = [] ∧ a.keepsRegs u [] ∧ a.keepsMem u)

/-- Rests on R62: the next edge of an enabled user clock after F is an edge of it, above F, and no number between the two is an edge of it. -/
def Obligations.UserClockEdgeFollowsPhaseAndDivisor : Prop :=
  ∀ (u : UClk) (f : Nat), u.en = true →
    u.edgeAt (u.nextEdge f) = true ∧ f < u.nextEdge f ∧ ∀ g, f < g → g < u.nextEdge f → u.edgeAt g = false

/-- Rests on R51, R52, R53, R61, R188: at an edge of its clock line, a deck RAM port that the active plane lets read presents its part of a row, or
the 64 data bits of a clean row under ECC; a port that may write replaces its part of the row, or the whole row with a clean word under ECC; no other
row changes. The model's own choice in it: log entry 6. -/
def Obligations.DeckRamPortReadsAndWritesItsRow : Prop :=
  (∀ (s a : State) (t r k port x row : Nat) (w : Word72) (wd : Nat × Nat), a = s.advance t →
    wd = widthOf (if port = 0 then (a.ramCfg r k).widthA else (a.ramCfg r k).widthB) → row = x / wd.1 % 512 →
    a.portEdge r k = true → ((a.ramCfg r k).mode = 1 ∨ (a.ramCfg r k).mode = 2 ∧ port ≠ 0) →
    a.ramRow r k row = some w → ((a.ramCfg r k).ecc = true → (decodeWord w).1 = .clean) →
    a.sameCycle r k row port = none →
    ∃ u, exec (.deckRamPortAccess t r k port x none) s = .next u ∧
      tfind u.fab.out (ramBlock r k * 2 + port) = some
        ⟨if (a.ramCfg r k).ecc then getBits w 0 64 else getBits w (wd.2 * (x % wd.1)) wd.2, false, false, a.now⟩ ∧
      a.keepsRegs u [] ∧ a.keepsMem u) ∧
  (∀ (s a : State) (t r k port x row v : Nat) (wd : Nat × Nat), a = s.advance t →
    wd = widthOf (if port = 0 then (a.ramCfg r k).widthA else (a.ramCfg r k).widthB) → row = x / wd.1 % 512 →
    a.portEdge r k = true → a.tpSpec r = false → ((a.ramCfg r k).mode = 1 ∨ (a.ramCfg r k).mode = 2 ∧ port = 0) →
    a.sameCycle r k row port = none →
    ∃ u, exec (.deckRamPortAccess t r k port x (some v)) s = .next u ∧
      u.ramRow r k row = some (if (a.ramCfg r k).ecc then encodeWord (BitVec.ofNat 64 v)
        else putBits (a.ramOld r k row) (wd.2 * (x % wd.1)) wd.2 v) ∧
      (∀ r' k' row', ramKey r' k' row' ≠ ramKey r k row → u.ramRow r' k' row' = a.ramRow r' k' row') ∧
      a.keepsRegs u [] ∧ u.scr = a.scr ∧ u.cache = a.cache ∧ u.emc = a.emc)

/-- Rests on R54: a window access is accepted at a region that is open; its words are served, one row of a block in a cycle, through a port that the
design leaves idle: a read takes the word, a write without ECC replaces the bytes that it names; after the target limit the access is answered
ERR_TIMEOUT with the rows already written kept. The model's own choice in it: log entry 6. -/
def Obligations.DeckRamWindowServesRowsAndTimesOut : Prop :=
  (∀ (s a : State) (t id p : Nat) (rq : Request) (q : Part), a = s.advance t → a.servable id p = some (rq, q) →
    deckBase ≤ q.addr % 2 ^ 48 → (q.addr % 2 ^ 48 - deckBase) / 0x40000 < 128 →
    a.fab.win.any (fun x => x.id == id && x.part == p) = false →
    a.regionGate ((q.addr % 2 ^ 48 - deckBase) / 0x40000) id p = .open_ →
    ∃ u, exec (.deckRamWindowAccess t id p) s = .next u ∧
      u.fab.win = a.fab.win ++ [⟨(q.addr % 2 ^ 48 - deckBase) / 0x40000, id, p, a.now, winWords q, [], [], [], false⟩] ∧
      a.keepsRegs u [] ∧ a.keepsMem u) ∧
  (∀ (s a : State) (t k port w : Nat) (x : WinAcc) (rq : Request) (q : Part), a = s.advance t → a.nextWord x.region k = some (x, w) →
    a.findReq x.id = some rq → rq.parts[x.part]? = some q → rq.kind = .write → (a.ramCfg x.region k).ecc = false →
    winPort (a.ramCfg x.region k) true (a.portUsed x.region k 0) port = true → a.portUsed x.region k port = false →
    tfind x.last k ≠ some (a.now / 6 + 1) → a.sameCycle x.region k (w % 512) port = none →
    ∃ u, exec (.deckRamWindowRowServe t x.region k port) s = .next u ∧
      u.ramRow x.region k (w % 512) = some (packWord (wordCheck (a.ramOld x.region k (w % 512)))
        (mergeWord (wordData (a.ramOld x.region k (w % 512)))
          (byteEnables (q.addr % 2 ^ 48 - deckBase) q.len (w + (q.addr % 2 ^ 48 - deckBase) / 0x40000 * 0x8000))
          (wordOfBytes (q.addr % 2 ^ 48 - deckBase) (partData rq q) (w + (q.addr % 2 ^ 48 - deckBase) / 0x40000 * 0x8000)))) ∧
      (∀ r' k' row, ramKey r' k' row ≠ ramKey x.region k (w % 512) → u.ramRow r' k' row = a.ramRow r' k' row) ∧ a.keepsRegs u []) ∧
  (∀ (s a : State) (t k port w : Nat) (x : WinAcc) (rq : Request) (q : Part) (v : Word72), a = s.advance t → a.nextWord x.region k = some (x, w) →
    a.findReq x.id = some rq → rq.parts[x.part]? = some q → rq.kind = .read → (x.todo.filter (· != w)).isEmpty = false →
    winPort (a.ramCfg x.region k) false (a.portUsed x.region k 0) port = true → a.portUsed x.region k port = false →
    tfind x.last k ≠ some (a.now / 6 + 1) → a.sameCycle x.region k (w % 512) port = none → a.ramRow x.region k (w % 512) = some v →
    ((a.ramCfg x.region k).ecc = true → (decodeWord v).1 = .clean) →
    ∃ u, exec (.deckRamWindowRowServe t x.region k port) s = .next u ∧
      (∃ y ∈ u.fab.win, y.id = x.id ∧ y.part = x.part ∧ tfind y.got w = some (wordData v, false, false) ∧ y.todo = x.todo.filter (· != w)) ∧
      a.keepsRegs u [] ∧ a.keepsMem u) ∧
  (∀ (s a : State) (t id p : Nat) (x : WinAcc), a = s.advance t →
    a.fab.win.find? (fun y => y.id == id && y.part == p) = some x → x.at_ + a.tgtLimit ≤ a.now →
    ∃ u, exec (.deckRamWindowTimeout t id p) s = .next u ∧
      u.fab.win = a.fab.win.filter (fun y => !(y.id == id && y.part == p)) ∧
      u.answered id p (codeAnswer rTimeout) ∧
      a.keepsRegs u [] ∧ a.keepsMem u)

/-! ### Chapter 03: planes, banks, switches -/

/-- Rests on R84, R96, R97, R83, R543: a write to PLANE_PTR or PLANE_CTL changes no register of the region by itself; its request sets out for the
beam, where it arrives 3 sc later and acts at the fc edge after that; a write with more than one request bit sets out as a conflict, which is refused
whole. The model's own choice in it: log entry 10. -/
def Obligations.PlaneWritesSendRequestsToTheBeam : Prop :=
  (∀ (s a : State) (t src r v x : Nat), Acts s t src (Reg.PLANE_PTR r) a → x = a.now / 12 * 12 + 36 →
    ∃ u, exec (.planePtrWrite t src r v) s = .next u ∧
      (u.region r).reqs = (a.region r).reqs ++ [⟨x, x + 6, .reg, .ptr (if v.testBit 12 then none else some (v % 8))
        (if v.testBit 13 then none else some (v / 16 % 4)) (v.testBit 14)⟩] ∧ a.keepsRegs u [] ∧ a.keepsMem u) ∧
  (∀ (s a : State) (t src r v x : Nat), Acts s t src (Reg.PLANE_CTL r) a → x = a.now / 12 * 12 + 36 →
    (v % 16 = 1 ∨ v % 16 = 0 → ∃ u, exec (.planeCtlRelease t src r v) s = .next u ∧
      (u.region r).reqs = (a.region r).reqs ++ [⟨x, x + 6, .reg, .strobeEn (v.testBit 8)⟩, ⟨x, x + 6, .reg, .release⟩] ∧
      a.keepsRegs u [] ∧ a.keepsMem u) ∧
    (v % 16 = 2 ∨ v % 16 = 0 → ∃ u, exec (.planeCtlIsolate t src r v) s = .next u ∧
      (u.region r).reqs = (a.region r).reqs ++ [⟨x, x + 6, .reg, .strobeEn (v.testBit 8)⟩, ⟨x, x + 6, .reg, .isolate⟩] ∧
      a.keepsRegs u [] ∧ a.keepsMem u) ∧
    (v % 16 = 4 ∨ v % 16 = 0 → ∃ u, exec (.planeCtlSetSched t src r v) s = .next u ∧
      (u.region r).reqs = (a.region r).reqs ++ [⟨x, x + 6, .reg, .strobeEn (v.testBit 8)⟩, ⟨x, x + 6, .reg, .setMode true⟩] ∧
      a.keepsRegs u [] ∧ a.keepsMem u) ∧
    (v % 16 = 8 ∨ v % 16 = 0 → ∃ u, exec (.planeCtlSetDirect t src r v) s = .next u ∧
      (u.region r).reqs = (a.region r).reqs ++ [⟨x, x + 6, .reg, .strobeEn (v.testBit 8)⟩, ⟨x, x + 6, .reg, .setMode false⟩] ∧
      a.keepsRegs u [] ∧ a.keepsMem u) ∧
    (∀ c m, (c, m) ∈ [(Instr.planeCtlRelease t src r v, 1), (.planeCtlIsolate t src r v, 2), (.planeCtlSetSched t src r v, 4),
        (.planeCtlSetDirect t src r v, 8)] → v % 16 ≠ 0 → v % 16 ≠ m →
      ∃ u, exec c s = .next u ∧ (u.region r).reqs = (a.region r).reqs ++ [⟨x, x + 6, .reg, .conflict⟩] ∧ a.keepsRegs u [] ∧ a.keepsMem u))

/-- Rests on R79, R84, R89, R96, R97, R543: what a lone request does at the beam. Before its edge it shows as PENDING; at its edge, if it meets no
objection, a switch moves the pointers and is counted, and its E1 follows one fc later, where a bank that was UNINIT is LIVE; a release becomes
RUNNING at its E1; an isolation makes the region ISOLATED with the pointers kept; an armed strobe sends its request. The model's own choices in it: log entries 12, 18 and 19. -/
def Obligations.BeamRequestsActAtTheirEdge : Prop :=
  (∀ (s a : State) (t r b e p k : Nat), a = s.advance t → (a.region r).reqs = [⟨b, e, .reg, .ptr (some p) (some k) false⟩] →
    b ≤ a.now → a.now < e →
    ∃ u, exec (.planeRequestAtBeam t r) s = .next u ∧ u.fld (Reg.PLANE_STATUS r) Fld.PLANE_STATUS_WRSTAT = 1 ∧
      u.fld (Reg.PLANE_STATUS r) Fld.PLANE_STATUS_PENDING = 1 ∧ (u.region r).reqs = (a.region r).reqs ∧
      a.keepsRegs u [Reg.PLANE_STATUS r] ∧ a.keepsMem u) ∧
  (∀ (s a : State) (t r b e p k : Nat), a = s.advance t → (a.region r).reqs = [⟨b, e, .reg, .ptr (some p) (some k) false⟩] →
    e ≤ a.now → p < 8 → k < 4 → a.running r = true → (p ≠ a.planePtr r ∨ k ≠ a.bankPtr r) →
    a.reqCheck r ⟨b, e, .reg, .ptr (some p) (some k) false⟩ = 0 → a.cycleOn r = none →
    ∃ u, exec (.switch t r) s = .next u ∧ u.planePtr r = p ∧ u.bankPtr r = k ∧ u.rstate r = a.rstate r ∧
      (∀ j, j < 4 → u.bstate r j = a.bstate r j) ∧ (u.region r).cyc = some ⟨e + 6, false, some (a.planePtr r), false, none⟩ ∧
      u.fld (Reg.PLANE_SWITCH_CNT r) Fld.PLANE_SWITCH_CNT_COUNT =
        (a.fld (Reg.PLANE_SWITCH_CNT r) Fld.PLANE_SWITCH_CNT_COUNT + 1) % 2 ^ Fld.PLANE_SWITCH_CNT_COUNT.width ∧
      u.fld (Reg.PLANE_STATUS r) Fld.PLANE_STATUS_LAST_SRC = 1 ∧ u.fld (Reg.PLANE_STATUS r) Fld.PLANE_STATUS_WRSTAT = 0 ∧
      (u.region r).reqs = [] ∧
      a.keepsRegs u [Reg.PLANE_STATUS r, Reg.PLANE_PTR r, Reg.PLANE_SWITCH_CNT r] ∧ a.keepsMem u) ∧
  (∀ (a : State) (r e : Nat) (c : SwCycle), a.cycleOn r = some c → c.e1 ≤ e → c.start = false → a.bankPtr r < 4 →
    (a.bstate r (a.bankPtr r) = 0 ∨ c.init = true → (a.endCycle r e).bstate r (a.bankPtr r) = 1) ∧
    (c.left = none → (a.endCycle r e).rstate r = 2) ∧ (c.left ≠ none → (a.endCycle r e).rstate r = a.rstate r) ∧
    (a.endCycle r e).planePtr r = a.planePtr r ∧ (a.endCycle r e).bankPtr r = a.bankPtr r ∧
    a.keepsRegs (a.endCycle r e) [Reg.PLANE_STATUS r, Reg.PLANE_BSTATE r] ∧ a.keepsMem (a.endCycle r e)) ∧
  (∀ (s a : State) (t r b e : Nat), a = s.advance t → (a.region r).reqs = [⟨b, e, .reg, .release⟩] → e ≤ a.now →
    a.reqCheck r ⟨b, e, .reg, .release⟩ = 0 → a.cycleOn r = none →
    ∃ u, exec (.regionRelease t r) s = .next u ∧ u.rstate r = a.rstate r ∧ u.planePtr r = a.planePtr r ∧ u.bankPtr r = a.bankPtr r ∧
      (u.region r).cyc = some ⟨e + 6, (a.region r).keptInit, none, false, none⟩ ∧ (u.region r).reqs = [] ∧
      a.keepsRegs u [Reg.PLANE_STATUS r, Reg.PLANE_PTR r, Reg.PLANE_SWITCH_CNT r] ∧ a.keepsMem u) ∧
  (∀ (s a : State) (t r b e : Nat), a = s.advance t → (a.region r).reqs = [⟨b, e, .reg, .isolate⟩] → e ≤ a.now → a.running r = true →
    a.cycleOn r = none → a.e1At r e = none → a.specIn r = none → a.reqCheck r ⟨b, e, .reg, .isolate⟩ = 0 →
    ∃ u, exec (.regionIsolation t r) s = .next u ∧ u.rstate r = 1 ∧ u.planePtr r = a.planePtr r ∧ u.bankPtr r = a.bankPtr r ∧
      (u.region r).reqs = [] ∧ a.keepsRegs u [Reg.PLANE_STATUS r] ∧ a.keepsMem u) ∧
  (∀ (s a : State) (t r k : Nat), a = s.advance t → a.strobeArmed r k = true → tget (fun _ => 0) (a.region r).armed k + 6 ≤ a.now → a.running r = true →
    ∃ u, exec (.strobeFire t r k) s = .next u ∧
      (u.region r).reqs = (a.region r).reqs ++ [⟨a.now, a.now + 6, .strobe k, .ptr
        (if a.bit (Reg.PLANE_STROBE r k) Fld.PLANE_STROBE_MOVE_PLANE then some (a.fld (Reg.PLANE_STROBE r k) Fld.PLANE_STROBE_PLANE) else none)
        (if a.bit (Reg.PLANE_STROBE r k) Fld.PLANE_STROBE_MOVE_BANK then some (a.fld (Reg.PLANE_STROBE r k) Fld.PLANE_STROBE_BANK) else none)
        (a.bit (Reg.PLANE_STROBE r k) Fld.PLANE_STROBE_INIT)⟩] ∧ a.keepsRegs u [] ∧ a.keepsMem u) ∧
  (∀ (s a : State) (t r k : Nat), a = s.advance t → a.strobeArmed r k = true → tget (fun _ => 0) (a.region r).armed k + 6 ≤ a.now → a.running r = false →
    ∃ u, exec (.strobeFire t r k) s = .next u ∧ (u.region r).reqs = (a.region r).reqs ∧
      u.fld (Reg.PLANE_STROBE_LOST r) Fld.PLANE_STROBE_LOST_LAST_REASON = 7 ∧ a.keepsRegs u [Reg.PLANE_STROBE_LOST r] ∧ a.keepsMem u)

/-- Rests on R89, R97: the outcome codes. A request to a plane that is not VALID is refused INVALID, or LOADING while it loads; a bank in transfer
refuses it BANK_BUSY; a release of a STALE region is refused; a pointer write to a SCHEDULED region is refused SCHED. The model's own choices in it:
log entries 12 and 17. -/
def Obligations.BeamRequestsAreRefusedByCode : Prop :=
  ∀ (a : State) (r b e p k : Nat) (init : Bool), a.beamReset = false → a.rodRetired (r % 64) = false →
    (a.scheduled r = true → a.reqCheck r ⟨b, e, .reg, .ptr (some p) (some k) init⟩ = 5 ∧ a.reqCheck r ⟨b, e, .reg, .release⟩ = 5 ∧
      a.reqCheck r ⟨b, e, .reg, .isolate⟩ = 5) ∧
    (a.scheduled r = false → a.running r = true →
      (a.pstate r p = 2 → a.reqCheck r ⟨b, e, .reg, .ptr (some p) (some k) init⟩ = 3) ∧
      (a.pstate r p = 0 → a.reqCheck r ⟨b, e, .reg, .ptr (some p) (some k) init⟩ = 2) ∧
      (a.pstate r p = 1 → a.bstate r k = 2 → a.reqCheck r ⟨b, e, .reg, .ptr (some p) (some k) init⟩ = 4) ∧
      (a.pstate r p = 1 → a.bstate r k ≠ 2 → a.reqCheck r ⟨b, e, .reg, .ptr (some p) (some k) init⟩ = 0) ∧
      a.reqCheck r ⟨b, e, .reg, .release⟩ = 7 ∧ a.reqCheck r ⟨b, e, .reg, .isolate⟩ = 0) ∧
    (a.scheduled r = false → a.rstate r = 1 → a.domState r = 2 → a.stale r = true → a.reqCheck r ⟨b, e, .reg, .release⟩ = 8)

/-- States R75 whole, and rests on R76–R78, R101, R543: a write of DISCARD or GO sets out for the beam, and takes effect where the agenda has its
edge. A discard makes a bank UNINIT and drops what is parked for it, and does nothing to the bound bank of a RUNNING region or to a bank in XFER; a
transfer that is not refused makes the bank XFER and shows BUSY until all of its flits are answered, when a save leaves the bank LIVE and reports
success; a parked response is presented when its bank is bound. The model's own choice in it: log entry 10. -/
def Obligations.BanksAreDiscardedAndTransferred : Prop :=
  (∀ (s a : State) (t src r mask x : Nat), Acts s t src (Reg.PLANE_BSTATE r) a → x = a.now / 12 * 12 + 36 →
    ∃ u, exec (.bankDiscard t src r mask) s = .next u ∧
      (u.region r).reqs = (a.region r).reqs ++ [⟨x, x + 6, .reg, .discard (mask % 16)⟩] ∧ (x + 6, .beamWrites r) ∈ u.agenda ∧
      a.keepsRegs u [] ∧ a.keepsMem u) ∧
  (∀ (a : State) (r b x e mask : Nat), r < 128 → b < 4 → a.beamReset = false →
    (a.region r).reqs.filter (fun q => decide (q.edge ≤ a.now) && q.act.isConfig) = [⟨x, e, .reg, .discard mask⟩] →
    (mask.testBit b = true → (a.running r && a.bankPtr r == b) = false → a.bstate r b ≠ 2 →
      (a.runLater (.beamWrites r)).bstate r b = 0 ∧ (a.runLater (.beamWrites r)).parked r b = []) ∧
    (mask.testBit b = false ∨ (a.running r = true ∧ a.bankPtr r = b) ∨ a.bstate r b = 2 →
      (a.runLater (.beamWrites r)).bstate r b = a.bstate r b ∧ (a.runLater (.beamWrites r)).parked r b = a.parked r b ∧
      (a.runLater (.beamWrites r)).bankData r b = a.bankData r b)) ∧
  (∀ (s a : State) (t src r b x : Nat), Acts s t src (Reg.PLANE_XFER_CTL r) a → x = a.now / 12 * 12 + 36 →
    (∃ u, exec (.bankXferSave t src r b) s = .next u ∧
      (u.region r).reqs = (a.region r).reqs ++ [⟨x, x + 6, .reg, .xferGo (b % 4) false⟩] ∧ (x + 6, .beamWrites r) ∈ u.agenda ∧
      u.fld (Reg.PLANE_XFER_CTL r) Fld.PLANE_XFER_CTL_BANK = b % 4 ∧ u.fld (Reg.PLANE_XFER_CTL r) Fld.PLANE_XFER_CTL_DIR = 0 ∧
      a.keepsRegs u [Reg.PLANE_XFER_CTL r] ∧ a.keepsMem u) ∧
    (∃ u, exec (.bankXferRestore t src r b) s = .next u ∧
      (u.region r).reqs = (a.region r).reqs ++ [⟨x, x + 6, .reg, .xferGo (b % 4) true⟩] ∧ (x + 6, .beamWrites r) ∈ u.agenda ∧
      u.fld (Reg.PLANE_XFER_CTL r) Fld.PLANE_XFER_CTL_BANK = b % 4 ∧ u.fld (Reg.PLANE_XFER_CTL r) Fld.PLANE_XFER_CTL_DIR = 1 ∧
      a.keepsRegs u [Reg.PLANE_XFER_CTL r] ∧ a.keepsMem u)) ∧
  (∀ (a u : State) (r b x e : Nat) (dir : Bool), r < 128 → b < 4 → a.beamReset = false → u = a.runLater (.beamWrites r) →
    (a.region r).reqs.filter (fun q => decide (q.edge ≤ a.now) && q.act.isConfig) = [⟨x, e, .reg, .xferGo b dir⟩] →
    (a.running r && a.bankPtr r == b) = false → (a.region r).xfer = none → (dir = false → a.bstate r b ≠ 0) → a.xferAddr r % 128 = 0 →
    u.bstate r b = 2 ∧ u.fld (Reg.PLANE_XFER_CTL r) Fld.PLANE_XFER_CTL_BUSY = 1 ∧
      (u.region r).xfer = some ⟨b, dir, dir || a.bankOutstanding r b == 0, none, []⟩ ∧
      (dir = false → a.bankOutstanding r b ≠ 0 → a.keepsRegs u [Reg.PLANE_XFER_CTL r, Reg.PLANE_BSTATE r]) ∧ a.keepsMem u) ∧
  (∀ (s a : State) (t r b : Nat) (got : Table (List Byte)), a = s.advance t → b < 4 →
    (a.region r).xfer = some ⟨b, false, true, none, got⟩ → a.xferOut r = false →
    ∃ u, exec (.bankXferDone t r) s = .next u ∧ (u.region r).xfer = none ∧ u.bstate r b = 1 ∧
      u.fld (Reg.PLANE_XFER_CTL r) Fld.PLANE_XFER_CTL_BUSY = 0 ∧ u.fld (Reg.PLANE_XFER_CTL r) Fld.PLANE_XFER_CTL_DONE = 1 ∧
      u.fld (Reg.PLANE_XFER_CTL r) Fld.PLANE_XFER_CTL_OUTCOME = 0 ∧ a.keepsRegs u [Reg.PLANE_XFER_CTL r, Reg.PLANE_BSTATE r] ∧ a.keepsMem u) ∧
  (∀ (s a : State) (t r : Nat) (x : Parked), a = s.advance t → a.running r = true → a.inCycle r = false → a.tpSpec r = false →
    a.parked r (a.bankPtr r) = [x] → x.mask = 0 →
    ∃ u, exec (.parkedResponseDelivery t r) s = .next u ∧ u.parked r (a.bankPtr r) = [] ∧
      (u.region r).rsp.map (fun d => (d.code, d.bytes, d.stream, d.len)) = some (x.code, x.bytes, x.stream, x.len) ∧
      a.keepsRegs u [] ∧ a.keepsMem u)

/-! ### Chapter 04: the loader and the image store -/

/-- Rests on R119, R121, R122, R123, R129, R130, R132, R144: a GO that meets no refusal starts a load in HEADER, from the slot or the memory that the
word names, as a verify where VERIFY is set; one that comes while a load runs, in a mode that takes none or in a beam reset is recorded and starts
none; a CANCEL before the CLOSE edge ends the load with code CANCEL, refused before the OPEN edge and aborted after it, and does nothing later or with
no load; while the header is read, a source read adds its bytes to what has been read, and the next read follows; a source read that fails ends the
load with SOURCE; APPLY issues the write of its next settings record with a fence behind it. The model's own choices in it: log entries 26, 83 and
91. -/
def Obligations.LoadsStartReadApplyAndCancel : Prop :=
  (∀ (s a : State) (t src v : Nat), Acts s t src Reg.CFG_LOAD_CTL a → v.testBit 30 = false → a.cfg.load = none → a.cfg.store = none →
    a.loadMode = true → a.beamReset = false →
    (v.testBit 10 = false → ∃ u, exec (.loadGo t src v) s = .next u ∧
      u.cfg.load.map (fun l => (l.verify, l.slot, l.raw, l.stage, l.opened)) =
        some (false, (if v.testBit 0 then some (v / 256 % 4) else none), [], 1, false) ∧
      u.fld Reg.CFG_LOAD_STATUS Fld.CFG_LOAD_STATUS_BUSY = 1 ∧ u.fld Reg.CFG_LOAD_STATUS Fld.CFG_LOAD_STATUS_STATE = 1 ∧
      u.reg Reg.CFG_LOAD_PROGRESS = 0 ∧
      a.keepsRegs u [Reg.CFG_LOAD_CTL, Reg.CFG_LOAD_STATUS, Reg.CFG_LOAD_PROGRESS] ∧ a.keepsMem u) ∧
    (∃ u, exec (.loadVerifyGo t src v) s = .next u ∧
      u.cfg.load.map (fun l => (l.verify, l.slot, l.raw, l.stage, l.opened)) =
        some (true, (if v.testBit 0 then some (v / 256 % 4) else none), [], 1, false) ∧
      u.fld Reg.CFG_LOAD_STATUS Fld.CFG_LOAD_STATUS_BUSY = 1 ∧ u.fld Reg.CFG_LOAD_STATUS Fld.CFG_LOAD_STATUS_STATE = 1 ∧
      u.reg Reg.CFG_LOAD_PROGRESS = 0 ∧
      a.keepsRegs u [Reg.CFG_LOAD_CTL, Reg.CFG_LOAD_STATUS, Reg.CFG_LOAD_PROGRESS] ∧ a.keepsMem u)) ∧
  (∀ (s a : State) (t src v : Nat) (c : Instr), Acts s t src Reg.CFG_LOAD_CTL a → v.testBit 30 = false →
    c ∈ [Instr.loadGo t src v, .loadVerifyGo t src v] → a.cfg.load.isSome = true ∨ a.cfg.store = none →
    a.cfg.load.isSome = true ∨ a.loadMode = false ∨ a.beamReset = true →
    ∃ u, exec c s = .next u ∧ u.cfg.load = a.cfg.load ∧ u.fld Reg.CFG_LOAD_STATUS Fld.CFG_LOAD_STATUS_RESULT = lrNotStarted ∧
      u.fld Reg.CFG_LOAD_STATUS Fld.CFG_LOAD_STATUS_FAIL =
        (if a.cfg.load.isSome then lfBusy else if a.loadMode = false then lfMode else lfReset) ∧
      u.fld Reg.CFG_LOAD_STATUS Fld.CFG_LOAD_STATUS_STATE = a.fld Reg.CFG_LOAD_STATUS Fld.CFG_LOAD_STATUS_STATE ∧
      a.keepsRegs u [Reg.CFG_LOAD_CTL, Reg.CFG_LOAD_STATUS, Reg.CFG_INT_STATUS] ∧ a.keepsMem u) ∧
  (∀ (s a : State) (t src v : Nat) (l : Load), Acts s t src Reg.CFG_LOAD_CTL a → v.testBit 31 = false → a.cfg.load = some l → l.stage ≠ 9 →
    ∃ u, exec (.loadCancel t src v) s = .next u ∧ u.fld Reg.CFG_LOAD_STATUS Fld.CFG_LOAD_STATUS_DONE = 1 ∧
      u.fld Reg.CFG_LOAD_STATUS Fld.CFG_LOAD_STATUS_RESULT = (if l.opened then 2 else 1) ∧
      u.fld Reg.CFG_LOAD_STATUS Fld.CFG_LOAD_STATUS_FAIL = 0x16 ∧ u.fld Reg.CFG_INT_STATUS Fld.CFG_INT_STATUS_LOAD = 1 ∧
      (l.boot ≠ 1 ∨ l.slot.getD 0 = 0 → u.cfg.load = none ∧ u.fld Reg.CFG_LOAD_STATUS Fld.CFG_LOAD_STATUS_BUSY = 0) ∧
      (l.opened = false → u.reg Reg.CFG_LOAD_FAIL_OFFSET = BitVec.ofNat 32 l.raw.length ∧ a.keepsMem u ∧
        (l.boot = 0 → a.keepsRegs u [Reg.CFG_LOAD_CTL, Reg.CFG_LOAD_STATUS, Reg.CFG_LOAD_FAIL_OFFSET, Reg.CFG_INT_STATUS]))) ∧
  (∀ (s a : State) (t src v : Nat), Acts s t src Reg.CFG_LOAD_CTL a → v.testBit 31 = false →
    a.cfg.load = none ∨ (∃ l, a.cfg.load = some l ∧ l.stage = 9) →
    ∃ u, exec (.loadCancel t src v) s = .next u ∧ u.cfg = a.cfg ∧ a.keepsRegs u [Reg.CFG_LOAD_CTL] ∧ a.keepsMem u) ∧
  (∀ (s a : State) (t id p : Nat) (l : Load) (d : Delivered), a = (s.advance t).arriveResp id p →
    a.noc.inbox.filter (fun x => x.src == srcLoader) = [d] → d.tag = tagLoad → d.code = 0 → a.cfg.load = some l → l.asked = true →
    a.idleNoc → l.stage = 1 → l.pos = 0 → l.chunk = 0 → l.slot = none → (l.raw ++ d.bytes).length < 256 → 256 ≤ l.limit →
    ∃ u, exec (.loadSourceResponse t id p) s = .next u ∧ u.cfg.load = some { l with raw := l.raw ++ d.bytes, asked := true } ∧
      u.noc.inbox.filter (fun x => x.src == srcLoader) = [] ∧
      (∃ q ∈ u.noc.reqs, q.src = srcLoader ∧ q.kind = .read ∧ q.tag = tagLoad ∧ q.addr = l.base + (l.raw ++ d.bytes).length) ∧
      a.keepsRegs u [] ∧ a.keepsMem u) ∧
  (∀ (s a : State) (t id p : Nat) (l : Load) (d : Delivered), a = (s.advance t).arriveResp id p →
    a.noc.inbox.filter (fun x => x.src == srcLoader) = [d] → d.tag = tagLoad → isErr d.code = true ∨ d.code = rPoison → a.cfg.load = some l →
    l.asked = true → l.boot = 0 → ∃ u, exec (.loadSourceResponse t id p) s = .next u ∧ u.cfg.load = none ∧
      u.fld Reg.CFG_LOAD_STATUS Fld.CFG_LOAD_STATUS_FAIL = lfSource ∧
      u.fld Reg.CFG_LOAD_STATUS Fld.CFG_LOAD_STATUS_RESULT = (if l.opened then 2 else 1) ∧
      u.reg Reg.CFG_LOAD_FAIL_OFFSET = BitVec.ofNat 32 l.raw.length ∧ a.keepsMem u) ∧
  (∀ (s a : State) (t : Nat) (l : Load) (b : List Byte), a = s.advance t → a.noc.inbox.all (fun x => x.src != srcLoader) = true →
    a.cfg.load = some l → l.stage = 9 → l.wait = false → a.mode ≠ modeSecureHalt → b = l.bytes a.imageKey (l.settingsAt + 8 * l.idx) 8 →
    ∃ u, exec (.settingsRecordWrite t) s = .next u ∧ u.cfg.load = some { l with wait := true } ∧
      (∃ q ∈ u.noc.reqs, q.src = srcLoader ∧ q.kind = .write ∧ q.tag = tagApply ∧ q.data = b.drop 4 ∧
        q.addr = a.fld Reg.DEV_BOARD Fld.DEV_BOARD_DEVNUM * 2 ^ 48 + 0xF000000000 + leField b 0 4) ∧
      (∃ q ∈ u.noc.reqs, q.src = srcLoader ∧ q.kind = .fence ∧ q.tag = tagApply ∧ q.report = true) ∧ a.keepsMem u)

/-- Rests on R136, R137, R138, R140, R143, R233: a store command that meets no refusal is taken up with BUSY set, and a WRITE is counted for its slot;
the boot selection goes to the system area; UNLOCK is written by the secure domain alone; UNLOCK_GOLDEN judges the block it has read, forgets the
nonce, answers, and unlocks on success. The model's own choice in it: log entry 83. -/
def Obligations.ImageStoreCommandsAreTaken : Prop :=
  (∀ (s a : State) (t src v : Nat), Acts s t src Reg.CFG_BOOT_SEL a →
    ∃ u, exec (.cfgBootSelWrite t src v) s = .next u ∧ u.cfg.bootSel = BitVec.ofNat 32 (v &&& 0x383) ∧ a.keepsRegs u [] ∧ a.keepsMem u) ∧
  (∀ (s a : State) (t src slot off len : Nat), Acts s t src Reg.CFG_STORE_CTL a → a.cfg.store = none →
    off = a.fld Reg.CFG_STORE_OFFSET Fld.CFG_STORE_OFFSET_OFFSET → len = a.fld Reg.CFG_STORE_LEN Fld.CFG_STORE_LEN_LEN → len ≠ 0 →
    (off + len) * 4096 ≤ 2 ^ 25 →
    (∃ u, exec (.storeRead t src slot) s = .next u ∧
      u.cfg.store.map (fun o => (o.write, o.slot, o.off, o.left)) = some (false, slot % 4, off * 4096, len) ∧
      u.fld Reg.CFG_STORE_STATUS Fld.CFG_STORE_STATUS_BUSY = 1 ∧ u.fld Reg.CFG_STORE_STATUS Fld.CFG_STORE_STATUS_PROGRESS = 0 ∧
      a.keepsRegs u [Reg.CFG_STORE_CTL, Reg.CFG_STORE_STATUS] ∧ a.keepsMem u) ∧
    (slot % 4 ≠ 0 ∨ a.fuse.protected_ = false ∨ a.bit Reg.CFG_STORE_GOLDEN Fld.CFG_STORE_GOLDEN_UNLOCK = true →
      a.writeCount (slot % 4) < 10000 → a.loaderReads (slot % 4) = false →
      ∃ u, exec (.storeWrite t src slot) s = .next u ∧
      u.cfg.store.map (fun o => (o.write, o.slot, o.off, o.left)) = some (true, slot % 4, off * 4096, len) ∧
      u.writeCount (slot % 4) = a.writeCount (slot % 4) + 1 ∧
      u.fld Reg.CFG_STORE_STATUS Fld.CFG_STORE_STATUS_BUSY = 1 ∧ u.fld Reg.CFG_STORE_STATUS Fld.CFG_STORE_STATUS_PROGRESS = 0 ∧
      (a.writeCount (slot % 4) = 9999 → u.bit Reg.CFG_INT_STATUS Fld.CFG_INT_STATUS_WORN = true) ∧
      a.keepsRegs u [Reg.CFG_STORE_CTL, Reg.CFG_STORE_STATUS, Reg.CFG_INT_STATUS] ∧ a.keepsMem u)) ∧
  (∀ (s a : State) (t : Nat), Acts s t 0 Reg.CFG_STORE_GOLDEN a →
    ∃ u, exec (.goldenUnlockWrite t 0) s = .next u ∧ u.fld Reg.CFG_STORE_GOLDEN Fld.CFG_STORE_GOLDEN_UNLOCK = 1 ∧
      a.keepsRegs u [Reg.CFG_STORE_GOLDEN] ∧ a.keepsMem u) ∧
  (∀ (s a : State) (t src : Nat), Acts s t src Reg.CFG_STORE_GOLDEN a → src ≠ 0 →
    ∃ u, exec (.goldenUnlockWrite t src) s = .next u ∧ a.keepsRegs u [] ∧ a.keepsMem u) ∧
  (∀ (s a : State) (t arg c : Nat) (nonce : Word32) (d e : Delivered), a = s.advance t → a.mboxCommand = some (2, arg) →
    a.nonce = some nonce → a.noc.reqs.any (fun r => r.src == 0 && r.tag == tagFirmware && !r.done) = false →
    (a.noc.inbox.filter (fun x => x.src == 0 && x.tag == tagFirmware)).find? (fun x => x.addr == a.unlockAddr arg) = some d →
    (a.noc.inbox.filter (fun x => x.src == 0 && x.tag == tagFirmware)).find? (fun x => x.addr == a.unlockAddr arg + 128) = some e →
    d.code = 0 → e.code = 0 → c = a.unlockOutcome nonce (d.bytes ++ e.bytes) →
    ∃ u, exec (.mboxUnlockGolden t) s = .next u ∧ u.nonce = none ∧ u.reg (Reg.ENG_MBOX_OUT 0) = BitVec.ofNat 32 (0x2000000 + c) ∧
      (c = 0 → u.fld Reg.CFG_STORE_GOLDEN Fld.CFG_STORE_GOLDEN_UNLOCK = 1) ∧
      (c ≠ 0 → u.reg Reg.CFG_STORE_GOLDEN = a.reg Reg.CFG_STORE_GOLDEN) ∧ u.mboxCommand = none ∧
      a.keepsRegs u [Reg.CFG_STORE_GOLDEN, Reg.ENG_MBOX_DB 0, Reg.ENG_MBOX_OUT 0] ∧ a.keepsMem u)

/-! ### Chapters 05 and 06: tallies and speculation -/

/-- Rests on R147, R154, R155, R157, R159, R160: an eight-byte read of the create window makes a WAITING record and answers its handle; a token at a
region's output enters its queue; the matching store takes a token, at once or after a record fetch, of which sixteen may be outstanding, and the token
fills its slot one sc later, with which a tally that lacks no other becomes READY; a token for a handle that is not current is refused and counted. -/
def Obligations.TalliesAreCreatedAndFilledByTokens : Prop :=
  (∀ (s a : State) (t id p tm i : Nat) (rq : Request) (q : Part), a = s.advance t → a.servable id p = some (rq, q) → rq.kind = .read →
    q.len = 8 → ctlBase ≤ q.addr % 2 ^ 48 → createTemplate (q.addr % 2 ^ 48 - ctlBase) = some tm → a.isLocal q.addr = true →
    a.tEn tm = true → a.storeReady = true → a.nextFree = some i →
    ∃ u, exec (.tallyCreate t id p) s = .next u ∧ (u.trec i).state = 1 ∧ (u.trec i).template = tm ∧ (u.trec i).gen = (a.trec i).gen ∧
      (u.trec i).full = 0 ∧ (u.trec i).deadline = (a.tallyNow + (a.reg (Reg.TALLY_TMPL_DEADLINE tm)).toNat) % 2 ^ 48 ∧
      (∀ j, j ≠ i → u.trec j = a.trec j) ∧ u.answered id p ⟨0, toBytes 8 (i * 256 + (a.trec i).gen % 256), [false], false⟩ ∧
      a.keepsRegs u [] ∧ a.keepsMem u) ∧
  (∀ (s a : State) (t r handle slot value : Nat) (poison : Bool), a = s.advance t → a.running r = true → a.inCycle r = false →
    a.tpSpec r = false → (a.sreg r).buf = [] → a.queueFull (64 + r) = false →
    ∃ u, exec (.tpToken t r handle slot value poison) s = .next u ∧
      u.tokens (64 + r) = a.tokens (64 + r) ++ [⟨handle % 2 ^ 28, slot % 4, BitVec.ofNat 64 value, poison⟩] ∧
      a.keepsRegs u [] ∧ a.keepsMem u) ∧
  (∀ (s a : State) (t src i : Nat) (k : Token) (l : List Token), a = s.advance t → a.storeReady = true →
    a.sch.taken ≠ a.scNow ∨ a.sch.takenOf.length < 4 → a.nextSource = some src → a.tokens src = k :: l →
    a.sch.pend.find? (fun p => p.1 / 64 == src) = none → i = handleIdx k.handle → a.current k.handle = true →
    k.slot ≤ a.tNops (a.trec i).template → (a.trec i).full.testBit k.slot = false →
    a.sch.fills.any (fun f => f.1 == i && f.2.2.2.slot == k.slot) = false → a.windowOver i = false →
    ∃ u, exec (.tokenMatch t false) s = .next u ∧ u.tokens src = l ∧ u.sch.fills = a.sch.fills ++ [(i, a.scNow + 1, src, k)] ∧
      (a.scNext, .fills) ∈ u.agenda ∧ u.sch.recs = a.sch.recs ∧ u.sch.served = src ∧ a.keepsRegs u [] ∧ a.keepsMem u) ∧
  (∀ (a u : State) (i src : Nat) (k : Token), u = a.runLater .fills →
    a.sch.fills.filter (fun f => f.2.1 == a.scNow) = [(i, a.scNow, src, k)] → (a.trec i).state = 1 → k.slot < 4 →
    (u.trec i).full = (a.trec i).full ||| 2 ^ k.slot ∧ (u.trec i).op k.slot = k.value ∧ (u.trec i).fillAt = a.scNow ∧
      ((u.trec i).state = 2 ↔ a.recFull (u.trec i) = true) ∧ (∀ j, j ≠ i → u.trec j = a.trec j) ∧ a.keepsRegs u [] ∧ a.keepsMem u) ∧
  (∀ (s a : State) (t src : Nat), a = s.advance t → a.storeReady = true → a.sch.taken ≠ a.scNow ∨ a.sch.takenOf.length < 4 →
    a.nextSource = some src →
    (a.sch.fetch.length < 16 → ∃ u, exec (.tokenMatch t true) s = .next u ∧ tfind u.sch.fetch src = some a.scNow ∧
      u.tokens src = a.tokens src ∧ u.sch.recs = a.sch.recs ∧ a.keepsRegs u [] ∧ a.keepsMem u) ∧
    (16 ≤ a.sch.fetch.length → ∃ u, exec (.tokenMatch t true) s = .next u ∧ u.sch.fetch = a.sch.fetch ∧ u.tokens src = a.tokens src ∧
      src ∈ u.sch.passed ∧ u.sch.recs = a.sch.recs ∧ a.keepsRegs u [] ∧ a.keepsMem u)) ∧
  (∀ (s a : State) (t src i x : Nat) (k : Token) (l : List Token), a = s.advance t → tfind a.sch.fetch src = some x → x + 12 ≤ a.scNow →
    a.tokens src = k :: l → a.sch.pend.find? (fun p => p.1 / 64 == src) = none → i = handleIdx k.handle →
    a.current k.handle = true → k.slot ≤ a.tNops (a.trec i).template → (a.trec i).full.testBit k.slot = false →
    a.sch.fills.any (fun f => f.1 == i && f.2.2.2.slot == k.slot) = false → a.windowOver i = false →
    ∃ u, exec (.recordFetchDone t src) s = .next u ∧ tfind u.sch.fetch src = none ∧ u.tokens src = l ∧
      u.sch.fills = a.sch.fills ++ [(i, a.scNow + 1, src, k)] ∧ (a.scNext, .fills) ∈ u.agenda ∧ u.sch.recs = a.sch.recs ∧
      a.keepsRegs u [] ∧ a.keepsMem u) ∧
  (∀ (s a : State) (t src : Nat) (k : Token) (l : List Token), a = s.advance t → a.storeReady = true →
    a.sch.taken ≠ a.scNow ∨ a.sch.takenOf.length < 4 → a.nextSource = some src → a.tokens src = k :: l → a.current k.handle = false →
    ∃ u, exec (.tokenMatch t false) s = .next u ∧ u.sch.recs = a.sch.recs ∧
      u.fld Reg.TALLY_CNT_REFUSED Fld.TALLY_CNT_REFUSED_COUNT =
        (a.fld Reg.TALLY_CNT_REFUSED Fld.TALLY_CNT_REFUSED_COUNT + 1) % 2 ^ Fld.TALLY_CNT_REFUSED_COUNT.width ∧ a.keepsMem u)

/-- Rests on R161, R162, R165, R166, R176: a decision makes the only candidate RUNNING in its region and bank and sends its dispatch; the dispatch
reaches the beam one sc later; a done that the region may give ends the task, and at the next sc edge the record is freed and its generation increases,
so that its handle is no longer current. -/
def Obligations.TalliesAreDispatchedAndDone : Prop :=
  (∀ (s a : State) (t r i b : Nat) (x : TallyRec), a = s.advance t → a.sch.recs = [(i, x)] → a.decisionsAllowed = true →
    a.sch.decided ≠ a.scNow + 1 → a.sch.cancels = [] → x.state = 2 → x.fillAt < a.scNow → a.sch.region.any (fun q => q.2.waiting == some i) = false →
    a.tKindEngine x.template = false → (List.range 128).filter (fun n => a.mayRun n x && a.regionOpen n) = [r] →
    a.pstate r (a.tPlane x.template) = 1 → a.runningIn r = none → a.specIn r = none → a.bankOf r x none = some b →
    ∃ u, exec (.schedulerDecision t) s = .next u ∧ (u.trec i).state = 3 ∧ (u.trec i).unit = r ∧ (u.trec i).bank = b ∧
      (u.trec i).placed = true ∧ (u.trec i).engine = false ∧
      (u.sreg r).disp = some ⟨a.now, i, a.tPlane x.template, b, !a.tFixed x.template, false, false, none, false⟩ ∧
      u.fld Reg.TALLY_CNT_DISPATCH Fld.TALLY_CNT_DISPATCH_COUNT =
        (a.fld Reg.TALLY_CNT_DISPATCH Fld.TALLY_CNT_DISPATCH_COUNT + 1) % 2 ^ Fld.TALLY_CNT_DISPATCH_COUNT.width ∧
      a.keepsRegs u [Reg.TALLY_CNT_DISPATCH] ∧ a.keepsMem u) ∧
  (∀ (s a : State) (t r : Nat) (d : Dispatch), a = s.advance t → (a.sreg r).disp = some d → d.atBeam = false →
    d.q / 12 * 12 + 12 ≤ a.now →
    ∃ u, exec (.dispatchAtBeam t r) s = .next u ∧ (u.sreg r).disp = some { d with atBeam := true } ∧
      (u.region r).reqs = (a.region r).reqs ++ [⟨d.q / 12 * 12 + 12, d.q / 12 * 12 + 18, .sched,
        .dispatch d.plane d.bank d.init d.resume (a.handleOf d.idx)⟩] ∧ a.keepsRegs u [] ∧ a.keepsMem u) ∧
  (∀ (s a : State) (t r i : Nat), a = s.advance t → a.running r = true → a.inCycle r = false → (a.sreg r).buf = [] →
    a.bankOutstanding r (a.bankPtr r) = 0 → a.doneTally r = some i →
    ∃ u, exec (.taskDone t r) s = .next u ∧ (u.sreg r).bound = none ∧ (u.sreg r).leaving = none ∧ u.sch.recs = a.sch.recs ∧
      (a.scNext, .taskEnd r (a.handleOf i)) ∈ u.agenda ∧ a.keepsRegs u [] ∧ a.keepsMem u) ∧
  (∀ (a u : State) (r h i : Nat), u = a.runLater (.taskEnd r h) → i = handleIdx h → a.current h = true → a.sch.fills = [] →
    a.indexDead i = false → (u.trec i).state = 0 ∧ (u.trec i).gen = ((a.trec i).gen + 1) % 256 ∧ u.current h = false ∧
      u.sch.free = i :: a.sch.free ∧ (∀ j, j ≠ i → u.trec j = a.trec j) ∧ a.keepsRegs u [] ∧ a.keepsMem u)

/-- Rests on R151, R152, R172, R174, R177: an acknowledged spill leaves its tally SPILLED at the next sc edge; a cancel written takes effect at its edge, frees a WAITING
or READY tally, and reports CANCELLED, or STALE for a handle that is not current; QUIESCE is written, the scheduler decides to isolate a quiescing
region in which no tally runs, and the isolation takes effect one sc and one fc after; a template is enabled when every check holds, refused with a code otherwise, and disabled by a write of EN = 0. -/
def Obligations.SpillsCancelsQuiesceAndTemplates : Prop :=
  (∀ (s a : State) (t src n outcome : Nat) (j : SpillJob), Acts s t src (Reg.TALLY_SPILL_ACK n) a → n < 64 → tfind a.sch.jobs n = some j →
    ∃ u, exec (.tallySpillAckWrite t src n outcome) s = .next u ∧ tfind u.sch.jobs n = none ∧ u.sch.recs = a.sch.recs ∧
      u.fld (Reg.TALLY_SPILL_REQ n) Fld.TALLY_SPILL_REQ_VALID = 0 ∧ (a.scNext, .spillEnd j (outcome % 16)) ∈ u.agenda ∧
      a.keepsRegs u [Reg.TALLY_SPILL_REQ n] ∧ a.keepsMem u) ∧
  (∀ (a u : State) (j : SpillJob), u = a.runLater (.spillEnd j 0) → j.dir = false → (a.trec j.idx).state = 5 →
    (u.trec j.idx).state = 6 ∧ (u.trec j.idx).spillSlot = j.slot ∧ (u.sreg j.region).waiting = none ∧
      (∀ i, i ≠ j.idx → u.trec i = a.trec i) ∧
      a.keepsRegs u [Reg.TALLY_SPILL_REQ (j.region % 64), Reg.TALLY_CNT_SPILL] ∧ a.keepsMem u) ∧
  (∀ (s a : State) (t src h : Nat), Acts s t src Reg.TALLY_CANCEL a →
    ∃ u, exec (.tallyCancelWrite t src h) s = .next u ∧ u.sch.cancels = a.sch.cancels ++ [⟨.reg, h % 2 ^ 28, a.now / 12 * 12⟩] ∧
      u.sch.recs = a.sch.recs ∧ a.keepsRegs u [] ∧ a.keepsMem u) ∧
  (∀ (s a : State) (t h k i : Nat), a = s.advance t → a.sch.cancels = [⟨.reg, h, k⟩] → k ≤ a.now → a.storeReady = true → i = handleIdx h →
    (a.current h = true → ((a.trec i).state = 1 ∨ (a.trec i).state = 2) → a.sch.fills = [] → a.indexDead i = false →
      ∃ u, exec (.cancelEvaluate t) s = .next u ∧ (u.trec i).state = 0 ∧ (u.trec i).gen = ((a.trec i).gen + 1) % 256 ∧
        u.sch.cancels = [] ∧ u.fld Reg.TALLY_CANCEL_STAT Fld.TALLY_CANCEL_STAT_DONE = 1 ∧
        u.fld Reg.TALLY_CANCEL_STAT Fld.TALLY_CANCEL_STAT_OUTCOME = 0 ∧ a.keepsRegs u [Reg.TALLY_CANCEL_STAT] ∧ a.keepsMem u) ∧
    (a.current h = false →
      ∃ u, exec (.cancelEvaluate t) s = .next u ∧ u.sch.recs = a.sch.recs ∧
        u.sch.cancels = [] ∧ u.fld Reg.TALLY_CANCEL_STAT Fld.TALLY_CANCEL_STAT_DONE = 1 ∧
        u.fld Reg.TALLY_CANCEL_STAT Fld.TALLY_CANCEL_STAT_OUTCOME = 1 ∧ a.keepsRegs u [Reg.TALLY_CANCEL_STAT] ∧ a.keepsMem u)) ∧
  (∀ (s a : State) (t src r : Nat) (v : Bool), Acts s t src (Reg.TALLY_REGION r) a → a.specIn r = none →
    ∃ u, exec (.tallyRegionQuiesceWrite t src r v) s = .next u ∧ u.bit (Reg.TALLY_REGION r) Fld.TALLY_REGION_QUIESCE = v ∧
      u.sch = a.sch ∧ a.keepsRegs u [Reg.TALLY_REGION r] ∧ a.keepsMem u) ∧
  (∀ (a : State) (r : Nat), a.quiescing r = true → a.scheduled r = true → a.running r = true → a.runningIn r = none →
    (a.sreg r).isoAt = none → (a.sreg r).busyUntil ≤ a.now → ((a.runLater (.quiesce r)).sreg r).isoAt = some (a.now + 18) ∧
      (a.runLater (.quiesce r)).sch.recs = a.sch.recs ∧ a.keepsRegs (a.runLater (.quiesce r)) []) ∧
  (∀ (s a : State) (t r e : Nat), a = s.advance t → (a.sreg r).isoAt = some e → e ≤ a.now → a.scheduled r = true → a.running r = true →
    (a.region r).reqs = [] → (a.region r).cyc = none → a.specIn r = none →
    ∃ u, exec (.schedulerIsolation t r) s = .next u ∧ u.rstate r = 1 ∧ u.planePtr r = a.planePtr r ∧ u.bankPtr r = a.bankPtr r ∧
      a.keepsRegs u [Reg.PLANE_STATUS r] ∧ a.keepsMem u) ∧
  (∀ (s a b : State) (t src tm v : Nat), Acts s t src (Reg.TALLY_TMPL_CTL tm) a → tm < 4096 → a.tEn tm = false →
    b = (if a.tLocked tm then a else a.setReg (Reg.TALLY_TMPL_CTL tm) (BitVec.ofNat 32 v &&& tmplMask)) →
    (b.enableCheck tm = 0 → ∃ u, exec (.templateEnable t src tm v) s = .next u ∧
      u.reg (Reg.TALLY_TMPL_CTL tm) = 0x80000000 ||| b.reg (Reg.TALLY_TMPL_CTL tm) ∧ u.tEn tm = true ∧
      u.fld Reg.TALLY_TMPL_RESULT Fld.TALLY_TMPL_RESULT_OUTCOME = 0 ∧
      a.keepsRegs u [Reg.TALLY_TMPL_CTL tm, Reg.TALLY_TMPL_RESULT] ∧ a.keepsMem u) ∧
    (b.enableCheck tm ≠ 0 → ∃ u, exec (.templateEnable t src tm v) s = .next u ∧ u.tEn tm = false ∧
      u.fld Reg.TALLY_TMPL_RESULT Fld.TALLY_TMPL_RESULT_OUTCOME = b.enableCheck tm ∧
      a.keepsRegs u [Reg.TALLY_TMPL_CTL tm, Reg.TALLY_TMPL_RESULT] ∧ a.keepsMem u)) ∧
  (∀ (s a : State) (t src tm v : Nat), Acts s t src (Reg.TALLY_TMPL_CTL tm) a →
    ∃ u, exec (.templateDisable t src tm v) s = .next u ∧ u.tEn tm = false ∧ a.keepsRegs u [Reg.TALLY_TMPL_CTL tm] ∧ a.keepsMem u)

/-- Rests on R191, R193, R198: at its edge a commit lowers TP_SPEC and lets the commit buffer drain, which releases its oldest token to the region's
queue; an expired window squashes its tally with WINDOW; a squash takes effect at its E0 with the task port idle, in a switch cycle to the same plane and bank that initialises the bank. -/
def Obligations.SpeculationCommitsOrIsSquashed : Prop :=
  (∀ (s a : State) (t r m i : Nat), a = s.advance t → (a.sreg r).commitAt = some m → (a.sreg r).bound = some i → m ≤ a.now →
    a.tpSpec r = true → (a.trec i).specLate = false → (a.sreg r).withheld = [] →
    ∃ u, exec (.specCommitAtRegion t r) s = .next u ∧ u.tpSpec r = false ∧ (u.sreg r).tpResolved = some m ∧
      (u.sreg r).commitAt = none ∧ (u.sreg r).buf = (a.sreg r).buf ∧ (u.sreg r).draining = !(a.sreg r).buf.isEmpty ∧
      (u.sreg r).tpOps = (a.sreg r).tpOps ∧ a.keepsRegs u [] ∧ a.keepsMem u) ∧
  (∀ (s a : State) (t r : Nat) (k : Token) (l : List BufEntry), a = s.advance t → (a.sreg r).draining = true →
    (a.sreg r).buf = .token k :: l → a.queueFull (64 + r) = false →
    ∃ u, exec (.commitBufferRelease t r) s = .next u ∧ u.tokens (64 + r) = a.tokens (64 + r) ++ [k] ∧ (u.sreg r).buf = l ∧
      (u.sreg r).draining = !l.isEmpty ∧ a.keepsRegs u [] ∧ a.keepsMem u) ∧
  (∀ (s a : State) (t r i : Nat), a = s.advance t → a.specIn r = some i → (a.trec i).unit = r → a.windowOver i = true →
    (a.trec i).specSlot ≤ a.tNops (a.trec i).template →
    ∃ u, exec (.specWindowExpiry t r) s = .next u ∧ (u.trec i).state = 1 ∧ (u.trec i).squashed = true ∧ (u.trec i).lastReason = 2 ∧
      (u.sreg r).squash.map (·.reason) = some 2 ∧ (u.sreg r).commitAt = none ∧ (∀ j, j ≠ i → u.trec j = a.trec j) ∧ a.keepsMem u) ∧
  (∀ (s a : State) (t r : Nat) (q : Squash), a = s.advance t → (a.sreg r).squash = some q → q.e0 ≤ a.now → a.running r = true →
    a.beamReset = false → (a.sreg r).buf = [] → r < 128 →
    ∃ u, exec (.squashSwitch t r) s = .next u ∧ u.tpSpec r = false ∧ (u.sreg r).squash = none ∧ (u.sreg r).bound = none ∧
      u.planePtr r = a.planePtr r ∧ u.bankPtr r = a.bankPtr r ∧ u.parked r (a.bankPtr r) = [] ∧
      (u.region r).cyc.map (fun c => (c.e1, c.init)) = some (q.e0 + 6, true) ∧
      a.keepsRegs u [Reg.PLANE_PTR r, Reg.PLANE_SWITCH_CNT r, Reg.PLANE_STATUS r] ∧ a.keepsMem u)

/-! ### Chapter 07: reckoner engines -/

/-- Rests on R204, R213, R225, R226, R227, R231: base instructions without a memory request. An ALU instruction writes its result to rd, where x0 discards it, and goes
on behind itself; JAL links and jumps; ECALL and an illegal word trap: mepc takes the pc, mcause the cause, and machine mode goes on at mtvec; so does
an instruction that would consume a marked register, with its number in xqpsn. An instruction that stalled as RUN was cleared leaves its engine HALTED, which
ENG_STATUS shows (R231), here and in the next three statements. The
model's own choices in it: log entries 21, 23 and 24. -/
def Obligations.EngineBaseInstructionsExecute : Prop :=
  (∀ (s a : State) (t n len rd x y : Nat) (op : Alu), Issues s t n a len (.aluReg op rd x y) →
    ∃ u, exec (.engineInstruction t n) s = .next u ∧
      (u.engine n).get rd = (if rd = 0 then (a.engine n).get 0 else op.eval ((a.engine n).get x) ((a.engine n).get y)) ∧
      (∀ k, k ≠ rd → (u.engine n).get k = (a.engine n).get k) ∧ (u.engine n).pc = (a.engine n).pc + BitVec.ofNat 32 len ∧
      (u.engine n).csr = (a.engine n).csr ∧ (∀ m, m ≠ n → u.engine m = a.engine m) ∧ a.keepsRegs u [Reg.ENG_STATUS n] ∧ a.keepsMem u) ∧
  (∀ (s a : State) (t n len rd : Nat) (imm : Word32), Issues s t n a len (.jal rd imm) →
    ∃ u, exec (.engineInstruction t n) s = .next u ∧ (u.engine n).pc = (a.engine n).pc + imm ∧
      (rd ≠ 0 → (u.engine n).get rd = (a.engine n).pc + BitVec.ofNat 32 len) ∧
      (∀ k, k ≠ rd → (u.engine n).get k = (a.engine n).get k) ∧ a.keepsRegs u [Reg.ENG_STATUS n] ∧ a.keepsMem u) ∧
  (∀ (s a : State) (t n len : Nat), Issues s t n a len .ecall →
    ∃ u, exec (.engineInstruction t n) s = .next u ∧ (u.engine n).csrVal csrMepc = (a.engine n).pc &&& 0xFFFFFFFE ∧
      (u.engine n).csrVal csrMcause = (if a.machineMode n then 11 else 8) ∧
      (u.engine n).pc = (a.engine n).csrVal csrMtvec &&& 0xFFFFFFFC ∧ u.machineMode n = true ∧ (u.engine n).x = (a.engine n).x ∧
      a.keepsRegs u [Reg.ENG_STATUS n] ∧ a.keepsMem u) ∧
  (∀ (s a : State) (t n len : Nat), Issues s t n a len .illegal →
    ∃ u, exec (.engineInstruction t n) s = .next u ∧ (u.engine n).csrVal csrMepc = (a.engine n).pc &&& 0xFFFFFFFE ∧
      (u.engine n).csrVal csrMcause = 2 ∧ (u.engine n).pc = (a.engine n).csrVal csrMtvec &&& 0xFFFFFFFC ∧ u.machineMode n = true ∧
      (u.engine n).x = (a.engine n).x ∧ a.keepsRegs u [Reg.ENG_STATUS n] ∧ a.keepsMem u) ∧
  (∀ (s a : State) (t n w len r : Nat) (i : Rv), (s.engAdvance t n).toIssue n = .instr a w len i → i.isBase = true →
    (a.engine n).poisonedUse i = some r →
    ∃ u, exec (.engineInstruction t n) s = .next u ∧ (u.engine n).csrVal csrMepc = (a.engine n).pc &&& 0xFFFFFFFE ∧
      (u.engine n).csrVal csrMcause = 24 ∧ (u.engine n).csrVal csrXqpsn = BitVec.ofNat 32 (2 ^ 31 + r) ∧
      (u.engine n).pc = (a.engine n).csrVal csrMtvec &&& 0xFFFFFFFC ∧ u.machineMode n = true ∧ (u.engine n).x = (a.engine n).x ∧ a.keepsMem u)

/-- Rests on R204, R206, R208, R211, R223, R224, R227: loads, stores and atomics act on local RAM at once; a load from the device holds the pipeline with a
request on its way, and its answer writes rd, or a failing one traps; a store to the device sends its write and goes on; LR takes the reservation, with which an
SC writes and answers 0, and without which it answers 1; a fence holds the pipeline; FENCE.I empties the instruction cache; a line that arrives fills it. The model's own choices in it: log entries 21, 24, 43 and 44. -/
def Obligations.EngineMemoryInstructionsExecute : Prop :=
  (∀ (s a : State) (t n len f3 rd r o : Nat) (imm : Word32) (w : Word72), Issues s t n a len (.load f3 rd r imm) →
    f3 ∈ [0, 1, 2, 4, 5] → ((a.engine n).get r + imm).toNat % formSize f3 = 0 →
    (a.engine n).pmpOk (a.dataMachine n) ((a.engine n).get r + imm).toNat (formSize f3) 0 = true →
    a.engTarget n ((a.engine n).get r + imm).toNat = .ram o → tfind (a.engine n).ram (o / 8) = some w →
    ∃ u, exec (.engineLoad t n) s = .next u ∧
      (u.engine n).get rd = (if rd = 0 then (a.engine n).get 0 else
        loadValue f3 (((toBytes 8 (decodeWord w).2.toNat).drop (o % 8)).take (formSize f3))) ∧
      (rd ≠ 0 → rd < 32 → (u.engine n).marked rd = (decodeWord w).1.bad) ∧ (∀ k, k ≠ rd → (u.engine n).get k = (a.engine n).get k) ∧
      (u.engine n).pc = (a.engine n).pc + BitVec.ofNat 32 len ∧ (u.engine n).busy = .idle ∧
      a.keepsRegs u [Reg.ENG_STATUS n, Reg.ENG_LRAM_ERR n] ∧
      ((decodeWord w).1 = .clean → a.keepsRegs u [Reg.ENG_STATUS n]) ∧ ((decodeWord w).1 ≠ .corrected → a.keepsMem u)) ∧
  (∀ (s a : State) (t n len f3 rd r d : Nat) (imm : Word32), Issues s t n a len (.load f3 rd r imm) → f3 ∈ [0, 1, 2, 4, 5] →
    ((a.engine n).get r + imm).toNat % formSize f3 = 0 →
    (a.engine n).pmpOk (a.dataMachine n) ((a.engine n).get r + imm).toNat (formSize f3) 0 = true →
    a.engTarget n ((a.engine n).get r + imm).toNat = .dev d → a.gateState n = 0 →
    ∃ u, exec (.engineLoad t n) s = .next u ∧ (u.engine n).busy = .load rd f3 ((a.engine n).get r + imm).toNat ∧
      (∃ q ∈ u.noc.reqs, q.src = n ∧ q.kind = .read ∧ q.addr = d ∧ q.len = formSize f3 ∧ q.tag = tagEngLoad) ∧ a.keepsMem u) ∧
  (∀ (s a : State) (t n id p rd f3 x : Nat) (d : Delivered), a = (s.advance t).arriveResp id p → a.engGated n = false →
    a.noc.inbox.filter (fun y => y.src == n && y.tag != tagFirmware) = [d] → d.tag = tagEngLoad → (a.engine n).busy = .load rd f3 x →
    f3 < 8 →
    (isErr d.code = false → ∃ u, exec (.engineLoadResponse t n id p) s = .next u ∧
      (u.engine n).get rd = (if rd = 0 then (a.engine n).get 0 else loadValue f3 d.bytes) ∧ (u.engine n).busy = .idle ∧
      (u.engine n).pc = (a.engine n).next ∧ a.keepsRegs u [Reg.ENG_STATUS n] ∧ a.keepsMem u) ∧
    (isErr d.code = true → ∃ u, exec (.engineLoadResponse t n id p) s = .next u ∧ (u.engine n).x = (a.engine n).x ∧
      (u.engine n).busy = .idle ∧ (u.engine n).csrVal csrMcause = 5 ∧ (u.engine n).csrVal csrMepc = (a.engine n).pc &&& 0xFFFFFFFE ∧
      (u.engine n).csrVal csrMtval = BitVec.ofNat 32 x ∧ (u.engine n).csrVal csrXqbuserr = BitVec.ofNat 32 (16 + d.code) ∧
      (u.engine n).pc = (a.engine n).csrVal csrMtvec &&& 0xFFFFFFFC ∧ u.machineMode n = true ∧
      a.keepsRegs u [Reg.ENG_STATUS n] ∧ a.keepsMem u)) ∧
  (∀ (s a : State) (t n len f3 x y o : Nat) (imm : Word32), Issues s t n a len (.store f3 x y imm) → f3 < 3 →
    ((a.engine n).get x + imm).toNat % 2 ^ f3 = 0 →
    (a.engine n).pmpOk (a.dataMachine n) ((a.engine n).get x + imm).toNat (2 ^ f3) 1 = true →
    a.engTarget n ((a.engine n).get x + imm).toNat = .ram o →
    ∃ u, exec (.engineStore t n) s = .next u ∧
      tfind (u.engine n).ram (o / 8) = some (writeWord (a.lramWord n (o / 8)) (byteEnables o (2 ^ f3) (o / 8))
        (wordOfBytes o (toBytes (2 ^ f3) ((a.engine n).get y).toNat) (o / 8)) ((a.engine n).marked y)).1 ∧
      (∀ k, k ≠ o / 8 → tfind (u.engine n).ram k = tfind (a.engine n).ram k) ∧ (∀ m, m ≠ n → u.engine m = a.engine m) ∧
      (u.engine n).x = (a.engine n).x ∧ (u.engine n).pc = (a.engine n).pc + BitVec.ofNat 32 len ∧
      a.keepsRegs u [Reg.ENG_STATUS n, Reg.ENG_LRAM_ERR n]) ∧
  (∀ (s a : State) (t n len f3 x y d : Nat) (imm : Word32), Issues s t n a len (.store f3 x y imm) → f3 < 3 →
    ((a.engine n).get x + imm).toNat % 2 ^ f3 = 0 →
    (a.engine n).pmpOk (a.dataMachine n) ((a.engine n).get x + imm).toNat (2 ^ f3) 1 = true →
    a.engTarget n ((a.engine n).get x + imm).toNat = .dev d → a.gateState n = 0 → a.mode ≠ modeSecureHalt →
    ∃ u, exec (.engineStore t n) s = .next u ∧ (u.engine n).x = (a.engine n).x ∧
      (u.engine n).pc = (a.engine n).pc + BitVec.ofNat 32 len ∧
      (∃ q ∈ u.noc.reqs, q.src = n ∧ q.kind = .write ∧ q.addr = d ∧ q.len = 2 ^ f3 ∧
        q.data = toBytes (2 ^ f3) ((a.engine n).get y).toNat ∧ q.marks = [(a.engine n).marked y]) ∧ a.keepsMem u) ∧
  (∀ (s a : State) (t n len rd x o : Nat) (w : Word72), Issues s t n a len (.lr rd x) →
    ((a.engine n).get x).toNat % 4 = 0 → (a.engine n).pmpOk (a.dataMachine n) ((a.engine n).get x).toNat 4 0 = true →
    a.engTarget n ((a.engine n).get x).toNat = .ram o → tfind (a.engine n).ram (o / 8) = some w → (decodeWord w).1 = .clean →
    ∃ u, exec (.engineAmo t n) s = .next u ∧ (u.engine n).resv = some o ∧
      (u.engine n).get rd = (if rd = 0 then (a.engine n).get 0 else BitVec.ofNat 32 ((decodeWord w).2.toNat / 2 ^ (8 * (o % 8)))) ∧
      (u.engine n).pc = (a.engine n).pc + BitVec.ofNat 32 len ∧ a.keepsRegs u [Reg.ENG_STATUS n] ∧ a.keepsMem u) ∧
  (∀ (s a : State) (t n len rd x y o : Nat) (w : Word72), Issues s t n a len (.sc rd x y) →
    ((a.engine n).get x).toNat % 4 = 0 → (a.engine n).pmpOk (a.dataMachine n) ((a.engine n).get x).toNat 4 1 = true →
    a.engTarget n ((a.engine n).get x).toNat = .ram o → tfind (a.engine n).ram (o / 8) = some w →
    ∃ u, exec (.engineAmo t n) s = .next u ∧ (u.engine n).resv = none ∧
      (u.engine n).get rd = (if rd = 0 then (a.engine n).get 0 else if (a.engine n).resv = some o then 0 else 1) ∧
      (u.engine n).pc = (a.engine n).pc + BitVec.ofNat 32 len ∧
      tfind (u.engine n).ram (o / 8) = some (if (a.engine n).resv = some o then
        (writeWord w (byteEnables o 4 (o / 8)) (wordOfBytes o (toBytes 4 ((a.engine n).get y).toNat) (o / 8)) false).1 else w) ∧
      (∀ k, k ≠ o / 8 → tfind (u.engine n).ram k = tfind (a.engine n).ram k) ∧ a.keepsRegs u [Reg.ENG_STATUS n, Reg.ENG_LRAM_ERR n]) ∧
  (∀ (s a : State) (t n len f5 rd x y o : Nat) (w : Word72), Issues s t n a len (.amo f5 rd x y) →
    ((a.engine n).get x).toNat % 4 = 0 → (a.engine n).pmpOk (a.dataMachine n) ((a.engine n).get x).toNat 4 1 = true →
    a.engTarget n ((a.engine n).get x).toNat = .ram o → tfind (a.engine n).ram (o / 8) = some w → (decodeWord w).1 = .clean →
    ∃ u, exec (.engineAmo t n) s = .next u ∧
      (u.engine n).get rd = (if rd = 0 then (a.engine n).get 0 else BitVec.ofNat 32 ((decodeWord w).2.toNat / 2 ^ (8 * (o % 8)))) ∧
      tfind (u.engine n).ram (o / 8) = some (writeWord w (byteEnables o 4 (o / 8)) (wordOfBytes o (toBytes 4
        (amoEval f5 (BitVec.ofNat 32 ((decodeWord w).2.toNat / 2 ^ (8 * (o % 8)))) ((a.engine n).get y)).toNat) (o / 8)) false).1 ∧
      (∀ k, k ≠ o / 8 → tfind (u.engine n).ram k = tfind (a.engine n).ram k) ∧ a.keepsRegs u [Reg.ENG_STATUS n, Reg.ENG_LRAM_ERR n]) ∧
  (∀ (s a : State) (t n len : Nat), Issues s t n a len .fence → a.gateState n = 0 → a.idleNoc →
    ∃ u, exec (.engineFence t n) s = .next u ∧ (u.engine n).busy = .fence ∧
      (∃ q ∈ u.noc.reqs, q.src = n ∧ q.kind = .fence ∧ q.tag = tagEngFence ∧ q.covers = [0, 1, 2, 3, 4, 5, 6, 7]) ∧
      a.keepsRegs u [Reg.ENG_STATUS n] ∧ a.keepsMem u) ∧
  (∀ (s a : State) (t n len : Nat), Issues s t n a len .fenceI →
    ∃ u, exec (.engineFenceI t n) s = .next u ∧ (u.engine n).icache = [] ∧ (u.engine n).pc = (a.engine n).pc + BitVec.ofNat 32 len ∧
      (u.engine n).x = (a.engine n).x ∧ a.keepsRegs u [Reg.ENG_STATUS n] ∧ a.keepsMem u) ∧
  (∀ (s a : State) (t n id p line : Nat) (d : Delivered), a = (s.advance t).arriveResp id p → a.engGated n = false →
    a.noc.inbox.filter (fun y => y.src == n && y.tag != tagFirmware) = [d] → d.tag = tagFetch line → isErr d.code = false →
    (a.engine n).icache.length < 512 →
    ∃ u, exec (.instructionFetchLine t n id p false) s = .next u ∧
      (u.engine n).icache = (a.engine n).icache ++ [(line, d.bytes, marksMask d.marks)] ∧
      (u.engine n).fetching = (a.engine n).fetching.erase line ∧ (u.engine n).x = (a.engine n).x ∧ a.keepsRegs u [] ∧ a.keepsMem u)

/-- Rests on R156, R162, R174, R216–R222: xq.post puts its token into the engine's queue; xq.wait holds the pipeline until an edge decides it; xq.done
sends the done report, which frees the record when it reaches the scheduler; xq.cancel, xq.psel, xq.sacq and xq.srel send their requests for the
second sc edge, and an xq.psel outcome is written to its register. The model's own choice in it: log entry 24. -/
def Obligations.XqtallyInstructionsExecute : Prop :=
  (∀ (s a : State) (t n len : Nat) (x y z : BitVec 5), Issues s t n a len (.xq (.post x y z)) → a.queueFull n = false →
    ∃ u, exec (.xqPost t n) s = .next u ∧ u.tokens n = a.tokens n ++ [⟨((a.engine n).get x.toNat).toNat % 2 ^ 28,
        ((a.engine n).get x.toNat).toNat / 2 ^ 28 % 4,
        BitVec.ofNat 64 (((a.engine n).get y.toNat).toNat + ((a.engine n).get z.toNat).toNat * 2 ^ 32),
        (a.engine n).marked y.toNat || (a.engine n).marked z.toNat⟩] ∧
      (u.engine n).pc = (a.engine n).pc + BitVec.ofNat 32 len ∧ (u.engine n).x = (a.engine n).x ∧ a.keepsRegs u [Reg.ENG_STATUS n] ∧ a.keepsMem u) ∧
  (∀ (s a : State) (t n len : Nat) (rd x y : BitVec 5) (opt : BitVec 3), Issues s t n a len (.xq (.wait rd x y opt)) →
    (opt.toNat.testBit 0 && ((a.engine n).bound || n == 0)) = false →
    ∃ u, exec (.xqWait t n) s = .next u ∧ (u.engine n).busy = .wait opt.toNat (((a.engine n).get x.toNat).toNat % 2 ^ 28)
        ((a.engine n).get y.toNat).toNat rd.toNat ((a.now / 12 + 2) * 12) ∧
      (opt.toNat.testBit 0 = true → tfind u.sch.waits n = some (a.now / 12 + 2)) ∧ a.keepsRegs u [Reg.ENG_STATUS n] ∧ a.keepsMem u) ∧
  (∀ (s a : State) (t n opt h limit rd w c k : Nat) (task : Option Nat), a = s.engAdvance t n →
    (a.engine n).busy = .wait opt h limit rd w → w ≤ a.scEdge → a.engGated n = false → a.waitOutcome n opt h limit = some (c, k, task) →
    ∃ u, exec (.waitEnd t n) s = .next u ∧
      (u.engine n).busy = .ended (a.scEdge + 15) rd (BitVec.ofNat 32 (c * 2 ^ 28 + k)) task ∧ tfind u.sch.waits n = none ∧
      a.keepsRegs u [Reg.ENG_STATUS n] ∧ a.keepsMem u) ∧
  (∀ (s a : State) (t n len : Nat) (rd : BitVec 5), Issues s t n a len (.xq (.done rd)) → (a.engine n).bound = true →
    ∃ u, exec (.xqDone t n) s = .next u ∧
      (u.engine n).done = some ((a.now / 12 + 2) * 12, handleIdx ((a.engine n).csrVal csrXqtask).toNat) ∧
      (u.engine n).busy = .due ((a.now / 12 + 2) * 12 + 3) rd.toNat 0 true ∧ a.keepsRegs u [Reg.ENG_STATUS n] ∧ a.keepsMem u) ∧
  (∀ (s a : State) (t n edge i : Nat), a = s.engAdvance t n → (a.engine n).done = some (edge, i) → edge + 12 ≤ a.now →
    (a.trec i).state ≠ 0 → a.sch.fills = [] → a.indexDead i = false →
    ∃ u, exec (.engineDoneReport t n) s = .next u ∧ (u.engine n).done = none ∧ (u.trec i).state = 0 ∧ (u.trec i).gen = ((a.trec i).gen + 1) % 256 ∧
      u.current (a.handleOf i) = false ∧ a.keepsRegs u [] ∧ a.keepsMem u) ∧
  (∀ (s a : State) (t n len : Nat) (rd x : BitVec 5), Issues s t n a len (.xq (.cancel rd x)) →
    ∃ u, exec (.xqCancel t n) s = .next u ∧ (u.engine n).busy = .cancel rd.toNat ((a.now / 12 + 2) * 12) ∧
      u.sch.cancels = a.sch.cancels ++ [⟨.engine n, ((a.engine n).get x.toNat).toNat % 2 ^ 28, (a.now / 12 + 2) * 12⟩] ∧
      a.keepsRegs u [Reg.ENG_STATUS n] ∧ a.keepsMem u) ∧
  (∀ (s a : State) (t n len v r : Nat) (rd x : BitVec 5), Issues s t n a len (.xq (.psel rd x)) → v = ((a.engine n).get x.toNat).toNat →
    r = n + 64 * (v / 2 ^ 16 % 2) →
    ∃ u, exec (.xqPsel t n) s = .next u ∧ (u.engine n).psel = some (rd.toNat, (a.now / 12 + 2) * 12 + 15) ∧
      (u.region r).reqs = (a.region r).reqs ++ [⟨(a.now / 12 + 2) * 12, (a.now / 12 + 2) * 12 + 6, .engine n ((a.now / 12 + 2) * 12 + 15),
        .ptr (if v.testBit 12 then none else some (v % 8)) (if v.testBit 13 then none else some (v / 16 % 4)) (v.testBit 14)⟩] ∧
      (u.engine n).pc = (a.engine n).pc + BitVec.ofNat 32 len ∧ a.keepsRegs u [Reg.ENG_STATUS n] ∧ a.keepsMem u) ∧
  (∀ (s a : State) (t n code rd due : Nat), a = s.engAdvance t n → tfind a.fab.psel n = some (due, code) →
    (a.engine n).psel = some (rd, due) → due ≤ a.now → a.engGated n = false →
    ∃ u, exec (.pselResult t n) s = .next u ∧
      (u.engine n).get rd = (if rd = 0 then (a.engine n).get 0 else BitVec.ofNat 32 code) ∧ (u.engine n).psel = none ∧
      tfind u.fab.psel n = none ∧ a.keepsRegs u [] ∧ a.keepsMem u) ∧
  (∀ (s a : State) (t n due r b e p k : Nat), a = s.advance t → (a.region r).reqs = [⟨b, e, .engine n due, .ptr (some p) (some k) false⟩] →
    e ≤ a.now → p < 8 → k < 4 → a.running r = true → (p ≠ a.planePtr r ∨ k ≠ a.bankPtr r) →
    a.reqCheck r ⟨b, e, .engine n due, .ptr (some p) (some k) false⟩ = 0 → a.cycleOn r = none →
    ∃ u, exec (.engineSelectAtBeam t r) s = .next u ∧ u.planePtr r = p ∧ u.bankPtr r = k ∧ tfind u.fab.psel n = some (due, 0) ∧
      u.fld (Reg.PLANE_STATUS r) Fld.PLANE_STATUS_LAST_SRC = 2 ∧ (u.region r).reqs = [] ∧
      a.keepsRegs u [Reg.PLANE_STATUS r, Reg.PLANE_PTR r, Reg.PLANE_SWITCH_CNT r] ∧ a.keepsMem u) ∧
  (∀ (s a : State) (t n len bank : Nat) (rd x : BitVec 5), Issues s t n a len (.xq (.sacq rd x)) →
    bank = ((a.engine n).get x.toNat).toNat % 128 → bank < 96 →
    ∃ u, exec (.xqSacq t n) s = .next u ∧ (u.engine n).busy = .scratch rd.toNat ((a.now / 12 + 2) * 12) ∧
      u.scr.asks = a.scr.asks ++ [⟨bank, ownEngine n, some n, ownEngine n, false, (a.now / 12 + 2) * 12⟩] ∧
      a.keepsRegs u [Reg.ENG_STATUS n] ∧ a.keepsMem u) ∧
  (∀ (s a : State) (t n len bank v : Nat) (rd x y : BitVec 5), Issues s t n a len (.xq (.srel rd x y)) →
    bank = ((a.engine n).get x.toNat).toNat % 128 → v = ((a.engine n).get y.toNat).toNat → bank < 96 →
    ∃ u, exec (.xqSrel t n) s = .next u ∧ (u.engine n).busy = .scratch rd.toNat ((a.now / 12 + 2) * 12) ∧
      u.scr.asks = a.scr.asks ++ [⟨bank, ownEngine n, some n, v % 256, v.testBit 8, (a.now / 12 + 2) * 12⟩] ∧
      a.keepsRegs u [Reg.ENG_STATUS n] ∧ a.keepsMem u)

/-- Rests on R223, R224: xq.ptest gives the response code and the poison of a word without a poison exception; xq.ld64 and xq.sd64 move a register
pair, as one double word of local RAM. The model's own choice in it: log entry 24. -/
def Obligations.XqtallyMemoryInstructionsExecute : Prop :=
  (∀ (s a : State) (t n len o x : Nat) (rd r : BitVec 5) (imm : BitVec 12) (w : Word72), Issues s t n a len (.xq (.ptest rd r imm)) →
    rd.toNat ≠ 0 → x = ((a.engine n).get r.toNat + imm.signExtend 32).toNat / 8 * 8 →
    (a.engine n).pmpOk (a.dataMachine n) x 8 0 = true → a.engTarget n x = .ram o → tfind (a.engine n).ram (o / 8) = some w →
    ∃ u, exec (.xqPtest t n) s = .next u ∧ (u.engine n).get rd.toNat =
        BitVec.ofNat 32 (16 * lramCode (decodeWord w).1 + b2n ((decodeWord w).1.bad || lramCode (decodeWord w).1 == rPoison)) ∧
      (u.engine n).pc = (a.engine n).pc + BitVec.ofNat 32 len ∧ a.keepsRegs u [Reg.ENG_STATUS n, Reg.ENG_LRAM_ERR n]) ∧
  (∀ (s a : State) (t n len o x : Nat) (rd r : BitVec 5) (imm : BitVec 12) (w : Word72), Issues s t n a len (.xq (.ld64 rd r imm)) →
    rd.toNat ≠ 0 → x = ((a.engine n).get r.toNat + imm.signExtend 32).toNat → x % 8 = 0 →
    (a.engine n).pmpOk (a.dataMachine n) x 8 0 = true → a.engTarget n x = .ram o → o % 8 = 0 → tfind (a.engine n).ram (o / 8) = some w →
    (decodeWord w).1 = .clean →
    ∃ u, exec (.xqLd64 t n) s = .next u ∧ (u.engine n).get rd.toNat = (decodeWord w).2.setWidth 32 ∧
      (u.engine n).get (rd.toNat + 1) = ((decodeWord w).2 >>> 32).setWidth 32 ∧
      (u.engine n).pc = (a.engine n).pc + BitVec.ofNat 32 len ∧ a.keepsRegs u [Reg.ENG_STATUS n] ∧ a.keepsMem u) ∧
  (∀ (s a : State) (t n len o x : Nat) (r y : BitVec 5) (imm : BitVec 12), Issues s t n a len (.xq (.sd64 r y imm)) →
    x = ((a.engine n).get r.toNat + imm.signExtend 32).toNat → x % 8 = 0 →
    (a.engine n).pmpOk (a.dataMachine n) x 8 1 = true → a.engTarget n x = .ram o →
    ∃ u, exec (.xqSd64 t n) s = .next u ∧
      tfind (u.engine n).ram (o / 8) = some (writeWord (a.lramWord n (o / 8)) (byteEnables o 8 (o / 8)) (wordOfBytes o (toBytes 8
        (((a.engine n).get y.toNat).toNat + ((a.engine n).get (y.toNat + 1)).toNat * 2 ^ 32)) (o / 8))
        ((a.engine n).marked y.toNat || (a.engine n).marked (y.toNat + 1))).1 ∧
      (∀ k, k ≠ o / 8 → tfind (u.engine n).ram k = tfind (a.engine n).ram k) ∧ (u.engine n).x = (a.engine n).x ∧
      (u.engine n).pc = (a.engine n).pc + BitVec.ofNat 32 len ∧ a.keepsRegs u [Reg.ENG_STATUS n, Reg.ENG_LRAM_ERR n])

/-- Rests on R229, R231, R233, R234: an enabled interrupt traps to its cause; MTI is pending once TALLY_NOW has passed ENG_TIMECMP; writes of ENG_CTL
hold an engine in reset, let it run from ENG_BOOT_ADDR, or halt it, which an instruction that stalls completes first, and a write of ENG_CTL(0) by any
other initiator than engine 0 has no effect; a message written to a free mailbox raises its doorbell, a second one is LOST; the
root firmware answers NONCE with a nonce that it keeps. The model's own choices in it: log entries 21, 22, 45 and 46. -/
def Obligations.EnginesTakeInterruptsControlAndMail : Prop :=
  (∀ (s a : State) (t n i : Nat), a = s.engAdvance t n → a.firstInt n = some i → a.mayIssue n = true →
    (a.machineMode n = false ∨ ((a.engine n).csrVal csrMstatus).getLsbD 3 = true) →
    ((a.engine n).csrVal csrMtvec).getLsbD 0 = false →
    ∃ u, exec (.engineInterrupt t n) s = .next u ∧ (u.engine n).csrVal csrMcause = BitVec.ofNat 32 (i + 2 ^ 31) ∧
      (u.engine n).csrVal csrMepc = (a.engine n).pc &&& 0xFFFFFFFE ∧ (u.engine n).pc = (a.engine n).csrVal csrMtvec &&& 0xFFFFFFFC ∧
      u.machineMode n = true ∧ (u.engine n).x = (a.engine n).x ∧ a.keepsRegs u [Reg.ENG_STATUS n] ∧ a.keepsMem u) ∧
  (∀ (s a : State) (t n : Nat), a = s.engAdvance t n → a.timecmp n ≤ a.tallyNow → a.tallyNow < a.timecmp n + 2 ^ 47 →
    ∃ u, exec (.engineTimerExpiry t n) s = .next u ∧ u.pendingInt n 7 = true ∧ a.keepsRegs u [] ∧ a.keepsMem u) ∧
  (∀ (s a : State) (t src n v : Nat), EngActs s t src n a → (n ≠ 0 ∨ src = 0) → n < 64 →
    ∃ u, exec (.engineReset t src n v) s = .next u ∧ u.fld (Reg.ENG_CTL n) Fld.ENG_CTL_RESET = 1 ∧ u.estate n = 0 ∧
      (u.engine n).busy = .idle ∧ (u.engine n).csr = [] ∧ (u.engine n).icache = [] ∧ (u.engine n).x = (a.engine n).x ∧
      (u.engine n).ram = (a.engine n).ram) ∧
  (∀ (s a : State) (t src n : Nat), EngActs s t src n a → (n ≠ 0 ∨ src = 0) → n < 64 →
    (a.engine n).started = false → (a.reg (Reg.RST_ROD n)).getLsbD 10 = false → (a.engine n).busy = .idle → a.domState (128 + n) = 2 →
    ∃ u, exec (.engineRun t src n) s = .next u ∧ (u.engine n).pc = a.reg (Reg.ENG_BOOT_ADDR n) &&& 0xFFFFFFFC ∧
      (u.engine n).started = true ∧ u.estate n = 2 ∧ u.reg (Reg.ENG_CTL n) = 1 ∧
      a.keepsRegs u [Reg.ENG_CTL n, Reg.ENG_STATUS n] ∧ a.keepsMem u) ∧
  (∀ (s a : State) (t src n : Nat), EngActs s t src n a → (n ≠ 0 ∨ src = 0) → n < 64 →
    (a.reg (Reg.RST_ROD n)).getLsbD 10 = false → (a.engine n).busy = .idle → (a.engine n).stall = false →
    (a.stalled n = false → ∃ u, exec (.engineHalt t src n) s = .next u ∧ u.estate n = 1 ∧ u.reg (Reg.ENG_CTL n) = 0 ∧ u.engine n = a.engine n ∧
      a.keepsRegs u [Reg.ENG_CTL n, Reg.ENG_STATUS n] ∧ a.keepsMem u) ∧
    (a.stalled n = true → ∃ u, exec (.engineHalt t src n) s = .next u ∧ u.estate n = 2 ∧ u.reg (Reg.ENG_CTL n) = 0 ∧
      (u.engine n).stall = true ∧ (u.engine n).pc = (a.engine n).pc ∧ (u.engine n).x = (a.engine n).x ∧
      a.keepsRegs u [Reg.ENG_CTL n, Reg.ENG_STATUS n] ∧ a.keepsMem u)) ∧
  (∀ (s a : State) (t src v : Nat) (c : Instr), EngActs s t src 0 a → src ≠ 0 →
    c ∈ [Instr.engineReset t src 0 v, .engineRun t src 0, .engineHalt t src 0] →
    exec c s = .next a) ∧
  (∀ (s a : State) (t src n v : Nat), Acts s t src (Reg.ENG_MBOX_IN n) a →
    (a.bit (Reg.ENG_MBOX_DB n) Fld.ENG_MBOX_DB_IN = false → ∃ u, exec (.engMboxInWrite t src n v) s = .next u ∧
      u.reg (Reg.ENG_MBOX_IN n) = BitVec.ofNat 32 v ∧ u.bit (Reg.ENG_MBOX_DB n) Fld.ENG_MBOX_DB_IN = true ∧
      a.keepsRegs u [Reg.ENG_MBOX_IN n, Reg.ENG_MBOX_DB n] ∧ a.keepsMem u) ∧
    (a.bit (Reg.ENG_MBOX_DB n) Fld.ENG_MBOX_DB_IN = true → ∃ u, exec (.engMboxInWrite t src n v) s = .next u ∧
      u.bit (Reg.ENG_MBOX_DB n) Fld.ENG_MBOX_DB_LOST = true ∧ a.keepsRegs u [Reg.ENG_MBOX_DB n] ∧ a.keepsMem u)) ∧
  (∀ (s a : State) (t src n v : Nat), Acts s t src (Reg.ENG_MBOX_OUT n) a →
    ∃ u, exec (.engMboxOutWrite t src n v) s = .next u ∧ u.reg (Reg.ENG_MBOX_OUT n) = BitVec.ofNat 32 v ∧
      u.bit (Reg.ENG_MBOX_DB n) Fld.ENG_MBOX_DB_OUT = true ∧ a.keepsRegs u [Reg.ENG_MBOX_OUT n, Reg.ENG_MBOX_DB n] ∧ a.keepsMem u) ∧
  (∀ (s a : State) (t x : Nat), a = s.advance t → a.mboxCommand = some (1, x) →
    ∃ u, exec (.mboxNonce t) s = .next u ∧ u.nonce = some (u.reg (Reg.ENG_MBOX_DATA 0)) ∧
      u.reg (Reg.ENG_MBOX_OUT 0) = 0x01000000 ∧ u.mboxCommand = none ∧
      a.keepsRegs u [Reg.ENG_MBOX_DATA 0, Reg.ENG_MBOX_OUT 0, Reg.ENG_MBOX_DB 0] ∧ a.keepsMem u)

/-! ### Chapter 08: scratch banks -/

/-- Rests on R237, R239, R240, R241, R242, R243: a handover write is judged at its edge. One that passes every check moves the bank at once where
nothing has to drain or to be cleared, and otherwise starts a drain, or a clear where the bank has no owner, with PENDING shown; a refused one leaves the
owner and shows its code, where no handover is in progress. The last drain marker
completes the handover; a finished clear leaves every word of the bank zero and clean, and no other bank changed; a drain that lasts too long ends
with TIMEOUT and the old owner. -/
def Obligations.ScratchBanksChangeOwner : Prop :=
  (∀ (s a : State) (t src b v : Nat), Acts s t src (Reg.SCR_HANDOVER b) a →
    ∃ u, exec (.scrHandoverWrite t src b v) s = .next u ∧
      u.scr.asks = a.scr.asks ++ [⟨b, ownerCode src, none, v % 256, v.testBit 8, a.now / 12 * 12⟩] ∧ a.keepsRegs u [] ∧ a.keepsMem u) ∧
  (∀ (s a : State) (t b by_ new h : Nat) (clear : Bool), a = s.advance t → a.scr.asks = [⟨b, by_, none, new, clear, h⟩] → h ≤ a.now → b < 96 → new < 256 →
    (a.handoverCheck b by_ new = 0 → clear = false → (a.owner b = 0 ∨ new = a.owner b) →
      ∃ u, exec (.handoverEvaluate t b) s = .next u ∧ u.owner b = new ∧ u.scrState b = 0 ∧ u.reg (Reg.SCR_CFG b) = 0 ∧ u.scr.asks = [] ∧
        a.keepsRegs u [Reg.SCR_OWN b, Reg.SCR_CFG b] ∧ a.keepsMem u) ∧
    (a.handoverCheck b by_ new = 0 → clear = true → a.owner b = 0 →
      ∃ u, exec (.handoverEvaluate t b) s = .next u ∧ u.owner b = 0 ∧ u.scrState b = 2 ∧
        u.fld (Reg.SCR_OWN b) Fld.SCR_OWN_PENDING = new ∧ u.fld (Reg.SCR_OWN b) Fld.SCR_OWN_LAST = 7 ∧
        (tfind u.scr.hov b).map (fun x => (x.new, x.clearAt)) = some (new, some h) ∧ a.keepsRegs u [Reg.SCR_OWN b] ∧ a.keepsMem u) ∧
    (a.handoverCheck b by_ new = 0 → a.idleNoc → a.owner b ≠ 0 → (clear = true ∨ new ≠ a.owner b) →
      ∃ u, exec (.handoverEvaluate t b) s = .next u ∧ u.owner b = a.owner b ∧ u.scrState b = 1 ∧
        u.fld (Reg.SCR_OWN b) Fld.SCR_OWN_PENDING = new ∧ u.fld (Reg.SCR_OWN b) Fld.SCR_OWN_LAST = 7 ∧
        (tfind u.scr.hov b).map (fun x => (x.old, x.new, x.clear, x.left)) = some (a.owner b, new, clear, ownerLanes (a.owner b)) ∧
        a.keepsRegs u [Reg.SCR_OWN b] ∧ a.keepsMem u) ∧
    (a.handoverCheck b by_ new ≠ 0 →
      ∃ u, exec (.handoverEvaluate t b) s = .next u ∧ u.owner b = a.owner b ∧ u.scrState b = a.scrState b ∧
        (a.scrState b = 0 → u.fld (Reg.SCR_OWN b) Fld.SCR_OWN_LAST = a.handoverCheck b by_ new) ∧
        (a.scrState b ≠ 0 → u.reg (Reg.SCR_OWN b) = a.reg (Reg.SCR_OWN b)) ∧ a.keepsRegs u [Reg.SCR_OWN b] ∧ a.keepsMem u)) ∧
  (∀ (s a : State) (t id p b : Nat) (r : Request) (q : Part) (h : Handover), a = s.advance t → a.servable id p = some (r, q) →
    r.kind = .marker → r.tag = h.h → b = (q.addr - scrBase) / 0x40000 → a.scr.hov = [(b, h)] → ownerSrc h.old = r.src → h.drained = none →
    h.left = [(r.bank, r.stream)] → h.clear = false → h.clearAt = none → h.eng = none → a.now % 12 = 0 → h.new < 256 →
    ∃ u, exec (.drainMarkerArrival t id p) s = .next u ∧ u.owner b = h.new ∧ u.scrState b = 0 ∧ u.scr.hov = [] ∧
      a.keepsRegs u [Reg.SCR_OWN b, Reg.SCR_CFG b] ∧ a.keepsMem u) ∧
  (∀ (s a : State) (t b c : Nat) (h : Handover), a = s.advance t → tfind a.scr.hov b = some h → h.clearAt = some c → c + 6144 ≤ a.now →
    h.eng = none → h.new < 256 →
    ∃ u, exec (.scratchClearDone t b) s = .next u ∧ u.owner b = h.new ∧ u.scrState b = 0 ∧ tfind u.scr.hov b = none ∧
      (∀ w, w < 32768 → u.scrWord b w = encodeWord 0) ∧
      (∀ b' w, b' ≠ b → w < 32768 → u.scrWord? b' w = a.scrWord? b' w) ∧ a.keepsRegs u [Reg.SCR_OWN b, Reg.SCR_CFG b]) ∧
  (∀ (s a : State) (t b : Nat) (h : Handover), a = s.advance t → tfind a.scr.hov b = some h → h.drained = none → h.clearAt = none →
    h.h + 65536 * 12 ≤ a.now → h.eng = none → tget (fun _ => []) a.scr.held b = [] →
    ∃ u, exec (.handoverTimeout t b) s = .next u ∧ u.owner b = a.owner b ∧ u.scrState b = 0 ∧ tfind u.scr.hov b = none ∧
      u.fld (Reg.SCR_OWN b) Fld.SCR_OWN_LAST = 6 ∧ u.fld (Reg.SCR_OWN b) Fld.SCR_OWN_PENDING = 0 ∧
      a.keepsRegs u [Reg.SCR_OWN b] ∧ a.keepsMem u)

/-- Rests on R238, R241, R245, R246, R247, R248, R249, R250, R292, R323: an access of the owner, or of the channel that is granted access, waits at its
bank for a port; one that must wait for a handover is held; any other initiator is answered ERR_OWNER and changes no word. At the nc edge a port
serves the access that waits alone: a read answers the word as it stands, by its class and its mark, a write stores its word, and every other word of the banks
stays. A corrected word is written back in an idle cycle. -/
def Obligations.ScratchAccessesObeyTheOwner : Prop :=
  (∀ (s a : State) (t id p port b : Nat) (r : Request) (q : Part), a = s.advance t → a.reaching id p = some (r, q) →
    scrBase ≤ q.addr % 2 ^ 48 → b = (q.addr % 2 ^ 48 - scrBase) / 0x40000 → b < 96 → q.port = portSCR → (r.kind = .read ∨ r.kind = .write) →
    (∀ o, a.scrGate b r.src r.bank q.stream = .serve o →
      ∃ u, exec (.scratchAccess t id p port) s = .next u ∧ u.waitAt b = a.waitAt b ++ [⟨id, p, if o then 0 else 1, 0, [], false⟩] ∧
        (∃ x ∈ u.agenda, x.2 = .scratchEdge b) ∧ a.keepsRegs u [] ∧ a.keepsMem u) ∧
    (a.scrGate b r.src r.bank q.stream = .hold →
      ∃ u, exec (.scratchAccess t id p port) s = .next u ∧ tget (fun _ => []) u.scr.held b = a.heldAt b ++ [(id, p)] ∧ u.scr.wait = a.scr.wait ∧
        a.keepsRegs u [] ∧ a.keepsMem u) ∧
    (a.scrGate b r.src r.bank q.stream = .refuse → a.logQuiet Reg.SCR_OWNLOG →
      ∃ u, exec (.scratchAccess t id p port) s = .next u ∧ u.answered id p (codeAnswer rOwner) ∧ u.scr = a.scr ∧
        a.keepsRegs u [Reg.SCR_OWNCNT, Reg.SCR_OWNLOG] ∧ a.keepsMem u)) ∧
  (∀ (a u : State) (id p b o c : Nat) (r : Request) (q : Part), u = a.runLater (.scratchEdge b) → b < 96 → a.scrState b ≠ 2 →
    a.portAt b 0 = none → a.portAt b 1 = none → a.waitAt b = [⟨id, p, c, 0, [], false⟩] → c < 2 → a.findReq id = some r → r.parts[p]? = some q →
    q.performed = false → o = q.addr % 2 ^ 48 % 0x40000 → q.len = 8 → o % 8 = 0 →
    (∀ w : Word72, r.kind = .read → a.scrWord? b (o / 8) = some w → a.logQuiet (Reg.SCR_UELOG b) →
      u.answered id p ⟨classCode [(decodeWord w).1], bytesOfWords o 8 (fun _ => (decodeWord w).2), [(decodeWord w).1.bad], false⟩ ∧
        u.waitAt b = [] ∧ a.keepsRegs u [Reg.SCR_ERR b, Reg.SCR_UELOG b] ∧ a.keepsMem u ∧
        ((decodeWord w).1 = .clean → a.keepsRegs u [] ∧ u.scr.back = a.scr.back) ∧
        ((decodeWord w).1 = .corrected → tfind u.scr.back (scrKey b (o / 8)) = some (decodeWord w).2)) ∧
    (r.kind = .write →
      u.scrWord? b (o / 8) = some (writeWord (a.scrWord b (o / 8)) (byteEnables o 8 (o / 8)) (wordOfBytes o (partData r q) (o / 8))
        ((partMarks r q).getD 0 false)).1 ∧ u.waitAt b = [] ∧
      (∀ k, k ≠ scrKey b (o / 8) → tfind u.scr.mem k = tfind a.scr.mem k) ∧ u.cache = a.cache ∧ u.emc = a.emc ∧ u.fab = a.fab ∧
      a.keepsRegs u [])) ∧
  (∀ (s a : State) (t b k : Nat) (d : Word64), a = s.advance t → a.scr.back.find? (fun p => p.1 / 32768 == b) = some (k, d) →
    a.waitAt b = [] → a.portAt b 0 = none → a.scrState b ≠ 2 →
    ∃ u, exec (.scratchCorrectedWriteback t b) s = .next u ∧ u.scrWord? b (k % 32768) = some (encodeWord d) ∧
      (∀ j, j ≠ k → tfind u.scr.mem j = tfind a.scr.mem j) ∧ a.keepsRegs u [])

/-- Rests on R237, R238: with no handover in progress, a bank serves exactly its owner and the initiator to which its owner's configuration grants
access; a bank without an owner serves no owner. -/
def Obligations.ScratchGateAdmitsOwnerAndGrantee : Prop :=
  ∀ (a : State) (b src bank stream : Nat), tfind a.scr.hov b = none →
    ((∃ o, a.scrGate b src bank stream = .serve o) ↔
      (ownerCode src = a.owner b ∧ a.owner b ≠ 0 ∧ ownerCode src ≠ 2) ∨
      (a.bit (Reg.SCR_CFG b) Fld.SCR_CFG_GRANT_EN = true ∧ ownerCode src = ownDma (a.fld (Reg.SCR_CFG b) Fld.SCR_CFG_GRANT))) ∧
    a.scrGate b src bank stream ≠ .hold

/-! ### Chapters 09 and 10: links, routes, requests, fences -/

/-- Rests on R263, R264, R265, R269, R270, R271: a flit with the expected SEQ and no uncorrectable segment is accepted, corrected segments counted, and
goes out of the port that its route names with the next SEQ of that link, into its replay buffer; one of another SEQ, or with an uncorrectable segment, starts
a retry, and while a NAK awaits its resend a flit of another SEQ is discarded; a NAK makes the transmitter resend every flit from the named one on, an
acknowledgement frees the flits that it covers; a bucket leaks; a link retires or dies in both directions. The model's own choices in it: log entries
14, 15 and 16. -/
def Obligations.LinksCarryRetryRetireAndDie : Prop :=
  (∀ (s a : State) (t n p dir route ph k : Nat) (turned : Bool) (f g h : Flit) (segs : List (BitVec 137)), a = s.advance t → p < 4 →
    checkSegs true (f.segs.take 9) = (segs, k, true) → g = { f with segs := segs } → g.seq = (a.lrx n p).expect → g.kind ≠ 6 → g.kind ≠ 7 →
    nextHop (some p) g.route (g.vc / 2 % 2) = .move dir route ph turned → a.linkState n dir ≠ 2 → g.hasCont = false →
    (a.ltx n dir).replay.length < 32 →
    h = { g.withRoute route with vc := nextVc g.vc n dir ph turned (some p) } →
    ∃ u, exec (.flitArrival t n p f none) s = .next u ∧
      (u.ltx n dir).replay = (a.ltx n dir).replay ++ [((a.ltx n dir).next, h.withHeader (hdrPut h.header 39 32 (a.ltx n dir).next), 0)] ∧
      (u.ltx n dir).next = ((a.ltx n dir).next + 1) % 256 ∧ (u.lrx n p).expect = ((a.lrx n p).expect + 1) % 256 ∧
      (u.lrx n p).sinceAck = (a.lrx n p).sinceAck + 1 ∧ (u.lrx n p).nakSent = false ∧
      u.fld (Reg.NOC_LINK_CNT n p) Fld.NOC_LINK_CNT_CORR = satAdd (2 ^ Fld.NOC_LINK_CNT_CORR.width - 1)
        (a.fld (Reg.NOC_LINK_CNT n p) Fld.NOC_LINK_CNT_CORR) k ∧ a.keepsRegs u [Reg.NOC_LINK_CNT n p] ∧ a.keepsMem u) ∧
  (∀ (s a : State) (t n p k : Nat) (ok : Bool) (f g : Flit) (segs : List (BitVec 137)) (lost : Option (Nat × Nat)), a = s.advance t →
    checkSegs true (f.segs.take 9) = (segs, k, ok) → g = { f with segs := segs } →
    ((g.seq = (a.lrx n p).expect ∨ checkSeg true (segs.headD 0) = .retry) ∧ ok = false ∨
      g.seq ≠ (a.lrx n p).expect ∧ checkSeg true (segs.headD 0) ≠ .retry ∧ (a.lrx n p).nakSent = false) →
    ∃ u, exec (.flitArrival t n p f lost) s = .next u ∧ (u.lrx n p).nakSent = true ∧ (u.lrx n p).expect = (a.lrx n p).expect ∧
      u.noc.tx = a.noc.tx ∧ (4 ≤ p → a.keepsRegs u []) ∧ a.keepsMem u) ∧
  (∀ (s a : State) (t n p k : Nat) (ok : Bool) (f g : Flit) (segs : List (BitVec 137)) (lost : Option (Nat × Nat)), a = s.advance t →
    checkSegs true (f.segs.take 9) = (segs, k, ok) → g = { f with segs := segs } → g.seq ≠ (a.lrx n p).expect →
    checkSeg true (segs.headD 0) ≠ .retry → (a.lrx n p).nakSent = true →
    ∃ u, exec (.flitArrival t n p f lost) s = .next u ∧ u.noc = a.noc ∧ a.keepsRegs u [Reg.NOC_LINK_CNT n p] ∧ a.keepsMem u) ∧
  (∀ (s a : State) (t n p q : Nat), a = s.advance t → p < 4 → (replaySplit q (a.ltx n p).replay).2 ≠ [] →
    ∃ u, exec (.linkNak t n p q) s = .next u ∧
      (u.ltx n p).replay = (replaySplit q (a.ltx n p).replay).1 ++ (replaySplit q (a.ltx n p).replay).2.map (fun e => (e.1, e.2.1, e.2.2 + 1)) ∧
      u.fld (Reg.NOC_LINK_CNT n p) Fld.NOC_LINK_CNT_RETRY = satAdd (2 ^ Fld.NOC_LINK_CNT_RETRY.width - 1)
        (a.fld (Reg.NOC_LINK_CNT n p) Fld.NOC_LINK_CNT_RETRY) (replaySplit q (a.ltx n p).replay).2.length ∧
      a.keepsRegs u [Reg.NOC_LINK_CNT n p] ∧ a.keepsMem u) ∧
  (∀ (s a : State) (t n p q : Nat) (x : Nat × Flit × Nat) (l : List (Nat × Flit × Nat)), a = s.advance t →
    (replaySplit q (a.ltx n p).replay).2 = x :: l → (a.ltx n p).wait = [] →
    ∃ u, exec (.linkAck t n p q) s = .next u ∧ (u.ltx n p).replay = l ∧ (u.ltx n p).next = (a.ltx n p).next ∧
      a.keepsRegs u [] ∧ a.keepsMem u) ∧
  (∀ (s a : State) (t n p : Nat), a = s.advance t → (16 ≤ (a.lrx n p).sinceAck ∨ 0 < (a.lrx n p).sinceAck ∧ (a.lrx n p).lastAt + 24 ≤ a.now) →
    ∃ u, exec (.linkAckSend t n p) s = .next u ∧ (u.lrx n p).sinceAck = 0 ∧ (u.lrx n p).expect = (a.lrx n p).expect ∧
      a.keepsRegs u [] ∧ a.keepsMem u) ∧
  (∀ (s a : State) (t n p l b : Nat), a = s.advance t → l = a.fld Reg.NOC_LINK_POLICY Fld.NOC_LINK_POLICY_LEAK →
    b = a.fld (Reg.NOC_LINK n p) Fld.NOC_LINK_BUCKET → l ≠ 0 → b ≠ 0 →
    tget (fun _ => 0) a.noc.leakAt (4 * n + p) + l * 12 < a.now / 12 * 12 + 12 →
    ∃ u, exec (.bucketLeak t n p) s = .next u ∧ u.fld (Reg.NOC_LINK n p) Fld.NOC_LINK_BUCKET = b - 1 ∧
      u.linkState n p = a.linkState n p ∧ a.keepsRegs u [Reg.NOC_LINK n p] ∧ a.keepsMem u) ∧
  (∀ (s a : State) (t n p : Nat) (lost : List (Nat × Nat)), a = s.advance t → n < 64 → p < 4 → (∃ e ∈ (a.ltx n p).replay, 64 ≤ e.2.2) →
    a.linkState n p ≠ 2 →
    ∃ u, exec (.linkDeath t n p lost) s = .next u ∧ u.linkState n p = 2 ∧ u.linkState (neighbour n p) (opposite p) = 2 ∧
      u.fld Reg.NOC_INT_STATUS Fld.NOC_INT_STATUS_DEAD = 1 ∧ (u.ltx n p).replay = [] ∧ (u.ltx (neighbour n p) (opposite p)).replay = [] ∧
      (u.lrx n p).part = [] ∧ (u.lrx (neighbour n p) (opposite p)).part = [] ∧ a.keepsMem u) ∧
  (∀ (s a : State) (t src n p : Nat), Acts s t src (Reg.NOC_LINK n p) a → n < 64 → p < 4 → a.linkState n p = 0 →
    ∃ u, exec (.nocLinkRetireWrite t src n p) s = .next u ∧ u.linkState n p = 1 ∧ u.linkState (neighbour n p) (opposite p) = 1 ∧
      u.fld Reg.NOC_INT_STATUS Fld.NOC_INT_STATUS_RETIRED = 1 ∧
      a.keepsRegs u [Reg.NOC_LINK n p, Reg.NOC_LINK (neighbour n p) (opposite p), Reg.NOC_INT_STATUS, Reg.NOC_STATUS] ∧ a.keepsMem u)

/-- Rests on R266, R267, R268, R275, R280: a route computation starts or is queued; a flip starts, is refused while one runs, and ends with the epoch
toggled once no request of the old epoch is in the network, held requests going one sc later; limits closer than 1,024 sc are refused; a route entry is written in the inactive bank; a
snapshot starts. The model's own choices in it: log entries 47 and 72. -/
def Obligations.RoutesEpochsAndLimitsChange : Prop :=
  (∀ (s a : State) (t src : Nat), Acts s t src Reg.NOC_CTL a →
    (a.bit Reg.NOC_STATUS Fld.NOC_STATUS_RECOMP_BUSY = false → ∃ u, exec (.nocRecompute t src) s = .next u ∧
      u.bit Reg.NOC_STATUS Fld.NOC_STATUS_RECOMP_BUSY = true ∧ u.noc.recomp = some 0 ∧ a.keepsRegs u [Reg.NOC_STATUS] ∧ a.keepsMem u) ∧
    (a.bit Reg.NOC_STATUS Fld.NOC_STATUS_RECOMP_BUSY = true → ∃ u, exec (.nocRecompute t src) s = .next u ∧
      u.bit Reg.NOC_STATUS Fld.NOC_STATUS_RECOMP_QUEUED = true ∧ u.noc.recomp = a.noc.recomp ∧ a.keepsRegs u [Reg.NOC_STATUS] ∧ a.keepsMem u) ∧
    (a.bit Reg.NOC_STATUS Fld.NOC_STATUS_FLIP_STATE = false → ∃ u, exec (.nocFlip t src) s = .next u ∧
      u.bit Reg.NOC_STATUS Fld.NOC_STATUS_FLIP_STATE = true ∧ u.noc.flipAt = a.now / 12 * 12 ∧ u.epochNow = a.epochNow ∧
      a.keepsRegs u [Reg.NOC_STATUS] ∧ a.keepsMem u) ∧
    (a.bit Reg.NOC_STATUS Fld.NOC_STATUS_FLIP_STATE = true → ∃ u, exec (.nocFlip t src) s = .next u ∧
      u.bit Reg.NOC_STATUS Fld.NOC_STATUS_FLIP_REFUSED = true ∧ u.noc = a.noc ∧ a.keepsRegs u [Reg.NOC_STATUS] ∧ a.keepsMem u)) ∧
  (∀ (s a : State) (t : Nat), a = s.advance t → a.bit Reg.NOC_STATUS Fld.NOC_STATUS_FLIP_STATE = true → a.oldInFlight = false →
    a.bit Reg.NOC_STATUS Fld.NOC_STATUS_RECOMP_BUSY = false →
    ∃ u, exec (.flipComplete t) s = .next u ∧ u.epochNow = 1 - a.epochNow ∧ u.bit Reg.NOC_STATUS Fld.NOC_STATUS_FLIP_STATE = false ∧
      u.fld Reg.NOC_INT_STATUS Fld.NOC_INT_STATUS_FLIP_DONE = 1 ∧ u.noc.flipEnd = some a.now ∧ (a.now + 12, .inject) ∈ u.agenda ∧
      a.keepsRegs u [Reg.NOC_STATUS, Reg.NOC_INT_STATUS] ∧ a.keepsMem u) ∧
  (∀ (s a : State) (t src v : Nat), Acts s t src Reg.NOC_INIT_LIMIT a →
    (a.fld Reg.NOC_TGT_LIMIT Fld.NOC_TGT_LIMIT_LIMIT + 1024 ≤ v % 2 ^ 20 → ∃ u, exec (.nocLimitWrite t src true v) s = .next u ∧
      u.fld Reg.NOC_INIT_LIMIT Fld.NOC_INIT_LIMIT_LIMIT = v % 2 ^ 20 ∧ a.keepsRegs u [Reg.NOC_INIT_LIMIT] ∧ a.keepsMem u) ∧
    (v % 2 ^ 20 < a.fld Reg.NOC_TGT_LIMIT Fld.NOC_TGT_LIMIT_LIMIT + 1024 → ∃ u, exec (.nocLimitWrite t src true v) s = .next u ∧
      u.bit Reg.NOC_STATUS Fld.NOC_STATUS_LIMIT_REFUSED = true ∧ a.keepsRegs u [Reg.NOC_STATUS] ∧ a.keepsMem u)) ∧
  (∀ (s a : State) (t src v : Nat), Acts s t src Reg.NOC_TGT_LIMIT a →
    v % 2 ^ 20 + 1024 ≤ a.fld Reg.NOC_INIT_LIMIT Fld.NOC_INIT_LIMIT_LIMIT → ∃ u, exec (.nocLimitWrite t src false v) s = .next u ∧
      u.fld Reg.NOC_TGT_LIMIT Fld.NOC_TGT_LIMIT_LIMIT = v % 2 ^ 20 ∧ a.keepsRegs u [Reg.NOC_TGT_LIMIT] ∧ a.keepsMem u) ∧
  (∀ (s a : State) (t src n b d v : Nat), Acts s t src (Reg.NOC_RT_HI n b d) a →
    (b ≠ a.epochNow → ∃ u, exec (.nocRtWrite t src n b d true v) s = .next u ∧
      u.reg (Reg.NOC_RT_HI n b d) = BitVec.ofNat 32 v &&& 0xC03FFFFF ∧ a.keepsRegs u [Reg.NOC_RT_HI n b d] ∧ a.keepsMem u) ∧
    (b = a.epochNow → ∃ u, exec (.nocRtWrite t src n b d true v) s = .next u ∧
      u.bit Reg.NOC_STATUS Fld.NOC_STATUS_RT_REFUSED = true ∧ a.keepsRegs u [Reg.NOC_STATUS] ∧ a.keepsMem u)) ∧
  (∀ (s a : State) (t src n b d v : Nat), Acts s t src (Reg.NOC_RT_LO n b d) a → b ≠ a.epochNow →
    ∃ u, exec (.nocRtWrite t src n b d false v) s = .next u ∧ u.reg (Reg.NOC_RT_LO n b d) = BitVec.ofNat 32 v ∧
      a.keepsRegs u [Reg.NOC_RT_LO n b d] ∧ a.keepsMem u) ∧
  (∀ (s a : State) (t src : Nat), Acts s t src Reg.STAT_CTL a → a.noc.snapAt = none →
    ∃ u, exec (.statSnap t src) s = .next u ∧ u.noc.snapAt = some (a.now / 12 * 12, 0) ∧ u.fld Reg.STAT_CTL Fld.STAT_CTL_SNAP = 1 ∧
      a.keepsRegs u [Reg.STAT_CTL] ∧ a.keepsMem u)

/-- Rests on R25, R259, R274, R275, R287, R288, R289, R290, R291: a request whose kind does not exist, or that no byte decodes, is answered by its own
interface; a read or a write that decodes is listed with the next identifier; time limits end what nothing serves; a fence covers every stream's written
targets, is answered packet by packet, and completes with OK or its first failing code, when the lists that it covered are emptied; the failure of a posted write
is given to its initiator, and logged at the next sc edge. The model's own choices in it: log entries 8 and 9. -/
def Obligations.RequestsFencesAndTimeLimits : Prop :=
  (∀ (s a : State) (t src stream addr len tag : Nat) (data : List Byte) (marks : List Bool) (pieces : List Piece), a = s.advance t →
    isRegionSrc src = false → a.idleNoc → a.decodeRequest src addr len = .ok pieces →
    pieces.all (fun x => a.routeRetired src x.router x.port) = false →
    ∃ u, exec (.nocRequestAccept t src stream 0 addr len data marks tag) s = .next u ∧ ∃ q, u.noc.reqs = a.noc.reqs ++ [q] ∧
      u.noc.nextId = a.noc.nextId + 1 ∧ q.id = a.noc.nextId ∧ q.kind = .read ∧ q.src = src ∧ q.stream = stream ∧ q.addr = addr ∧ q.len = len ∧
      q.tag = tag ∧ q.self = none ∧ q.parts.map (fun w => (w.router, w.port, w.addr, w.len)) = pieces.map (fun x => (x.router, x.port, x.addr, x.len)) ∧
      a.keepsRegs u [] ∧ a.keepsMem u) ∧
  (∀ (s a : State) (t src stream addr len tag : Nat) (data : List Byte) (marks : List Bool) (pieces : List Piece), a = s.advance t →
    isRegionSrc src = false → a.writeDead src = false → a.decodeRequest src addr len = .ok pieces →
    ∃ u, exec (.nocRequestAccept t src stream 1 addr len data marks tag) s = .next u ∧
      (∃ q ∈ u.noc.reqs, q.kind = .write ∧ q.src = src ∧ q.stream = stream ∧ q.addr = addr ∧ q.len = len ∧ q.data = data ∧ q.marks = marks ∧
        q.tag = tag ∧ q.acceptedAt = a.now) ∧ a.keepsMem u) ∧
  (∀ (s a : State) (t src stream code addr len tag c : Nat) (data : List Byte) (marks : List Bool), a = s.advance t → isRegionSrc src = false →
    (code = 0 ∨ code = 1 ∧ a.writeDead src = false) → a.decodeRequest src addr len = .error c →
    ∃ u, exec (.nocRequestAccept t src stream code addr len data marks tag) s = .next u ∧ ∃ q, u.noc.reqs = a.noc.reqs ++ [q] ∧
      q.id = a.noc.nextId ∧ q.self = some c ∧ q.parts = [] ∧ a.keepsRegs u [] ∧ a.keepsMem u) ∧
  (∀ (s a : State) (t src stream code addr len tag : Nat) (data : List Byte) (marks : List Bool), a = s.advance t → isRegionSrc src = false →
    code ≠ 0 → code ≠ 1 → code ≠ 3 →
    ∃ u, exec (.nocRequestAccept t src stream code addr len data marks tag) s = .next u ∧ ∃ q, u.noc.reqs = a.noc.reqs ++ [q] ∧
      q.self = some 3 ∧ q.parts = [] ∧ a.keepsRegs u [] ∧ a.keepsMem u) ∧
  (∀ (s a : State) (t id c : Nat) (r : Request), a = s.advance t → a.idleNoc → a.findReq id = some r → r.self = some c →
    r.acceptedAt + 12 ≤ a.now → isRegionSrc r.src = false → r.injAt = none →
    a.forcedSrc r.src = false → a.olderPending r = false → a.fencesDone r = true → r.kind.nonPosted = true → r.kind ≠ .fence → r.report = true →
    ∃ u, exec (.interfaceSelfAnswer t id) s = .next u ∧ u.noc.inbox = a.noc.inbox ++ [r.delivered c (a.dataOf r c []) []] ∧
      a.keepsRegs u [] ∧ a.keepsMem u) ∧
  (∀ (s a : State) (t id p x : Nat) (r : Request) (q : Part), a = s.advance t → a.findReq id = some r → r.parts[p]? = some q →
    q.arrivedAt = some x → q.performed = false → q.begun = false → x + a.tgtLimit ≤ a.now → a.isHeld id p = false →
    ∃ u, exec (.targetLimitTimeout t id p) s = .next u ∧ u.answered id p (codeAnswer rTimeout) ∧ a.keepsRegs u [] ∧ a.keepsMem u) ∧
  (∀ (s a : State) (t id : Nat) (r : Request), a = s.advance t → a.idleNoc → a.findReq id = some r → r.kind.nonPosted = true → r.kind ≠ .fence →
    r.done = false → r.report = true → isRegionSrc r.src = false → r.injAt.isSome = true → a.forcedSrc r.src = false →
    r.acceptedAt + a.initLimit ≤ a.now →
    ∃ u, exec (.initiatorTimeout t id) s = .next u ∧ r.delivered rTimeout (a.dataOf r rTimeout []) [] ∈ u.noc.inbox ∧
      u.fld Reg.NOC_CNT_TIMEOUT Fld.NOC_CNT_TIMEOUT_COUNT = satAdd (2 ^ Fld.NOC_CNT_TIMEOUT_COUNT.width - 1)
        (a.fld Reg.NOC_CNT_TIMEOUT Fld.NOC_CNT_TIMEOUT_COUNT) 1 ∧ a.keepsRegs u [Reg.NOC_CNT_TIMEOUT] ∧ a.keepsMem u) ∧
  (∀ (s a : State) (t src stream tag : Nat), a = s.advance t → a.idleNoc → isRegionSrc src = false → 0x40 ≤ src → a.flipHolds = false →
    a.holdingFences src 0 stream = [] → (∀ q ∈ a.noc.reqs, q.src = src → q.injAt.isSome = true) →
    ∃ u, exec (.fenceAccept t src stream tag) s = .next u ∧ ∃ q, u.noc.reqs = a.noc.reqs ++ [q] ∧ q.kind = .fence ∧ q.src = src ∧
      q.holds = [stream] ∧ q.covers = [0, 1, 2, 3, 4, 5, 6, 7] ∧ q.report = true ∧ q.tag = tag ∧ q.injAt = some a.now ∧
      (∀ x, x < 8 → ∀ y ∈ a.targets src 0 x, ∃ w ∈ q.parts, w.router = y.1 ∧ w.port = y.2 ∧ w.stream = x) ∧ u.noc.lists = a.noc.lists ∧
      a.keepsRegs u [] ∧ a.keepsMem u) ∧
  (∀ (s a : State) (t id p : Nat) (r : Request) (q : Part), a = s.advance t → a.servable id p = some (r, q) → r.kind = .fence →
    q.port ≠ portLREG → q.port ≠ portUREG → a.boardFence r p q = false →
    ∃ u, exec (.fencePacketAtTarget t id p) s = .next u ∧ u.answered id p (codeAnswer 0) ∧ a.keepsRegs u [] ∧ a.keepsMem u) ∧
  (∀ (s a : State) (t id : Nat) (r : Request), a = s.advance t → a.idleNoc → a.findReq id = some r → r.kind = .fence → r.done = false →
    isRegionSrc r.src = false → a.forcedSrc r.src = false → a.fenceReady r = true → r.report = true → (∀ q ∈ a.noc.reqs, id ∉ q.heldBy) →
    ∃ u, exec (.fenceComplete t id) s = .next u ∧ u.noc.inbox = a.noc.inbox ++ [r.delivered (r.fail.getD 0) [] []] ∧
      (∀ x ∈ r.covers, u.targets r.src r.bank x = []) ∧ a.keepsRegs u [] ∧ a.keepsMem u) ∧
  (∀ (s a : State) (t id p : Nat) (r : Request) (q : Part) (x : Answer), a = s.advance t → a.findReq id = some r → r.parts[p]? = some q →
    q.answer = some x → q.returned = false → q.own = false → isErr x.code = true → r.kind.nonPosted = false → 0xC0 ≤ r.src → r.src < 0x100 →
    r.bank < 4 → tfind a.logs Reg.DEV_WERR_LOG = none →
    ∃ u, exec (.writeFailureAckArrival t id p) s = .next u ∧ u.noc.inbox = a.noc.inbox ++ [r.delivered x.code [] []] ∧
      (tfind u.logs Reg.DEV_WERR_LOG).map (fun e => (e.word, e.comp)) =
        some (BitVec.ofNat 32 (r.stream * 2 ^ 14 + x.code * 2 ^ 8 + r.src),
          [(Reg.DEV_WERR_ADDR_LO, BitVec.ofNat 32 q.addr), (Reg.DEV_WERR_ADDR_HI, BitVec.ofNat 32 (q.addr / 2 ^ 32 % 2 ^ 20))]) ∧
      (a.scNext, .logTake Reg.DEV_WERR_LOG) ∈ u.agenda ∧ a.keepsRegs u [] ∧ a.keepsMem u) ∧
  (∀ (a u : State) (e : LogPend), u = a.runLater (.logTake Reg.DEV_WERR_LOG) → tfind a.logs Reg.DEV_WERR_LOG = some e →
    e.comp.map (·.1) = [Reg.DEV_WERR_ADDR_LO, Reg.DEV_WERR_ADDR_HI] → e.int = none →
    (a.fld Reg.DEV_WERR_LOG logValid = 0 → u.fld Reg.DEV_WERR_LOG logValid = 1 ∧
      u.reg Reg.DEV_WERR_LOG &&& 0x3FFFFFFF = e.word &&& 0x3FFFFFFF ∧ (∀ x ∈ e.comp, u.reg x.1 = x.2) ∧
      a.keepsRegs u [Reg.DEV_WERR_LOG, Reg.DEV_WERR_ADDR_LO, Reg.DEV_WERR_ADDR_HI] ∧ a.keepsMem u) ∧
    (a.fld Reg.DEV_WERR_LOG logValid ≠ 0 → u.fld Reg.DEV_WERR_LOG logMore = 1 ∧
      u.reg Reg.DEV_WERR_LOG &&& 0x3FFFFFFF = a.reg Reg.DEV_WERR_LOG &&& 0x3FFFFFFF ∧ a.keepsRegs u [Reg.DEV_WERR_LOG] ∧ a.keepsMem u))

/-! ### Chapter 11: the stacked cache and scrubbing -/

/-- Rests on R292, R313, R314, R318, R322, R323, R330, R332, R339, R465: an access that a line serves is performed in its time after it has reached its
slice. A word of a DIRECT way then reads as it stands, by its class and its mark, and an eight-byte write stores one fresh word and leaves every other word; a
way that is not decoded, one of a die in reset, and a retired way without a victim answer with their codes; a forward that hits is served from the line,
whose replacement state is updated, and makes it dirty where it writes; one that misses sends a fill, or is answered BYPASS where the set has no usable CACHE
way. A fill places its line and serves the forward; one that fails answers the forward with its code. The model's own choices in it: log entries 30 and
92. -/
def Obligations.CacheServesDirectLinesAndForwards : Prop :=
  (∀ (s a : State) (t id p : Nat) (r : Request) (q : Part), a = (s.advance t).cacheInbox → a.reaching id p = some (r, q) → q.port = portCACHE →
    (r.kind = .forward ∨ r.kind = .read ∨ r.kind = .write) → 0 < a.accessTime r q → a.cache.acc.all (fun x => a.now < x.due) = true →
    ∃ u, exec (.cacheRequest t id p) s = .next u ∧ ⟨id, p, a.now + a.accessTime r q⟩ ∈ u.cache.acc ∧
      (a.now + a.accessTime r q, .cacheServe) ∈ u.agenda ∧ a.keepsRegs u [] ∧ a.keepsMem u) ∧
  (∀ (a u : State) (id p d x w n st line : Nat) (r : Request) (q : Part), u = a.runLater .cacheServe → a.cache.acc = [⟨id, p, d⟩] → d ≤ a.now →
    a.servable id p = some (r, q) → x = q.addr % 2 ^ 48 → w = (x - cacheBase) / 2 ^ 28 → (n, st) = a.directPlace (x - cacheBase) →
    line = cacheLine n w st → n < 64 → w < 16 → st < 16384 → q.len = 8 → x % 8 = 0 → a.wayDecoded w = true → a.wayRetired n w = false → a.cacheDieOut w = false →
    (∀ v, r.kind = .read → a.logQuiet (Reg.CACHE_UELOG n) → v = a.cacheWord line (x / 8 % 32) →
      u.answered id p ⟨classCode [(decodeWord v).1], bytesOfWords x 8 (fun _ => (decodeWord v).2), [(decodeWord v).1.bad], false⟩ ∧
      u.cache.acc = [] ∧ a.keepsRegs u [Reg.CACHE_ERR n, Reg.CACHE_UELOG n, Reg.CACHE_INT_STATUS] ∧
      ((decodeWord v).1 = .clean → a.keepsRegs u []) ∧ a.keepsMem u) ∧
    (r.kind = .write → (partData r q).length = 8 → u.answered id p (codeAnswer rOK) ∧ u.cache.acc = [] ∧
      u.cacheWord line (x / 8 % 32) = storeWord ((partMarks r q).getD 0 false) (wordOfBytes x (partData r q) (x / 8)) ∧
      (∀ l i, 32 * l + i ≠ 32 * line + x / 8 % 32 → u.cacheWord l i = a.cacheWord l i) ∧ u.cache.tags = a.cache.tags ∧
      u.scr = a.scr ∧ u.emc = a.emc ∧ u.fab = a.fab ∧ a.keepsRegs u [])) ∧
  (∀ (s a : State) (t id p x w n st c : Nat) (r : Request) (q : Part), a = (s.advance t).cacheInbox → a.reaching id p = some (r, q) →
    a.servable id p = some (r, q) → a.cache.acc = [] → q.port = portCACHE → (r.kind = .read ∨ r.kind = .write) → x = q.addr % 2 ^ 48 →
    w = (x - cacheBase) / 2 ^ 28 → (n, st) = a.directPlace (x - cacheBase) →
    (a.wayDecoded w = false ∧ c = rDecode ∨ a.wayDecoded w = true ∧ a.wayRetired n w = false ∧ a.cacheDieOut w = true ∧ c = rReset ∨
      a.wayDecoded w = true ∧ a.wayRetired n w = true ∧ tfind a.cache.served (n * 16 + w) = none ∧ c = rRetired) →
    ∃ u, exec (.cacheRequest t id p) s = .next u ∧ u.answered id p (codeAnswer c) ∧ a.keepsRegs u [] ∧ a.keepsMem u) ∧
  (∀ (a b u : State) (id p d n set w line : Nat) (r : Request) (q : Part), u = a.runLater .cacheServe → a.cache.acc = [⟨id, p, d⟩] → d ≤ a.now →
    a.servable id p = some (r, q) → r.kind = .forward → r.id = id → p = 0 → n = q.router → set = extSet r.addr → a.cache.fills = [] →
    b = { a with cache := { a.cache with acc := [] } } → State.lookup n set (extTag r.addr) sixteen b = (b, some w) → line = cacheLine n w set → n < 64 → w < 16 →
    r.len = 8 → r.addr % 8 = 0 →
    (∀ v, r.data = [] → a.logQuiet (Reg.CACHE_UELOG n) → v = a.cacheWord line (r.addr / 8 % 32) →
      u.answered id p ⟨classCode [(decodeWord v).1], bytesOfWords r.addr 8 (fun _ => (decodeWord v).2), [(decodeWord v).1.bad], false⟩ ∧
      u.plru n set = plruTouch (a.plru n set) w ∧ u.cache.acc = [] ∧ a.keepsRegs u [Reg.CACHE_ERR n, Reg.CACHE_UELOG n, Reg.CACHE_INT_STATUS] ∧
      ((decodeWord v).1 = .clean → a.keepsRegs u []) ∧ a.keepsMem u) ∧
    (r.data.length = 8 → u.answered id p (codeAnswer rOK) ∧ u.plru n set = plruTouch (a.plru n set) w ∧ u.cache.acc = [] ∧
      u.cacheWord line (r.addr / 8 % 32) = storeWord (r.marks.getD 0 false) (wordOfBytes r.addr r.data (r.addr / 8)) ∧
      (∀ l i, 32 * l + i ≠ 32 * line + r.addr / 8 % 32 → u.cacheWord l i = a.cacheWord l i) ∧
      u.tagPair line = (encodeWord (CacheTag.word ⟨extTag r.addr, true, true⟩), encodeWord (CacheTag.word ⟨extTag r.addr, true, true⟩)) ∧
      a.keepsRegs u [])) ∧
  (∀ (s a : State) (t id p n set : Nat) (r : Request) (q : Part), a = (s.advance t).cacheInbox → a.reaching id p = some (r, q) →
    a.servable id p = some (r, q) → a.cache.acc = [] → q.port = portCACHE → r.kind = .forward → r.id = id → p = 0 → n = q.router → set = extSet r.addr →
    a.cache.fills = [] → State.lookup n set (extTag r.addr) sixteen a = (a, none) →
    (sixteen.any (a.allocWay n set) = false →
      ∃ u, exec (.cacheRequest t id p) s = .next u ∧ u.answered id p ⟨0, [], [], true⟩ ∧ a.keepsRegs u [] ∧ a.keepsMem u) ∧
    (sixteen.any (a.allocWay n set) = true → a.idleNoc →
      ∃ u, exec (.cacheRequest t id p) s = .next u ∧ u.cache.fills = [⟨n, extLine (r.addr / 256 * 256), a.noc.nextId, [id]⟩] ∧
        ((a.extPlace (r.addr / 256 * 256)).isSome = true → ∃ f ∈ u.noc.reqs, f.id = a.noc.nextId ∧ f.kind = .read ∧ f.src = srcCache ∧
          f.addr = r.addr / 256 * 256 ∧ f.len = 256 ∧ f.stream = 0) ∧ a.keepsRegs u [] ∧ a.keepsMem u)) ∧
  (∀ (s a : State) (t id p k : Nat) (d : Delivered) (f : CacheFill) (r : Request), a = (s.advance t).arriveResp id p → a.noc.inbox = [d] →
    d.src = srcCache → d.kind = .read → a.cache.fills = [f] → f.id = d.id → f.wait = [k] → a.findReq k = some r → r.id = k →
    r.parts.any (fun q => !q.performed) = true → a.cache.acc = [] →
    (isErr d.code = true →
      ∃ u, exec (.cacheFillResponse t id p) s = .next u ∧ u.cache.fills = [] ∧ u.noc.inbox = [] ∧ u.answered k 0 (codeAnswer d.code) ∧
      a.keepsRegs u [] ∧ a.keepsMem u) ∧
    (∀ set w pl i v tag, d.code = 0 → a.logQuiet (Reg.CACHE_UELOG f.slice) → set = extSet (f.line * 256) → sixteen.any (a.allocWay f.slice set) = true →
      w = plruWalk (a.allocWay f.slice set) (a.plru f.slice set) 4 1 → pl = cacheLine f.slice w set → a.tagPair pl = (0, 0) → f.slice < 64 → w < 16 →
      r.kind = .forward → r.data = [] → r.addr / 256 = f.line → f.line < 2 ^ 31 → r.len = 8 → r.addr % 8 = 0 → i = r.addr / 8 % 32 →
      v = storeWord (d.marks.getD i false) (wordOfBytes 0 d.bytes i) → tag = encodeWord (CacheTag.word ⟨extTag r.addr, true, false⟩) →
      ∃ u, exec (.cacheFillResponse t id p) s = .next u ∧ u.cache.fills = [] ∧ u.noc.inbox = [] ∧ u.tagPair pl = (tag, tag) ∧
        (∀ j, j < 32 → u.cacheWord pl j = storeWord (d.marks.getD j false) (wordOfBytes 0 d.bytes j)) ∧
        (∀ l j, j < 32 → l ≠ pl → u.cacheWord l j = a.cacheWord l j) ∧ u.plru f.slice set = plruTouch (a.plru f.slice set) w ∧
        u.answered k 0 ⟨classCode [(decodeWord v).1], bytesOfWords r.addr 8 (fun _ => (decodeWord v).2), [(decodeWord v).1.bad], false⟩ ∧
        a.keepsRegs u [Reg.CACHE_ERR f.slice, Reg.CACHE_UELOG f.slice, Reg.CACHE_INT_STATUS]))

/-- Rests on R320, R321, R322, R324, R328, R331: a cache command with GO is refused BUSY while one runs, and starts otherwise; an idle cycle writes a
corrected word back; a pass without a victim drops an invalid set and goes on; FILL begins with zero words, invalid tags and no replacement state, and
ends with FILLED and STORE_READY set, in LOAD. -/
def Obligations.CacheCommandsFillAndPasses : Prop :=
  (∀ (s a : State) (t src v : Nat), Acts s t src Reg.CACHE_CMD a →
    (a.bit Reg.CACHE_CMD_STATUS Fld.CACHE_CMD_STATUS_BUSY = true →
      ∀ c, c = Instr.cacheCmdFlush t src v ∨ c = .cacheCmdFlushInv t src v ∨ c = .cacheCmdSetuse t src v →
      ∃ u, exec c s = .next u ∧ u.bit Reg.CACHE_CMD_STATUS Fld.CACHE_CMD_STATUS_DONE = true ∧
        u.fld Reg.CACHE_CMD_STATUS Fld.CACHE_CMD_STATUS_OUTCOME = 1 ∧ u.cache = a.cache ∧
        a.keepsRegs u [Reg.CACHE_CMD, Reg.CACHE_CMD_STATUS] ∧ a.keepsMem u) ∧
    (a.bit Reg.CACHE_CMD_STATUS Fld.CACHE_CMD_STATUS_BUSY = false →
      (∃ u, exec (.cacheCmdFlush t src v) s = .next u ∧ (u.cache.cmd.map (fun c => (c.op, c.set))) = some (1, 0) ∧ u.cache.setuse = [] ∧
        u.bit Reg.CACHE_CMD_STATUS Fld.CACHE_CMD_STATUS_BUSY = true ∧ u.fld Reg.CACHE_CMD_STATUS Fld.CACHE_CMD_STATUS_PROGRESS = 0 ∧
        a.keepsRegs u [Reg.CACHE_CMD, Reg.CACHE_CMD_STATUS] ∧ a.keepsMem u) ∧
      (∃ u, exec (.cacheCmdFlushInv t src v) s = .next u ∧ (u.cache.cmd.map (fun c => (c.op, c.set))) = some (2, 0) ∧ u.cache.setuse = [] ∧
        u.bit Reg.CACHE_CMD_STATUS Fld.CACHE_CMD_STATUS_BUSY = true ∧ a.keepsRegs u [Reg.CACHE_CMD, Reg.CACHE_CMD_STATUS] ∧ a.keepsMem u) ∧
      (∀ way, way = v / 2 ^ 12 % 16 → way ≠ 15 → v / 2 ^ 8 % 4 = 1 →
        ((List.range 64).any (fun n => a.wayRetired n way) = false →
          ∃ u, exec (.cacheCmdSetuse t src v) s = .next u ∧ u.cache.cmd = some ⟨3, way, 1, 0⟩ ∧ u.cache.setuse = [way] ∧
            u.bit Reg.CACHE_CMD_STATUS Fld.CACHE_CMD_STATUS_BUSY = true ∧ a.keepsRegs u [Reg.CACHE_CMD, Reg.CACHE_CMD_STATUS] ∧ a.keepsMem u) ∧
        ((List.range 64).any (fun n => a.wayRetired n way) = true →
          ∃ u, exec (.cacheCmdSetuse t src v) s = .next u ∧ u.fld Reg.CACHE_CMD_STATUS Fld.CACHE_CMD_STATUS_OUTCOME = 3 ∧ u.cache = a.cache ∧
            a.keepsRegs u [Reg.CACHE_CMD, Reg.CACHE_CMD_STATUS] ∧ a.keepsMem u)))) ∧
  (∀ (s a : State) (t n w k : Nat) (d : Word64), a = s.advance t → a.cache.back.find? (fun p => p.1 / 32 / 16384 == n * 16 + w) = some (k, d) →
    ∃ u, exec (.cacheCorrectedWriteback t n w) s = .next u ∧ u.cacheWord (k / 32) (k % 32) = encodeWord d ∧
      (∀ l i, 32 * l + i ≠ k → u.cacheWord l i = a.cacheWord l i) ∧ u.cache.tags = a.cache.tags ∧ a.keepsRegs u []) ∧
  (∀ (s a : State) (t n c k line : Nat), a = s.advance t → a.cache.remaps = [⟨n, c, none, k, []⟩] → k < 16383 → line = cacheLine n c k →
    a.readTag line = (a, noTag) →
    ∃ u, exec (.remapSetMove t n) s = .next u ∧ u.cache.remaps = [⟨n, c, none, k + 1, []⟩] ∧
      u.tagPair line = (encodeWord noTag.word, encodeWord noTag.word) ∧ u.cache.mem = a.cache.mem ∧ a.keepsRegs u []) ∧
  (∀ (s a : State) (t : Nat), a = s.advance t → a.mode = modeFill → a.cache.fillAt = none → a.pwr.retain = false →
    ∃ u, exec (.cacheFillMode t) s = .next u ∧ (∀ l i, u.cacheWord l i = 0) ∧ (∀ l, (u.readTag l).2.valid = false) ∧ u.cache.plru = [] ∧
      u.cache.fillAt = some a.now ∧ u.scr = a.scr ∧ u.emc = a.emc ∧ a.keepsRegs u []) ∧
  (∀ (s a : State) (t e : Nat), a = s.advance t → a.mode = modeFill → a.cache.fillAt = some e → e + 16384 * 32 * 4 ≤ a.now →
    ∃ u, exec (.fillEnd t) s = .next u ∧ u.bit Reg.CACHE_STATUS Fld.CACHE_STATUS_FILLED = true ∧ u.storeReady = true ∧ u.mode = modeLoad ∧
      u.cache.mem = a.cache.mem)

/-- Rests on R324, R325, R327, R328: GO starts a scrub pass with a zeroed summary, is refused BUSY while one runs and BAD for a range that its kind
does not hold; CANCEL marks the pass; a request goes out for the next line, or a pass over the cache's own lines ends where none is left. A target answers with
the masks of the words that it found, having corrected and stamped them; a scratch bank does so in its idle cycles. An answer with a failing code counts as
skipped, any other as its masks say, and the last ends the pass. -/
def Obligations.ScrubPassesRunAndReport : Prop :=
  (∀ (s a : State) (t src kind base len : Nat), Acts s t src Reg.SCRUB_CTL a → base = a.reg48 Reg.SCRUB_BASE_LO Reg.SCRUB_BASE_HI →
    len = (a.reg Reg.SCRUB_LEN).toNat → kind < 4 →
    (a.bit Reg.SCRUB_STATUS Fld.SCRUB_STATUS_BUSY = true →
      ∃ u, exec (.scrubGo t src kind) s = .next u ∧ u.fld Reg.SCRUB_STATUS Fld.SCRUB_STATUS_OUTCOME = 1 ∧ u.scrub = a.scrub ∧
        a.keepsRegs u [Reg.SCRUB_CTL, Reg.SCRUB_STATUS] ∧ a.keepsMem u) ∧
    (a.bit Reg.SCRUB_STATUS Fld.SCRUB_STATUS_BUSY = false → kind ≠ 3 →
      base % 256 ≠ 0 ∨ len = 0 ∨ base < (scrubRange kind).1 ∨ (scrubRange kind).2 < base + 256 * len →
      ∃ u, exec (.scrubGo t src kind) s = .next u ∧ u.fld Reg.SCRUB_STATUS Fld.SCRUB_STATUS_OUTCOME = 2 ∧ u.scrub = a.scrub ∧
        a.keepsRegs u [Reg.SCRUB_CTL, Reg.SCRUB_STATUS] ∧ a.keepsMem u) ∧
    (a.bit Reg.SCRUB_STATUS Fld.SCRUB_STATUS_BUSY = false →
      kind = 3 ∨ base % 256 = 0 ∧ len ≠ 0 ∧ (scrubRange kind).1 ≤ base ∧ base + 256 * len ≤ (scrubRange kind).2 →
      ∃ u, exec (.scrubGo t src kind) s = .next u ∧ u.bit Reg.SCRUB_STATUS Fld.SCRUB_STATUS_BUSY = true ∧
        u.scrub = some (if kind = 3 then ⟨3, 0, 1, false, none⟩ else ⟨kind, base, len, false, none⟩) ∧ u.fld Reg.SCRUB_CTL Fld.SCRUB_CTL_KIND = kind ∧
        (∀ o ∈ [Reg.SCRUB_SUM_CORR, Reg.SCRUB_SUM_UNCORR, Reg.SCRUB_SUM_STAMPED, Reg.SCRUB_SUM_SKIPPED, Reg.SCRUB_SUM_LOGGED,
          Reg.SCRUB_PROGRESS], u.reg o = 0) ∧
        a.keepsRegs u [Reg.SCRUB_CTL, Reg.SCRUB_STATUS, Reg.SCRUB_SUM_CORR, Reg.SCRUB_SUM_UNCORR, Reg.SCRUB_SUM_STAMPED, Reg.SCRUB_SUM_SKIPPED,
          Reg.SCRUB_SUM_LOGGED, Reg.SCRUB_PROGRESS] ∧ a.keepsMem u) ∧
    (∃ u, exec (.scrubCancel t src kind) s = .next u ∧ u.scrub = a.scrub.map (fun x => { x with cancel := true }) ∧
      u.fld Reg.SCRUB_CTL Fld.SCRUB_CTL_KIND = kind ∧ a.keepsRegs u [Reg.SCRUB_CTL] ∧ a.keepsMem u)) ∧
  (∀ (s a : State) (t kind base len : Nat) (last : Option Nat), a = (s.advance t).scrubInbox → a.idleNoc →
    a.scrub = some ⟨kind, base, len + 1, false, last⟩ → last.all (fun x => x + 24 ≤ a.now) = true →
    (∀ pieces : List Piece, kind ≠ 3 → a.decodeRequest srcScrub base 256 = .ok pieces →
      pieces.all (fun x => a.routeRetired srcScrub x.router x.port) = false →
      ∃ u, exec (.scrubRequestSend t) s = .next u ∧ ∃ q, u.noc.reqs = a.noc.reqs ++ [q] ∧
        u.scrub = some ⟨kind, base + 256, len, false, some a.now⟩ ∧ q.src = srcScrub ∧ q.kind = .scrub ∧ q.addr = base ∧ q.len = 256 ∧ q.tag = kind ∧
        a.keepsRegs u [] ∧ a.keepsMem u) ∧
    (∀ k, kind = 3 → a.nextValidLine base = some k →
      ∃ u, exec (.scrubRequestSend t) s = .next u ∧ ∃ q, u.noc.reqs = a.noc.reqs ++ [q] ∧
        u.scrub = some ⟨3, k + 1, len + 1, false, some a.now⟩ ∧ q.src = srcScrub ∧ q.kind = .scrub ∧ q.addr = k ∧ q.len = 256 ∧ q.tag = 3 ∧
        a.keepsRegs u [] ∧ a.keepsMem u) ∧
    (kind = 3 → a.nextValidLine base = none → a.scrubOut = false →
      ∃ u, exec (.scrubRequestSend t) s = .next u ∧ u.noc = a.noc ∧ u.scrub = none ∧ u.bit Reg.SCRUB_STATUS Fld.SCRUB_STATUS_BUSY = false ∧
        u.bit Reg.SCRUB_STATUS Fld.SCRUB_STATUS_DONE = true ∧ u.fld Reg.SCRUB_STATUS Fld.SCRUB_STATUS_OUTCOME = 0 ∧
        u.bit Reg.SCRUB_INT_STATUS Fld.SCRUB_INT_STATUS_DONE = true ∧ a.keepsRegs u [Reg.SCRUB_STATUS, Reg.SCRUB_INT_STATUS] ∧ a.keepsMem u)) ∧
  (∀ (s a : State) (t id p x : Nat) (r : Request) (q : Part), a = s.advance t → a.servable id p = some (r, q) → r.kind = .scrub →
    x = q.addr % 2 ^ 48 →
    (∀ b, q.port = portSCR → b = (x - scrBase) / 0x40000 → (a.waitAt b).any (fun y => y.id == id && y.part == p) = false →
      ∃ u, exec (.scrubRequestAtTarget t id p) s = .next u ∧ u.waitAt b = a.waitAt b ++ [⟨id, p, 2, 0, [], false⟩] ∧
        (∃ y ∈ u.agenda, y.2 = .scratchEdge b) ∧ a.keepsRegs u [] ∧ a.keepsMem u) ∧
    (∀ w n st line, q.port = portCACHE → r.tag ≠ 3 → w = (x - cacheBase) / 2 ^ 28 → (n, st) = a.directPlace (x - cacheBase) → line = cacheLine n w st →
      n < 64 → w < 16 → st < 16384 → a.wayDecoded w = true → a.wayRetired n w = false → a.cacheDieOut w = false → a.logQuiet (Reg.CACHE_UELOG n) →
      ∃ u, exec (.scrubRequestAtTarget t id p) s = .next u ∧
        u.answered id p ⟨0, scrubMasks ((List.range 32).map (fun i => (decodeWord (a.cacheWord line i)).1)), [], false⟩ ∧
        (∀ i, i < 32 → u.cacheWord line i = afterScrub (a.cacheWord line i)) ∧
        (∀ l i, l ≠ line → i < 32 → u.cacheWord l i = a.cacheWord l i) ∧ u.cache.tags = a.cache.tags ∧
        a.keepsRegs u [Reg.CACHE_ERR n, Reg.CACHE_UELOG n, Reg.CACHE_INT_STATUS]) ∧
    (∀ y, q.port = portCACHE → r.tag = 3 → a.logQuiet (Reg.CACHE_UELOG (lineSlice q.addr)) → a.readTag q.addr = (a, y) → y.valid = true →
      y.dirty = true ∨ (List.range 32).all (fun i => (decodeWord (a.cacheWord q.addr i)).1 != .uncorrectable) = true →
      ∃ u, exec (.scrubRequestAtTarget t id p) s = .next u ∧
        u.answered id p ⟨0, scrubMasks ((List.range 32).map (fun i => (decodeWord (a.cacheWord q.addr i)).1)) ++
          toBytes 8 (tagAddr (lineSlice q.addr) (lineSet q.addr) y.tag), [], false⟩ ∧
        (∀ i, i < 32 → u.cacheWord q.addr i = afterScrub (a.cacheWord q.addr i)) ∧ u.cache.tags = a.cache.tags ∧
        a.keepsRegs u [Reg.CACHE_ERR (lineSlice q.addr), Reg.CACHE_UELOG (lineSlice q.addr), Reg.CACHE_INT_STATUS]) ∧
    (∀ c off, q.port ≠ portCACHE → q.port ≠ portSCR → a.extPlace x = some (c, off) → c < 4 → a.granuleFilled (x / 2 ^ 20) = true → a.rangeOf x = none →
      a.domState (domChannel c) = dsOn → a.gateState (80 + c) = 0 → a.heldFor (domChannel c) = [] →
      ∃ u, exec (.scrubRequestAtTarget t id p) s = .next u ∧
        u.answered id p ⟨0, scrubMasks ((List.range 32).map (fun i => (dramDecode (a.twoCopies c) (a.dram c (off / 8 + i))).1)), [], false⟩ ∧
        (∀ i, i < 32 → u.dram c (off / 8 + i) = afterScrubDram (a.twoCopies c) (a.dram c (off / 8 + i))) ∧
        a.keepsRegs u [Reg.EMC_CH_ERR c, Reg.EMC_INT_STATUS])) ∧
  (∀ (a u : State) (b id p o : Nat) (got : List Word72) (r : Request) (q : Part), u = a.runLater (.scratchEdge b) → 8 ≤ b → b < 96 → a.scrState b ≠ 2 →
    a.portAt b 0 = none → a.waitAt b = [⟨id, p, 2, 1, got, false⟩] → a.findReq id = some r → r.parts[p]? = some q → q.performed = false →
    r.kind = .scrub → q.len = 256 → o = q.addr % 2 ^ 48 % 0x40000 → o % 256 = 0 →
    (∀ i, i < 16 → (a.scrWord? b (o / 8 + 16 + i)).isSome = true) → a.logQuiet (Reg.SCR_UELOG b) →
    u.answered id p ⟨0, scrubMasks ((got ++ (List.range 16).map (fun i => a.scrWord b (o / 8 + 16 + i))).map (fun v => (decodeWord v).1)), [], false⟩ ∧
      u.waitAt b = [] ∧ (∀ i, i < 16 → u.scrWord? b (o / 8 + 16 + i) = some (afterScrub (a.scrWord b (o / 8 + 16 + i)))) ∧
      a.keepsRegs u [Reg.SCR_ERR b, Reg.SCR_UELOG b]) ∧
  (∀ (s a : State) (t id p : Nat) (d : Delivered) (x : Scrub), a = (s.advance t).arriveResp id p → a.noc.inbox = [d] → d.src = srcScrub →
    a.scrub = some x → x.left ≠ 0 → x.cancel = false →
    (isErr d.code = true →
      ∃ u, exec (.scrubAnswer t id p) s = .next u ∧ u.noc.inbox = [] ∧ u.scrub = a.scrub ∧
        u.fld Reg.SCRUB_SUM_SKIPPED Fld.SCRUB_SUM_SKIPPED_COUNT =
          satAdd (2 ^ Fld.SCRUB_SUM_SKIPPED_COUNT.width - 1) (a.fld Reg.SCRUB_SUM_SKIPPED Fld.SCRUB_SUM_SKIPPED_COUNT) 1 ∧
        a.keepsRegs u [Reg.SCRUB_PROGRESS, Reg.SCRUB_SUM_SKIPPED] ∧ a.keepsMem u) ∧
    (∀ corr bad stamped, isErr d.code = false → corr = ofBytes (d.bytes.take 8) → bad = ofBytes ((d.bytes.drop 8).take 8) →
      stamped = ofBytes ((d.bytes.drop 16).take 8) →
      ∃ u, exec (.scrubAnswer t id p) s = .next u ∧ u.noc.inbox = [] ∧ u.scrub = a.scrub ∧
        (u.reg Reg.SCRUB_PROGRESS).toNat = satAdd (2 ^ 32 - 1) (a.reg Reg.SCRUB_PROGRESS).toNat 1 ∧
        (u.reg Reg.SCRUB_SUM_CORR).toNat = satAdd (2 ^ 32 - 1) (a.reg Reg.SCRUB_SUM_CORR).toNat (weight 32 corr) ∧
        (u.reg Reg.SCRUB_SUM_STAMPED).toNat = satAdd (2 ^ 32 - 1) (a.reg Reg.SCRUB_SUM_STAMPED).toNat (weight 32 stamped) ∧
        (u.reg Reg.SCRUB_SUM_UNCORR).toNat = satAdd (2 ^ 32 - 1) (a.reg Reg.SCRUB_SUM_UNCORR).toNat (weight 32 bad) ∧
        (weight 32 bad ≠ 0 → u.bit Reg.SCRUB_INT_STATUS Fld.SCRUB_INT_STATUS_UNCORR = true) ∧
        (weight 32 bad = 0 → a.keepsRegs u [Reg.SCRUB_PROGRESS, Reg.SCRUB_SUM_CORR, Reg.SCRUB_SUM_STAMPED]) ∧ a.keepsMem u)) ∧
  (∀ (s a : State) (t id p : Nat) (d : Delivered) (x : Scrub), a = (s.advance t).arriveResp id p → a.noc.inbox = [d] → d.src = srcScrub →
    a.scrub = some x → x.left = 0 → a.scrubOut = false →
    ∃ u, exec (.scrubAnswer t id p) s = .next u ∧ u.scrub = none ∧ u.bit Reg.SCRUB_STATUS Fld.SCRUB_STATUS_BUSY = false ∧
      u.bit Reg.SCRUB_STATUS Fld.SCRUB_STATUS_DONE = true ∧ u.fld Reg.SCRUB_STATUS Fld.SCRUB_STATUS_OUTCOME = 0 ∧
      u.bit Reg.SCRUB_INT_STATUS Fld.SCRUB_INT_STATUS_DONE = true ∧ a.keepsMem u)

/-! ### Chapter 12: external memory and inline encryption -/

/-- Rests on R336, R337, R341: a channel that is ABSENT or FAILED begins TRAINING, another keeps its state; MAP maps every READY channel once and is
refused otherwise, and CAPACITY becomes the sum of their usable sizes; a fill starts, or is refused BUSY, not mapped or out of bounds, in that order; CANCEL
marks the fill. -/
def Obligations.ExternalMemoryIsTrainedMappedAndFilled : Prop :=
  (∀ (s a : State) (t src c v : Nat), Acts s t src (Reg.EMC_CH_CFG c) a →
    (a.chState c = 0 ∨ a.chState c = 3 → ∃ u, exec (.emcTrain t src c v) s = .next u ∧ u.chState c = 1 ∧
      u.bit (Reg.EMC_CH_CFG c) Fld.EMC_CH_CFG_EN = true ∧ u.fld (Reg.EMC_CH_CFG c) Fld.EMC_CH_CFG_CAP = v / 2 ^ 8 % 2 ^ 8 ∧
      a.keepsRegs u [Reg.EMC_CH_CFG c, Reg.EMC_CH_STATUS c] ∧ a.keepsMem u) ∧
    (a.chState c ≠ 0 → a.chState c ≠ 3 → ∃ u, exec (.emcTrain t src c v) s = .next u ∧ a.keepsRegs u [] ∧ a.keepsMem u)) ∧
  (∀ (s a : State) (t src v : Nat), Acts s t src Reg.EMC_CTL a →
    (a.bit Reg.EMC_STATUS Fld.EMC_STATUS_MAPPED = true ∨ (∀ c, c < 4 → a.chState c ≠ 2) →
      ∃ u, exec (.emcMap t src v) s = .next u ∧ u.bit Reg.EMC_STATUS Fld.EMC_STATUS_MAP_REFUSED = true ∧
        u.bit Reg.EMC_STATUS Fld.EMC_STATUS_MAPPED = a.bit Reg.EMC_STATUS Fld.EMC_STATUS_MAPPED ∧
        a.keepsRegs u [Reg.EMC_CTL, Reg.EMC_STATUS] ∧ a.keepsMem u) ∧
    (a.bit Reg.EMC_STATUS Fld.EMC_STATUS_MAPPED = false → (∃ c, c < 4 ∧ a.chState c = 2) →
      ∃ u, exec (.emcMap t src v) s = .next u ∧ u.bit Reg.EMC_STATUS Fld.EMC_STATUS_MAPPED = true ∧
        (∀ c, c < 4 → u.chState c = if a.chState c = 2 then 4 else a.chState c) ∧
        u.capacity = (((List.range 4).filter (fun c => decide (a.chState c = 2))).map u.usable).foldl (· + ·) 0 / 2 ^ 20 ∧
        a.keepsRegs u [Reg.EMC_CTL, Reg.EMC_STATUS, Reg.EMC_CH_STATUS 0, Reg.EMC_CH_STATUS 1, Reg.EMC_CH_STATUS 2, Reg.EMC_CH_STATUS 3] ∧ a.keepsMem u)) ∧
  (∀ (s a : State) (t src g n : Nat), Acts s t src Reg.EMC_FILL_CTL a → g = a.fld Reg.EMC_FILL_START Fld.EMC_FILL_START_GRANULE →
    n = a.fld Reg.EMC_FILL_COUNT Fld.EMC_FILL_COUNT_GRANULE →
    (a.bit Reg.EMC_FILL_STATUS Fld.EMC_FILL_STATUS_BUSY = true → ∃ u, exec (.emcFillGo t src) s = .next u ∧
      u.fld Reg.EMC_FILL_STATUS Fld.EMC_FILL_STATUS_OUTCOME = 1 ∧ u.emc = a.emc ∧ a.keepsRegs u [Reg.EMC_FILL_STATUS] ∧ a.keepsMem u) ∧
    (a.bit Reg.EMC_FILL_STATUS Fld.EMC_FILL_STATUS_BUSY = false → a.bit Reg.EMC_STATUS Fld.EMC_STATUS_MAPPED = false →
      ∃ u, exec (.emcFillGo t src) s = .next u ∧ u.fld Reg.EMC_FILL_STATUS Fld.EMC_FILL_STATUS_OUTCOME = 2 ∧ u.emc = a.emc ∧
        a.keepsRegs u [Reg.EMC_FILL_STATUS] ∧ a.keepsMem u) ∧
    (a.bit Reg.EMC_FILL_STATUS Fld.EMC_FILL_STATUS_BUSY = false → a.bit Reg.EMC_STATUS Fld.EMC_STATUS_MAPPED = true → n = 0 ∨ a.capacity < g + n →
      ∃ u, exec (.emcFillGo t src) s = .next u ∧ u.fld Reg.EMC_FILL_STATUS Fld.EMC_FILL_STATUS_OUTCOME = 3 ∧ u.emc = a.emc ∧
        a.keepsRegs u [Reg.EMC_FILL_STATUS] ∧ a.keepsMem u) ∧
    (a.bit Reg.EMC_FILL_STATUS Fld.EMC_FILL_STATUS_BUSY = false → a.bit Reg.EMC_STATUS Fld.EMC_STATUS_MAPPED = true → n ≠ 0 → g + n ≤ a.capacity →
      ∃ u, exec (.emcFillGo t src) s = .next u ∧ u.bit Reg.EMC_FILL_STATUS Fld.EMC_FILL_STATUS_BUSY = true ∧
        u.fld Reg.EMC_FILL_STATUS Fld.EMC_FILL_STATUS_PROGRESS = 0 ∧ u.emc.fill = some ⟨g, n, 0, false⟩ ∧
        a.keepsRegs u [Reg.EMC_FILL_STATUS] ∧ a.keepsMem u) ∧
    (∃ u, exec (.emcFillCancel t src) s = .next u ∧ u.emc.fill = a.emc.fill.map (fun f => { f with cancel := true }) ∧
      a.keepsRegs u [] ∧ a.keepsMem u))

/-- Rests on R323, R338, R339, R342, R346, R353: a request at a controller whose granule is UNFILLED is answered ERR_UNINIT and counted; with the
cache enabled it is forwarded to the slice of its line; with the cache disabled a read waits for DRAM and an eight-byte write outside every range
stores one fresh word and no other; the line's data answer the read, a failed tag check answers ERR_AUTH; the answer of a forward answers its request.
The model's own choices in it: log entries 31 and 93. -/
def Obligations.ExternalRequestsAreServed : Prop :=
  (∀ (s a : State) (t id p x len c off : Nat) (r : Request) (q : Part), a = (s.advance t).emcInbox false → a.servable id p = some (r, q) →
    q.port = portAUX → x = q.addr % 2 ^ 48 → x < 0x0080_0000_0000 → a.isLocal q.addr = true → a.findJob id p = none → len = q.len →
    linePieces x len = [(x, len)] → linePieces q.addr len = [(q.addr, len)] →
    ((r.kind = .read ∨ r.kind = .write) → a.granuleFilled (x / 2 ^ 20) = false →
      ∃ u, exec (.emcRequest t id p) s = .next u ∧ u.answered id p (codeAnswer rUninit) ∧
        u.fld Reg.EMC_CNT_UNINIT Fld.EMC_CNT_UNINIT_COUNT = satAdd (2 ^ 32 - 1) (a.fld Reg.EMC_CNT_UNINIT Fld.EMC_CNT_UNINIT_COUNT) 1 ∧
        a.keepsRegs u [Reg.EMC_CNT_UNINIT] ∧ a.keepsMem u) ∧
    (r.kind = .read → a.granuleFilled (x / 2 ^ 20) = true → a.rangeOf x = none → a.extPlace x = some (c, off) → c < 4 →
      a.bit Reg.EMC_CTL Fld.EMC_CTL_CACHE_EN = true → r.src ≠ srcScrub → r.src ≠ srcCache → r.src ≠ srcFill → a.idleNoc →
      ∃ u, exec (.emcRequest t id p) s = .next u ∧ u.findJob id p = some ⟨id, p, some a.noc.nextId, false, false, [(x, len)], noAnswer⟩ ∧
        (∃ f ∈ u.noc.reqs, f.id = a.noc.nextId ∧ f.kind = .forward ∧ f.src = srcCache ∧ f.addr = x ∧ f.len = len ∧
          (f.self = none → f.parts.map (fun k => (k.router, k.port)) = [(fold6 (extLine x), portCACHE)])) ∧ a.keepsRegs u [] ∧ a.keepsMem u) ∧
    (a.granuleFilled (x / 2 ^ 20) = true → a.rangeOf x = none → a.extPlace x = some (c, off) → c < 4 →
      a.bit Reg.EMC_CTL Fld.EMC_CTL_CACHE_EN = false → a.gateState (80 + c) = 0 → a.domState (domChannel c) = dsOn → a.heldFor (domChannel c) = [] →
      (r.kind = .read → ∃ u, exec (.emcRequest t id p) s = .next u ∧ u.findJob id p = some ⟨id, p, none, true, false, [(x, len)], noAnswer⟩ ∧
        a.keepsRegs u [] ∧ a.keepsMem u) ∧
      (r.kind = .write → len = 8 → x % 8 = 0 → (partData r q).length = 8 →
        ∃ u, exec (.emcRequest t id p) s = .next u ∧ u.answered id p (codeAnswer rOK) ∧
          u.dram c (off / 8) = dramWord (a.twoCopies c) ((partMarks r q).getD 0 false) (wordOfBytes x (partData r q) (x / 8)) ∧
          (∀ k w, dramKey k w ≠ dramKey c (off / 8) → u.dram k w = a.dram k w) ∧ u.scr = a.scr ∧ u.cache = a.cache ∧ u.fab = a.fab ∧
          a.keepsRegs u []))) ∧
  (∀ (s a : State) (t id p x c off len : Nat) (r : Request), a = s.advance t → a.findReq id = some r →
    a.findJob id p = some ⟨id, p, none, true, false, [(x, len)], noAnswer⟩ → (r.parts.getD p default).performed = false → r.kind = .read →
    a.granuleFilled (x / 2 ^ 20) = true → a.extPlace x = some (c, off) →
    (a.rangeOf x = none → len = 8 → x % 8 = 0 → (dramDecode (a.twoCopies c) (a.dram c (off / 8))).1 = .clean →
      ∃ u, exec (.dramReadComplete t id p) s = .next u ∧
        u.answered id p ⟨0, bytesOfWords x 8 (fun _ => (dramDecode (a.twoCopies c) (a.dram c (off / 8))).2), [false], false⟩ ∧
        u.findJob id p = none ∧ a.keepsRegs u [] ∧ a.keepsMem u) ∧
    (∀ (j : Nat) (b : State), a.rangeOf x = some j → a.bit Reg.XTS_STATUS Fld.XTS_STATUS_ZEROISED = false →
      a.readProt c (off / 256 * 256) (x / 256 * 256) (a.keyFor j x r.key).1 (a.keyFor j x r.key).2 0 r.src = (b, .auth) →
      ∃ u, exec (.dramReadComplete t id p) s = .next u ∧ u.answered id p (codeAnswer rAuth) ∧ u.findJob id p = none ∧
        b.keepsRegs u [] ∧ b.keepsMem u)) ∧
  (∀ (s a : State) (t id p : Nat) (d : Delivered) (j : EmcJob) (r : Request) (y : Nat × Nat), (s.advance t).bypassOf id p = false →
    a = (s.advance t).arriveResp id p → a.noc.inbox = [d] → d.src = srcCache → d.kind = .forward → d.code ≤ 0xB →
    a.emc.jobs = [j] → j.fwd = some d.id → j.left = [y] → j.ans = noAnswer → a.findReq j.id = some r →
    (r.parts.getD j.part default).performed = false →
    ∃ u, exec (.forwardAnswer t id p) s = .next u ∧ u.answered j.id j.part ⟨d.code, d.bytes, d.marks, false⟩ ∧ u.emc.jobs = [] ∧
      a.keepsRegs u [] ∧ a.keepsMem u)

/-- Rests on R350, R351, R352, R359: engine 0 writes a range, whose EN = 1 is judged by its checks with the result shown, and whose EN = 0 is taken;
it stages a key, copies it into the named place and clears the stage, unless the range is in use or rotates; it starts a rotation at the range's first
line, or is refused. A write of another initiator only sets REFUSED. The model's own choice in it: log entry 33. -/
def Obligations.XtsRangesKeysAndRotation : Prop :=
  (∀ (s a : State) (t src j k v key : Nat) (c : Instr), src ≠ 0 →
    (c = Instr.xtsRangeEnable t src j v ∨ c = .xtsRangeDisable t src j v) ∧ Acts s t src (Reg.XTS_RANGE_CTL j) a ∨
    c = .xtsKeyStageWrite t src j v ∧ Acts s t src (Reg.XTS_KEY_STAGE j) a ∨
    (c = .xtsKeyLoadCur t src key k ∨ c = .xtsKeyLoadNew t src key k ∨ c = .xtsKeyLoadSlot t src key k ∨ c = .xtsKeyLoadLink t src key k) ∧
      Acts s t src Reg.XTS_KEY_CMD a ∨
    c = .xtsRotGo t src j ∧ Acts s t src (Reg.XTS_ROT j) a →
    ∃ u, exec c s = .next u ∧ u.bit Reg.XTS_STATUS Fld.XTS_STATUS_REFUSED = true ∧ u.emc = a.emc ∧
      a.keepsRegs u [Reg.XTS_STATUS, Reg.XTS_INT_STATUS] ∧ a.keepsMem u) ∧
  (∀ (s a b : State) (t j v : Nat), Acts s t 0 (Reg.XTS_RANGE_CTL j) a →
    (a.rangeEn j = false →
      b = (a.setFld (Reg.XTS_RANGE_CTL j) Fld.XTS_RANGE_CTL_MODE (v / 2 ^ 30)).setFld (Reg.XTS_RANGE_CTL j) Fld.XTS_RANGE_CTL_DEFAULT_SLOT (v / 2 ^ 8) →
      ∃ u, exec (.xtsRangeEnable t 0 j v) s = .next u ∧ (u.rangeEn j = decide (b.rangeCheck j = 0)) ∧
        u.fld Reg.XTS_STATUS Fld.XTS_STATUS_RESULT = b.rangeCheck j ∧ u.emc = a.emc ∧
        a.keepsRegs u [Reg.XTS_RANGE_CTL j, Reg.XTS_STATUS] ∧ a.keepsMem u) ∧
    (a.rangeEn j = true → ∃ u, exec (.xtsRangeEnable t 0 j v) s = .next u ∧ a.keepsRegs u [] ∧ a.keepsMem u) ∧
    (∃ u, exec (.xtsRangeDisable t 0 j v) s = .next u ∧ u.rangeEn j = false ∧ u.emc = a.emc ∧
      a.keepsRegs u [Reg.XTS_RANGE_CTL j] ∧ a.keepsMem u)) ∧
  (∀ (s a : State) (t i v : Nat), Acts s t 0 (Reg.XTS_KEY_STAGE i) a →
    ∃ u, exec (.xtsKeyStageWrite t 0 i v) s = .next u ∧ u.reg (Reg.XTS_KEY_STAGE i) = BitVec.ofNat 32 v ∧
      a.keepsRegs u [Reg.XTS_KEY_STAGE i] ∧ a.keepsMem u) ∧
  (∀ (s a : State) (t key k : Nat), Acts s t 0 Reg.XTS_KEY_CMD a → key < 3 →
    (k < 8 → a.rangeEn k = false → ∃ u, exec (.xtsKeyLoadCur t 0 key k) s = .next u ∧ tget (fun _ => 0) u.emc.keys (4 * k + key) = a.stagedKey ∧
      (∀ i, i ≠ 4 * k + key → tget (fun _ => 0) u.emc.keys i = tget (fun _ => 0) a.emc.keys i) ∧
      (u.fld (Reg.XTS_RANGE_CTL k) Fld.XTS_RANGE_CTL_CUR_LOADED).testBit key = true ∧ (∀ i, i < 8 → u.reg (Reg.XTS_KEY_STAGE i) = 0) ∧
      u.fld Reg.XTS_STATUS Fld.XTS_STATUS_RESULT = 0 ∧ a.keepsMem u) ∧
    (k < 8 → a.rangeEn k = true → ∃ u, exec (.xtsKeyLoadCur t 0 key k) s = .next u ∧ u.emc = a.emc ∧
      u.fld Reg.XTS_STATUS Fld.XTS_STATUS_RESULT = 7 ∧ a.keepsRegs u [Reg.XTS_STATUS] ∧ a.keepsMem u) ∧
    (k < 8 → a.bit (Reg.XTS_ROT k) Fld.XTS_ROT_BUSY = false → ∃ u, exec (.xtsKeyLoadNew t 0 key k) s = .next u ∧
      tget (fun _ => 0) u.emc.keys (4 * (8 + k) + key) = a.stagedKey ∧
      (u.fld (Reg.XTS_RANGE_CTL k) Fld.XTS_RANGE_CTL_NEW_LOADED).testBit key = true ∧ u.fld Reg.XTS_STATUS Fld.XTS_STATUS_RESULT = 0 ∧
      a.keepsMem u) ∧
    (k < 16 → ∃ u, exec (.xtsKeyLoadSlot t 0 key k) s = .next u ∧ tget (fun _ => 0) u.emc.keys (4 * (16 + k) + key) = a.stagedKey ∧
      (u.fld (Reg.XTS_SLOT k) Fld.XTS_SLOT_LOADED).testBit key = true ∧ u.fld Reg.XTS_STATUS Fld.XTS_STATUS_RESULT = 0 ∧ a.keepsMem u) ∧
    (k < 4 → ∃ u, exec (.xtsKeyLoadLink t 0 key k) s = .next u ∧ tget (fun _ => 0) u.emc.keys (4 * (32 + k) + key) = a.stagedKey ∧
      (u.fld (Reg.XTS_LINK k) Fld.XTS_LINK_LOADED).testBit key = true ∧ u.fld Reg.XTS_STATUS Fld.XTS_STATUS_RESULT = 0 ∧ a.keepsMem u)) ∧
  (∀ (s a : State) (t j : Nat), Acts s t 0 (Reg.XTS_ROT j) a → j < 8 →
    (a.rangeEn j = true → a.compat j = false → a.fld (Reg.XTS_RANGE_CTL j) Fld.XTS_RANGE_CTL_NEW_LOADED = 7 → a.sameKeys (setNew j) = false →
      (∀ k, k < 8 → a.bit (Reg.XTS_ROT k) Fld.XTS_ROT_BUSY = false) →
      ∃ u, exec (.xtsRotGo t 0 j) s = .next u ∧ u.emc.rot = some ⟨j, a.rangeBase j * 4096⟩ ∧ u.bit (Reg.XTS_ROT j) Fld.XTS_ROT_BUSY = true ∧
        u.reg (Reg.XTS_ROT_PTR j) = BitVec.ofNat 32 (a.rangeBase j * 4096) ∧ u.emc.keys = a.emc.keys ∧
        a.keepsRegs u [Reg.XTS_ROT j, Reg.XTS_ROT_PTR j, Reg.XTS_STATUS] ∧ a.keepsMem u) ∧
    (a.rangeEn j = false → ∃ u, exec (.xtsRotGo t 0 j) s = .next u ∧ u.emc = a.emc ∧ u.fld Reg.XTS_STATUS Fld.XTS_STATUS_RESULT = 9 ∧
      a.keepsRegs u [Reg.XTS_STATUS] ∧ a.keepsMem u))

/-- Rests on R354: the alarm raised under the ZEROISE policy erases every key, unloads every key place, and stops the device in SECURE HALT. -/
def Obligations.AlarmUnderZeroiseErasesKeysAndHalts : Prop :=
  ∀ (a : State), a.bit Reg.XTS_ALARM Fld.XTS_ALARM_RAISED = false → a.bit Reg.XTS_ALARM Fld.XTS_ALARM_POLICY = true → a.mayHalt = true →
    a.raiseAlarm.mode = modeSecureHalt ∧ a.raiseAlarm.emc.keys = [] ∧ a.raiseAlarm.emc.rot = none ∧
    a.raiseAlarm.bit Reg.XTS_ALARM Fld.XTS_ALARM_RAISED = true ∧ a.raiseAlarm.bit Reg.XTS_STATUS Fld.XTS_STATUS_ZEROISED = true ∧
    (∀ k, k < 16 → a.raiseAlarm.fld (Reg.XTS_SLOT k) Fld.XTS_SLOT_LOADED = 0)

/-! ### Chapter 13: duplex lanes -/

/-- Rests on R361, R362, R363, R366, R379: an enable of a DISABLED lane starts its calibration when the chosen profile is valid, and reports BAD_PROF
otherwise; a disable stops the lane; calibration ends in ACTIVE. A profile switch is refused BUSY, for the state, or BAD_PROF, and starts otherwise; one
asked for by PROF_GO is judged once the requests of its fc edge are known, and is refused BUSY where the region's falls at that edge. Its end runs the new
profile. The receiver acquires, locks with LRX_SEQ at 0, loses lock and loses its signal; REALIGN and SLIP act. The model's own choice in it: log entry 94. -/
def Obligations.LanesAreEnabledSwitchedAndLocked : Prop :=
  (∀ (s a : State) (t src l v : Nat), Acts s t src (Reg.LANE_CFG l) a → a.laneQuiet l →
    (a.bit (Reg.LANE_CFG l) Fld.LANE_CFG_EN = false → a.laneState l = 1 → profileValid (a.reg (Reg.LANE_PROF l (v % 4))) = true →
      ∃ u, exec (.laneEnable t src l v) s = .next u ∧ u.bit (Reg.LANE_CFG l) Fld.LANE_CFG_EN = true ∧ u.laneState l = 2 ∧
        u.laneProfile l = v % 4 ∧ a.keepsRegs u [Reg.LANE_CFG l, Reg.LANE_STATUS l] ∧ a.keepsMem u) ∧
    (a.bit (Reg.LANE_CFG l) Fld.LANE_CFG_EN = false → a.laneState l = 1 → profileValid (a.reg (Reg.LANE_PROF l (v % 4))) = false →
      ∃ u, exec (.laneEnable t src l v) s = .next u ∧ u.bit (Reg.LANE_CFG l) Fld.LANE_CFG_EN = false ∧ u.laneState l = 1 ∧
        u.fld (Reg.LANE_STATUS l) Fld.LANE_STATUS_PROF_STAT = 2 ∧ a.keepsRegs u [Reg.LANE_CFG l, Reg.LANE_STATUS l] ∧ a.keepsMem u) ∧
    (a.bit (Reg.LANE_CFG l) Fld.LANE_CFG_EN = true →
      ∃ u, exec (.laneDisable t src l v) s = .next u ∧ u.bit (Reg.LANE_CFG l) Fld.LANE_CFG_EN = false ∧ u.laneState l = 1 ∧ u.laneRx l = 0 ∧
        (u.laneOf l).txq = [] ∧ (u.laneOf l).out = none ∧
        a.keepsRegs u [Reg.LANE_CFG l, Reg.LANE_STATUS l, Reg.LANE_CAP_CTL l, Reg.LANE_INT_STATUS] ∧ a.keepsMem u)) ∧
  (∀ (s a : State) (t l : Nat), a = s.advance t → a.laneState l = 2 → a.bit (Reg.LANE_STATUS l) Fld.LANE_STATUS_PROF_BUSY = false →
    a.gateState (64 + l / 4) = 0 → ∃ u, exec (.laneCalDone t l) s = .next u ∧ u.laneState l = 3 ∧ a.keepsRegs u [Reg.LANE_STATUS l] ∧ a.keepsMem u) ∧
  (∀ (s a : State) (t src l p : Nat), Acts s t src (Reg.LANE_CTL l) a →
    ∃ u, exec (.laneProfGo t src l p) s = .next u ∧ (a.now / 6 * 6 + 1, .profGo l (p % 4)) ∈ u.agenda ∧
      u.fld (Reg.LANE_CTL l) Fld.LANE_CTL_PROFILE = p % 4 ∧ a.keepsRegs u [Reg.LANE_CTL l] ∧ a.keepsMem u) ∧
  (∀ (a u : State) (l p : Nat), u = a.runLater (.profGo l p) → a.laneQuiet l → p < 4 →
    ((a.laneOf l).reqAt = some (a.now / 6) → u.fld (Reg.LANE_STATUS l) Fld.LANE_STATUS_PROF_STAT = 1 ∧ u.laneState l = a.laneState l ∧
      a.keepsRegs u [Reg.LANE_STATUS l] ∧ a.keepsMem u) ∧
    ((a.laneOf l).reqAt ≠ some (a.now / 6) → a.switchOutcome u l p)) ∧
  (∀ (s a : State) (t l p : Nat), a = s.advance t → a.laneQuiet l → a.laneRegionLive l = true →
    ∃ u, exec (.lprofReq t l p) s = .next u ∧ (u.laneOf l).reqAt = some (a.now / 6) ∧ a.switchOutcome u l (p % 4)) ∧
  (∀ (s a : State) (t l : Nat), a = s.advance t → a.laneQuiet l → a.bit (Reg.LANE_STATUS l) Fld.LANE_STATUS_PROF_BUSY = true → (a.laneOf l).target < 4 →
    ∃ u, exec (.profDone t l) s = .next u ∧ u.bit (Reg.LANE_STATUS l) Fld.LANE_STATUS_PROF_BUSY = false ∧ u.laneState l = 3 ∧
      u.laneProfile l = (a.laneOf l).target ∧ a.keepsRegs u [Reg.LANE_STATUS l] ∧ a.keepsMem u) ∧
  (∀ (s a : State) (t src l p : Nat), Acts s t src (Reg.LANE_CTL l) a → a.laneQuiet l →
    (a.laneRx l = 2 → ∃ u, exec (.laneRealign t src l p) s = .next u ∧ u.laneRx l = 1 ∧
      u.bit (Reg.LANE_STATUS l) Fld.LANE_STATUS_LOCK_LOST = true ∧
      a.keepsRegs u [Reg.LANE_CTL l, Reg.LANE_STATUS l, Reg.LANE_INT_STATUS] ∧ a.keepsMem u) ∧
    (fieldGet (a.activeProfile l) Fld.LANE_PROF_ENC = 0 → ∃ u, exec (.laneSlip t src l p) s = .next u ∧
      (u.laneOf l).slip = ((a.laneOf l).slip + 1) % 128 ∧ a.keepsRegs u [Reg.LANE_CTL l] ∧ a.keepsMem u) ∧
    (fieldGet (a.activeProfile l) Fld.LANE_PROF_ENC ≠ 0 → ∃ u, exec (.laneSlip t src l p) s = .next u ∧ u.lane = a.lane ∧
      a.keepsRegs u [Reg.LANE_CTL l] ∧ a.keepsMem u)) ∧
  (∀ (s a : State) (t l : Nat), a = s.advance t → a.laneQuiet l →
    (a.laneLive l = true → a.laneRx l = 0 → ∃ u, exec (.signalDetect t l) s = .next u ∧ u.laneRx l = 1 ∧
      a.keepsRegs u [Reg.LANE_STATUS l] ∧ a.keepsMem u) ∧
    (a.laneState l = 3 → a.laneRx l = 1 → ∃ u, exec (.rxLock t l) s = .next u ∧ u.laneRx l = 2 ∧ (u.laneOf l).next = 0 ∧
      a.keepsRegs u [Reg.LANE_STATUS l] ∧ a.keepsMem u) ∧
    (a.laneRx l = 2 → ∃ u, exec (.rxLockLost t l) s = .next u ∧ u.laneRx l = 1 ∧
      u.bit (Reg.LANE_STATUS l) Fld.LANE_STATUS_LOCK_LOST = true ∧ a.keepsRegs u [Reg.LANE_STATUS l, Reg.LANE_INT_STATUS] ∧ a.keepsMem u) ∧
    (a.laneRx l ≠ 0 → ∃ u, exec (.signalLoss t l) s = .next u ∧ u.laneRx l = 0 ∧
      a.keepsRegs u [Reg.LANE_STATUS l, Reg.LANE_INT_STATUS] ∧ a.keepsMem u))

/-- Rests on R364, R368, R369, R370, R372, R373, R374, R375: a received word is presented under the next LRX_SEQ, with corrections and errors counted;
it starts a forward where the conditions hold, and the forward stops where one has failed, until the transmitter has retimed. A word of the region is
queued while fewer than eight wait; a slot sends the oldest word that is in time, the underrun word or electrical idle, or what the forward has for
it, with the substitution that claimed it. Capture is enabled with an aligned base only, and writes its oldest four records. The model's own choice in
it: log entry 94. -/
def Obligations.LaneWordsAreReceivedForwardedAndSent : Prop :=
  (∀ (s a : State) (t l x corr data side err q : Nat) (w : LWord), a = s.advance t → a.laneQuiet l → a.laneState l = 3 → a.laneRx l = 2 →
    w = ⟨BitVec.ofNat 128 data, BitVec.ofNat 16 side, BitVec.ofNat 16 err⟩ → q = (a.laneOf l).next →
    (a.mayForward l = false → err = 0 → ∃ u, exec (.laneRxWord t l x corr false data side err) s = .next u ∧ (u.laneOf l).rx = w ∧
      (u.laneOf l).rxSeq = q ∧ (u.laneOf l).next = (q + 1) % 256 ∧
      u.fld (Reg.LANE_FEC_CORR l) Fld.LANE_FEC_CORR_SYMBOLS =
        satAdd (2 ^ Fld.LANE_FEC_CORR_SYMBOLS.width - 1) (a.fld (Reg.LANE_FEC_CORR l) Fld.LANE_FEC_CORR_SYMBOLS) corr ∧
      a.keepsRegs u [Reg.LANE_FEC_CORR l] ∧ a.keepsMem u) ∧
    (a.mayForward l = false → err % 2 ^ 15 ≠ 0 → ∃ u, exec (.laneRxWord t l x corr true data side err) s = .next u ∧ (u.laneOf l).rx = w ∧
      (u.laneOf l).next = (q + 1) % 256 ∧
      u.fld (Reg.LANE_ERR l) Fld.LANE_ERR_DECODE = satAdd (2 ^ Fld.LANE_ERR_DECODE.width - 1) (a.fld (Reg.LANE_ERR l) Fld.LANE_ERR_DECODE) 1 ∧
      u.fld (Reg.LANE_ERR l) Fld.LANE_ERR_FEC_UNC = satAdd (2 ^ Fld.LANE_ERR_FEC_UNC.width - 1) (a.fld (Reg.LANE_ERR l) Fld.LANE_ERR_FEC_UNC) 1 ∧
      u.bit (Reg.LANE_STATUS l) Fld.LANE_STATUS_FEC_UNC = true ∧
      a.keepsRegs u [Reg.LANE_FEC_CORR l, Reg.LANE_ERR l, Reg.LANE_STATUS l, Reg.LANE_INT_STATUS] ∧ a.keepsMem u) ∧
    (a.mayForward l = true → err = 0 → (a.laneOf l).fwd = [] → (a.laneOf l).subs = [] →
      ∃ u, exec (.laneRxWord t l x corr false data side err) s = .next u ∧ u.forwarding l = true ∧ (u.laneOf l).fwd = [⟨q, w, x, none⟩] ∧
        a.keepsRegs u [Reg.LANE_FEC_CORR l, Reg.LANE_STATUS l] ∧ a.keepsMem u)) ∧
  (∀ (s a : State) (t l : Nat), a = s.advance t → l < 48 → a.forwarding l = true → a.mayForward l = false → (a.laneOf l).waiting = 0 →
    (∀ e, e < 16 → a.bit (Reg.LANE_EVTOK l e) Fld.LANE_EVTOK_EN = false) → a.bit (Reg.LANE_CAP_CTL l) Fld.LANE_CAP_CTL_EN = false →
    ∃ u, exec (.forwardStop t l) s = .next u ∧ u.forwarding l = false ∧ (u.laneOf l).fwd = [] ∧ (u.laneOf (a.peerOf l)).retime = true ∧
      (u.laneOf (a.peerOf l)).out = none ∧ a.keepsRegs u [Reg.LANE_STATUS l] ∧ a.keepsMem u) ∧
  (∀ (s a : State) (t l : Nat), a = s.advance t →
    ∃ u, exec (.laneTxRetimed t l) s = .next u ∧ (u.laneOf l).retime = false ∧ a.keepsRegs u [] ∧ a.keepsMem u) ∧
  (∀ (s a : State) (t l data side : Nat), a = s.advance t → a.laneLive l = true → a.laneRegionLive l = true → a.forwarder l = none →
    ((a.laneOf l).txq.length < 8 → ∃ u, exec (.laneTxAccept t l data side) s = .next u ∧
      (u.laneOf l).txq = (a.laneOf l).txq ++ [(⟨BitVec.ofNat 128 data, BitVec.ofNat 16 side, 0⟩, a.now)] ∧ a.keepsRegs u [] ∧ a.keepsMem u) ∧
    (8 ≤ (a.laneOf l).txq.length → ∃ u, exec (.laneTxAccept t l data side) s = .next u ∧ u.lane = a.lane ∧ a.keepsRegs u [] ∧ a.keepsMem u)) ∧
  (∀ (s a : State) (t l x : Nat), a = s.advance t → a.laneQuiet l → a.laneState l = 3 → a.mode ≠ modeSecureHalt → a.mode ≠ modePaired →
    (a.laneOf l).retime = false →
    (∀ (w : LWord) (g : Nat) (rest : List (LWord × Nat)), (a.laneOf l).txq = (w, g) :: rest →
      g * unitsPerRc (a.activeProfile l) + txFixed (a.activeProfile l) ≤ x →
      ∃ u, exec (.laneTxSlot t l x false) s = .next u ∧ (u.laneOf l).out = some w ∧ (u.laneOf l).txq = rest ∧ a.keepsRegs u [] ∧ a.keepsMem u) ∧
    ((a.laneOf l).txq = [] → ∃ u, exec (.laneTxSlot t l x false) s = .next u ∧
      (u.laneOf l).out = (if a.bit (Reg.LANE_CFG l) Fld.LANE_CFG_UEIDLE then none else some (underrunWord (a.activeProfile l))) ∧
      a.keepsRegs u [] ∧ a.keepsMem u)) ∧
  (∀ (s a : State) (t l x b : Nat) (eidle : Bool) (f : FwdWord) (fs : List FwdWord), a = s.advance t → a.laneState l = 3 → a.forwarder l = some b →
    (a.laneOf b).fwd = f :: fs → x = f.u + a.fwdDelay b → a.bit (Reg.LANE_CAP_CTL l) Fld.LANE_CAP_CTL_EN = false →
    ∃ u, exec (.laneTxSlot t l x eidle) s = .next u ∧ (u.laneOf l).out = some (f.claim.getD f.word) ∧ (u.laneOf b).fwd = fs ∧
      a.keepsRegs u [] ∧ a.keepsMem u) ∧
  (∀ (s a : State) (t l b data side : Nat) (mode : Bool) (f : FwdWord), a = s.advance t → a.laneRegionLive l = true → a.forwarder l = some b →
    (a.laneOf b).fwd = [f] → f.claim = none → f.seq < 256 → a.slotAfter b f a.now = true → (a.laneOf b).waiting < 8 →
    ∃ u, exec (.substitutionAccept t l mode f.seq data side) s = .next u ∧
      (u.laneOf b).fwd = [{ f with claim := some ⟨BitVec.ofNat 128 data, BitVec.ofNat 16 side, 0⟩ }] ∧ a.keepsRegs u [] ∧ a.keepsMem u) ∧
  (∀ (s a : State) (t src l v size : Nat), Acts s t src (Reg.LANE_CAP_CTL l) a → l < 48 → a.bit (Reg.LANE_CAP_CTL l) Fld.LANE_CAP_CTL_EN = false →
    size = 4096 * 2 ^ fieldGet (BitVec.ofNat 32 v) Fld.LANE_CAP_CTL_SIZE →
    (a.reg48 (Reg.LANE_CAP_BASE_LO l) (Reg.LANE_CAP_BASE_HI l) % size = 0 → ∃ u, exec (.captureEnable t src l v) s = .next u ∧
      u.bit (Reg.LANE_CAP_CTL l) Fld.LANE_CAP_CTL_EN = true ∧ u.reg (Reg.LANE_CAP_WPTR l) = 0 ∧ (u.laneOf l).buf = [] ∧
      a.keepsRegs u [Reg.LANE_CAP_CTL l, Reg.LANE_CAP_WPTR l] ∧ a.keepsMem u) ∧
    (a.reg48 (Reg.LANE_CAP_BASE_LO l) (Reg.LANE_CAP_BASE_HI l) % size ≠ 0 → ∃ u, exec (.captureEnable t src l v) s = .next u ∧
      u.bit (Reg.LANE_CAP_CTL l) Fld.LANE_CAP_CTL_EN = false ∧ u.lane = a.lane ∧ a.keepsRegs u [Reg.LANE_CAP_CTL l] ∧ a.keepsMem u)) ∧
  (∀ (s a : State) (t l off : Nat) (r1 r2 r3 r4 : List Byte) (rest : List (List Byte)), a = s.advance t → l < 48 →
    a.bit (Reg.LANE_CAP_CTL l) Fld.LANE_CAP_CTL_EN = true → a.bit (Reg.LANE_CAP_CTL l) Fld.LANE_CAP_CTL_WRAP = false → (a.laneOf l).closed = false →
    (a.laneOf l).buf = r1 :: r2 :: r3 :: r4 :: rest → a.mode ≠ modeSecureHalt → a.portFree (a.laneRegion l) = true → off = a.fld (Reg.LANE_CAP_WPTR l) Fld.LANE_CAP_WPTR_OFFSET →
    ∃ u, exec (.captureWrite t l) s = .next u ∧ (u.laneOf l).buf = rest ∧
      (∃ q ∈ u.noc.reqs, q.kind = .write ∧ q.src = srcRegion (a.laneRegion l) ∧ q.data = r1 ++ r2 ++ r3 ++ r4 ∧ q.len = q.data.length ∧
        q.addr = a.fld Reg.DEV_BOARD Fld.DEV_BOARD_DEVNUM * 2 ^ 48 + a.reg48 (Reg.LANE_CAP_BASE_LO l) (Reg.LANE_CAP_BASE_HI l) + off) ∧
      a.keepsMem u)

/-! ### Chapter 14: the host interface -/

/-- Rests on R382, R383, R384, R385, R386, R387, R388, R389: a configuration read is answered with the dword as it reads, a write is merged by its
byte enables; a BAR0 or BAR2 read that its window refuses is completed with Unsupported Request, another goes out as a NoC read of the address that
the window names; a write goes out with its data, and one whose EP bit is set is discarded and logged; an MSI-X table word is stored. The model's own
choice in it: log entry 27. -/
def Obligations.HostTlpsReachTheDevice : Prop :=
  (∀ (s a : State) (t d : Nat), a = s.hostAdvance t → a.host.up = true →
    (∃ u, exec (.hostConfigRequest t d none) s = .next u ∧ u.host.sent = a.host.sent ++ [.cfg (a.cfgRead d)] ∧ a.keepsRegs u [] ∧ a.keepsMem u) ∧
    (∀ be v, d ≠ Config.msixDword → ∃ u, exec (.hostConfigRequest t d (some (be, v))) s = .next u ∧
      tget (fun _ => 0) u.host.cfg d = mergeDword (tget (fun _ => 0) a.host.cfg d) (BitVec.ofNat 32 v) be ∧
      (∀ e, e ≠ d → tget (fun _ => 0) u.host.cfg e = tget (fun _ => 0) a.host.cfg e) ∧ u.host.sent = a.host.sent ++ [.cfg 0] ∧
      a.keepsRegs u [] ∧ a.keepsMem u)) ∧
  (∀ (s a : State) (t tag off len : Nat), a = s.hostAdvance t → a.host.up = true →
    (bar0Bad off len = true → a.logQuiet Reg.HOST_ERR_LOG → ∃ u, exec (.bar0Read t tag off len) s = .next u ∧ u.host.sent = a.host.sent ++ [.cpl tag 0 1 [] false] ∧
      u.fld Reg.HOST_INT_STATUS Fld.HOST_INT_STATUS_CPL_ERR = 1 ∧ u.noc = a.noc ∧
      a.keepsRegs u [Reg.HOST_ERR_LOG, Reg.HOST_INT_STATUS] ∧ a.keepsMem u) ∧
    (bar0Bad off len = false → a.pcieOrder = false → a.idleNoc → ∃ u, exec (.bar0Read t tag off len) s = .next u ∧ ∃ q, u.noc.reqs = a.noc.reqs ++ [q] ∧
      q.kind = .read ∧ q.src = srcHost ∧ q.stream = 0 ∧ q.addr = a.bar0Addr off ∧ q.len = len ∧
      u.host.reads.find? (fun r => r.tag == tag) = some ⟨tag, a.bar0Addr off, 1, false, false⟩ ∧ a.keepsRegs u [] ∧ a.keepsMem u)) ∧
  (∀ (s a : State) (t off : Nat) (data : List Byte), a = s.hostAdvance t → a.host.up = true →
    (a.logQuiet Reg.HOST_ERR_LOG → ∃ u, exec (.bar0Write t off data true) s = .next u ∧ u.noc = a.noc ∧ u.host.aer = a.host.aer ||| aerPoisoned ∧
      u.bit Reg.HOST_ERR_LOG logValid = true ∧ a.keepsRegs u [Reg.HOST_ERR_LOG] ∧ a.keepsMem u) ∧
    (bar0Bad off data.length = false → a.pcieOrder = false → a.mode ≠ modeSecureHalt →
      ∃ u, exec (.bar0Write t off data false) s = .next u ∧ (∃ q ∈ u.noc.reqs, q.kind = .write ∧ q.src = srcHost ∧ q.addr = a.bar0Addr off ∧
        q.data = data) ∧ u.host.sent = a.host.sent ∧ a.keepsMem u)) ∧
  (∀ (s a : State) (t tag off len : Nat), a = s.hostAdvance t → a.host.up = true →
    (a.window off = none → ∃ u, exec (.bar2Read t tag off len) s = .next u ∧ u.host.sent = a.host.sent ++ [.cpl tag 0 1 [] false] ∧
      u.noc = a.noc ∧ u.host.aer = a.host.aer ||| aerUnsupported ∧ a.keepsRegs u [] ∧ a.keepsMem u) ∧
    (∀ st x key, a.window off = some (st, x, key) → 0 < len → x % 256 + len ≤ 256 → a.pcieOrder = false → a.idleNoc →
      ∃ u, exec (.bar2Read t tag off len) s = .next u ∧ ∃ q, u.noc.reqs = a.noc.reqs ++ [q] ∧ q.kind = .read ∧ q.src = srcHost ∧ q.stream = st ∧
        q.addr = x ∧ q.len = len ∧ q.key = key ∧ a.keepsRegs u [] ∧ a.keepsMem u)) ∧
  (∀ (s a : State) (t off : Nat) (data : List Byte), a = s.hostAdvance t → a.host.up = true →
    (a.window off = none → ∃ u, exec (.bar2Write t off data false) s = .next u ∧ u.noc = a.noc ∧ u.host.aer = a.host.aer ||| aerUnsupported ∧
      a.keepsRegs u [] ∧ a.keepsMem u) ∧
    (∀ st x, a.window off = some (st, x, none) → data ≠ [] → x % 128 + data.length ≤ 128 → a.pcieOrder = false → a.mode ≠ modeSecureHalt →
      ∃ u, exec (.bar2Write t off data false) s = .next u ∧ (∃ q ∈ u.noc.reqs, q.kind = .write ∧ q.src = srcHost ∧ q.stream = st ∧ q.addr = x ∧
        q.data = data) ∧ a.keepsMem u)) ∧
  (∀ (s a : State) (t off v : Nat), a = s.hostAdvance t → 0x1000 ≤ off → off < 0x2000 → a.host.pba = [] →
    ∃ u, exec (.bar4TableWrite t off v) s = .next u ∧ u.msixWord ((off - 0x1000) / 16) ((off - 0x1000) / 4 % 4) = BitVec.ofNat 32 v ∧
      (∀ k, k ≠ (off - 0x1000) / 4 → tget msixReset u.host.msix k = tget msixReset a.host.msix k) ∧ a.keepsRegs u [] ∧ a.keepsMem u)

/-- Rests on R381, R383, R386, R390, R391, R402, R406: a doorbell moves the tail and the next descriptor is fetched, or is refused; a completion
doorbell moves the head of the completion ring; a queue is enabled when both ring sizes are legal, drains when it is disabled, and is then DISABLED; a
window is enabled or refused by its base; the link trains, retrains and goes down; a rising interrupt line signals its vector. -/
def Obligations.HostQueuesWindowsAndLink : Prop :=
  (∀ (s a : State) (t q v n head tail : Nat), a = s.hostAdvance t → a.host.up = true → a.host.bells = [] → a.hostWritesPending a.noc.nextId = false →
    n = a.sqSize q → head = a.fld (Reg.HOST_Q_STATUS q) Fld.HOST_Q_STATUS_HEAD → tail = a.fld (Reg.HOST_Q_STATUS q) Fld.HOST_Q_STATUS_TAIL → v < 4096 →
    (a.hqState q ≠ 1 ∨ n ≤ v ∨ n - 1 < (tail + n - head) % n + (v + n - tail) % n →
      ∃ u, exec (.sqTailDoorbell t q v) s = .next u ∧ u.bit (Reg.HOST_Q_STATUS q) Fld.HOST_Q_STATUS_DB_REFUSED = true ∧
        u.fld (Reg.HOST_Q_STATUS q) Fld.HOST_Q_STATUS_TAIL = tail ∧ u.host = a.host ∧ a.keepsRegs u [Reg.HOST_Q_STATUS q] ∧ a.keepsMem u) ∧
    (a.hqState q = 1 → v < n → (tail + n - head) % n + (v + n - tail) % n ≤ n - 1 → v = (tail + 1) % n → v ≠ tail →
      (a.hostQ q).fetched = [] → (a.hostQ q).asked = [] → (a.hostQ q).next = tail →
      ∃ u, exec (.sqTailDoorbell t q v) s = .next u ∧ u.fld (Reg.HOST_Q_STATUS q) Fld.HOST_Q_STATUS_TAIL = v ∧ (u.hostQ q).asked = [tail] ∧
        u.host.sent = a.host.sent ++ [.read 0 q tail
          ((a.reg (Reg.HOST_Q_BASE_LO q)).toNat + (a.reg (Reg.HOST_Q_BASE_HI q)).toNat * 2 ^ 32 + 64 * tail) 64] ∧
        a.keepsRegs u [Reg.HOST_Q_STATUS q] ∧ a.keepsMem u) ∧
    (∃ u, exec (.cqHeadDoorbell t q v) s = .next u ∧ u.fld (Reg.HOST_CQ_STATUS q) Fld.HOST_CQ_STATUS_HEAD = v ∧ u.host = a.host ∧
      a.keepsRegs u [Reg.HOST_CQ_STATUS q] ∧ a.keepsMem u)) ∧
  (∀ (s a : State) (t q idx status : Nat) (bytes : List Byte), a = s.hostAdvance t → (a.hostQ q).asked = [idx] → a.hqState q = 1 →
    (status = 0 → (∀ y ∈ (a.hostQ q).fetched, a.ringPos q y.1 ≤ a.ringPos q idx) → ∃ u, exec (.descriptorFetchResponse t q idx status bytes) s = .next u ∧ (u.hostQ q).asked = [] ∧
      (u.hostQ q).fetched = (a.hostQ q).fetched ++ [(idx, bytes.take 64)] ∧ a.keepsRegs u [] ∧ a.keepsMem u) ∧
    (status ≠ 0 → a.logQuiet Reg.HOST_ERR_LOG → ∃ u, exec (.descriptorFetchResponse t q idx status bytes) s = .next u ∧ u.hqState q = 3 ∧
      u.fld Reg.HOST_INT_STATUS Fld.HOST_INT_STATUS_QERR = 1 ∧ (u.hostQ q).fetched = (a.hostQ q).fetched ∧
      a.keepsRegs u [Reg.HOST_Q_STATUS q, Reg.HOST_INT_STATUS, Reg.HOST_ERR_LOG] ∧ a.keepsMem u)) ∧
  (∀ (s a : State) (t src q v n m : Nat), HostActs s t src (Reg.HOST_Q_CFG q) a → a.hqState q = 0 → n = v / 2 ^ 12 % 16 →
    m = a.fld (Reg.HOST_CQ_CFG q) Fld.HOST_CQ_CFG_SIZE →
    (4 ≤ n → n ≤ 12 → 4 ≤ m → m ≤ 12 → ∃ u, exec (.hostQueueEnable t src q v) s = .next u ∧ u.hqState q = 1 ∧ u.sqSize q = 2 ^ n ∧
      u.fld (Reg.HOST_Q_STATUS q) Fld.HOST_Q_STATUS_HEAD = 0 ∧ u.fld (Reg.HOST_Q_STATUS q) Fld.HOST_Q_STATUS_TAIL = 0 ∧
      u.fld (Reg.HOST_CQ_STATUS q) Fld.HOST_CQ_STATUS_PHASE = 1 ∧ u.hostQ q = HostQ.idle ∧
      a.keepsRegs u [Reg.HOST_Q_CFG q, Reg.HOST_Q_STATUS q, Reg.HOST_CQ_STATUS q] ∧ a.keepsMem u) ∧
    (n < 4 ∨ 12 < n ∨ m < 4 ∨ 12 < m → ∃ u, exec (.hostQueueEnable t src q v) s = .next u ∧ u.hqState q = 0 ∧
      u.bit (Reg.HOST_Q_STATUS q) Fld.HOST_Q_STATUS_DB_REFUSED = true ∧ a.keepsRegs u [Reg.HOST_Q_CFG q, Reg.HOST_Q_STATUS q] ∧ a.keepsMem u)) ∧
  (∀ (s a : State) (t src q v : Nat), HostActs s t src (Reg.HOST_Q_CFG q) a → a.hqState q = 1 → (a.hostQ q).runs = [] → a.host.dma = [] →
    ∃ u, exec (.hostQueueDisable t src q v) s = .next u ∧ u.hqState q = 2 ∧ u.bit (Reg.HOST_Q_CFG q) Fld.HOST_Q_CFG_EN = false ∧
      (u.hostQ q).fetched = [] ∧ (u.hostQ q).asked = [] ∧ (u.hostQ q).owed = (a.hostQ q).owed ∧
      a.keepsRegs u [Reg.HOST_Q_CFG q, Reg.HOST_Q_STATUS q] ∧ a.keepsMem u) ∧
  (∀ (s a : State) (t q : Nat), a = s.hostAdvance t → a.hqState q = 2 → (a.hostQ q).runs = [] → (a.hostQ q).owed = [] →
    ∃ u, exec (.queueDrained t q) s = .next u ∧ u.hqState q = 0 ∧ u.hostQ q = HostQ.idle ∧
      a.keepsRegs u [Reg.HOST_Q_CFG q, Reg.HOST_Q_STATUS q] ∧ a.keepsMem u) ∧
  (∀ (s a : State) (t src k v b : Nat), b = a.fld (Reg.HOST_WIN_BASE k) Fld.HOST_WIN_BASE_BASE →
    (HostActs s t src (Reg.HOST_WIN_CTL k) a → b % 2 ^ 16 ≠ 0x00F0 → ∃ u, exec (.hostWinEnable t src k v) s = .next u ∧
      u.bit (Reg.HOST_WIN_CTL k) Fld.HOST_WIN_CTL_EN = true ∧ u.fld (Reg.HOST_WIN_CTL k) Fld.HOST_WIN_CTL_STREAM = v % 8 ∧
      a.keepsRegs u [Reg.HOST_WIN_CTL k] ∧ a.keepsMem u) ∧
    (HostActs s t src (Reg.HOST_WIN_CTL k) a → b % 2 ^ 16 = 0x00F0 → ∃ u, exec (.hostWinEnable t src k v) s = .next u ∧
      u.bit (Reg.HOST_WIN_CTL k) Fld.HOST_WIN_CTL_EN = false ∧ u.fld Reg.HOST_INT_STATUS Fld.HOST_INT_STATUS_WIN_REFUSED = 1 ∧
      a.keepsRegs u [Reg.HOST_WIN_CTL k, Reg.HOST_INT_STATUS] ∧ a.keepsMem u) ∧
    (HostActs s t src (Reg.HOST_WIN_BASE k) a → (a.bit (Reg.HOST_WIN_CTL k) Fld.HOST_WIN_CTL_EN = false ∨ v % 2 ^ 16 ≠ 0x00F0) →
      ∃ u, exec (.hostWinBaseWrite t src k v) s = .next u ∧ u.fld (Reg.HOST_WIN_BASE k) Fld.HOST_WIN_BASE_BASE = v % 2 ^ 20 ∧
        a.keepsRegs u [Reg.HOST_WIN_BASE k] ∧ a.keepsMem u)) ∧
  (∀ (s a : State) (t src v : Nat), HostActs s t src Reg.HOST_CTL a → ∃ u, exec (.hostRetrain t src v) s = .next u ∧
    u.bit Reg.HOST_LINK_STATUS Fld.HOST_LINK_STATUS_L0 = false ∧ u.fld Reg.HOST_CTL Fld.HOST_CTL_MAX_GEN = v / 2 ^ 8 % 8 ∧
    a.keepsRegs u [Reg.HOST_CTL, Reg.HOST_LINK_STATUS] ∧ a.keepsMem u) ∧
  (∀ (s a : State) (t gen width : Nat), a = s.hostAdvance t → a.pwr.perst = false → a.mode ≠ modeOff →
    ∃ u, exec (.hostLinkUp t gen width) s = .next u ∧ u.host.up = true ∧ u.bit Reg.HOST_LINK_STATUS Fld.HOST_LINK_STATUS_L0 = true ∧
      u.fld Reg.HOST_LINK_STATUS Fld.HOST_LINK_STATUS_GEN = min gen (a.fld Reg.HOST_CTL Fld.HOST_CTL_MAX_GEN) ∧
      a.keepsRegs u [Reg.HOST_LINK_STATUS] ∧ a.keepsMem u) ∧
  (∀ (s a : State) (t : Nat), a = s.hostAdvance t → (∀ q, q < 64 → a.hqState q ≠ 1) →
    ∃ u, exec (.hostLinkDown t) s = .next u ∧ u.host.up = false ∧ u.host.reads = [] ∧ u.host.bells = [] ∧
      u.bit Reg.HOST_LINK_STATUS Fld.HOST_LINK_STATUS_DOWN_SEEN = true ∧ u.fld Reg.HOST_INT_STATUS Fld.HOST_INT_STATUS_LINK = 1 ∧
      a.keepsRegs u [Reg.HOST_LINK_STATUS, Reg.HOST_INT_STATUS] ∧ a.keepsMem u) ∧
  (∀ (s a : State) (t k v : Nat), a = s.hostAdvance t → a.extLines.testBit k = true → a.host.lines.testBit k = false →
    a.bit (Reg.HOST_IRQ_MAP k) Fld.HOST_IRQ_MAP_EN = true → v = a.fld (Reg.HOST_IRQ_MAP k) Fld.HOST_IRQ_MAP_VECTOR → a.host.msixEn = true →
    a.msixMasked v = false → a.host.up = true →
    ∃ u, exec (.blockIrqEdge t k) s = .next u ∧ u.host.lines = a.host.lines ||| 2 ^ k ∧
      u.host.sent = a.host.sent ++ [.msix ((a.msixWord v 0).toNat + (a.msixWord v 1).toNat * 2 ^ 32) (a.msixWord v 2)] ∧
      a.keepsRegs u [] ∧ a.keepsMem u)

/-- Rests on R393, R394, R395, R396, R397, R398, R399, R404: the head descriptor of a queue starts. NOP owes its completion; COPY goes to the queue's
channel, which asks for the first piece of its source; REGSEQ writes its first register; TOKEN enters the queue's ingress queue; CANCEL and CREATE
reach the tally scheduler; FENCE covers every stream and holds every later request; the forerunner's NOP, COPY, REGWR and FENCE do the same. A service
turn visits the queues, and a descriptor that is no operation completes with its code. The model's own choice in it: log entry 95. -/
def Obligations.DescriptorsStart : Prop :=
  (∀ (s a : State) (t q idx : Nat) (legacy : Bool) (d : Desc), Starts s t q a legacy idx d →
    (d.op = .nop → (legacy = false → ∃ u, exec (.descNop t q) s = .next u ∧ a.owesAtOnce u q idx d 0) ∧
      (legacy = true → ∃ u, exec (.legacyNop t q) s = .next u ∧ a.owesAtOnce u q idx d 0)) ∧
    (∀ x ch, d.op = .copy x → ch = a.fld (Reg.HOST_Q_CFG q) Fld.HOST_Q_CFG_CHAN → x.q = q → x.len ≠ 0 → x.pos = 0 → x.asked = false → x.fenced = false →
      x.ended = none → x.abort = false → x.srcHost = true → (a.dma ch).run = none → (a.dma ch).wait = [] → a.host.up = true →
      (legacy = false → ∃ u, exec (.descCopy t q) s = .next u ∧ a.copyBegun u q idx ch d x) ∧
      (legacy = true → ∃ u, exec (.legacyCopy t q) s = .next u ∧ a.copyBegun u q idx ch d x)) ∧
    (∀ off v l poll, d.op = .regseq ((off, v) :: l) poll → a.mode ≠ modeSecureHalt →
      (legacy = false → ∃ u, exec (.descRegseq t q) s = .next u ∧ a.seqBegun u q off v) ∧
      (legacy = true → ∃ u, exec (.legacyRegwr t q) s = .next u ∧ a.seqBegun u q off v)) ∧
    (d.op = .fence → (legacy = false → ∃ u, exec (.descFence t q) s = .next u ∧ a.fenceBegun u q idx d) ∧
      (legacy = true → ∃ u, exec (.legacyFence t q) s = .next u ∧ a.fenceBegun u q idx d)) ∧
    (∀ h slot psn v, d.op = .token h slot psn v → legacy = false → a.queueFull (192 + q) = false → ∃ u, exec (.descToken t q) s = .next u ∧
      u.tokens (192 + q) = a.tokens (192 + q) ++ [⟨h, slot, BitVec.ofNat 64 v, psn⟩] ∧
      (u.hostQ q).owed = (a.hostQ q).owed ++ [⟨d.tag, (idx + 1) % a.sqSize q, 0, 0, 0, d.irq⟩] ∧
      a.keepsRegs u [Reg.HOST_Q_STATUS q] ∧ a.keepsMem u) ∧
    (∀ h, d.op = .cancel h → legacy = false → ∃ u, exec (.descCancel t q) s = .next u ∧
      u.sch.cancels = a.sch.cancels ++ [⟨.queue q, h % 2 ^ 28, a.secondSc⟩] ∧ (u.hostQ q).runs = [⟨idx, d.tag, d.irq, .cancel⟩] ∧
      a.keepsRegs u [] ∧ a.keepsMem u) ∧
    (∀ m, d.op = .create m → legacy = false → a.idleNoc → ∃ u, exec (.descCreate t q) s = .next u ∧ ∃ r, u.noc.reqs = a.noc.reqs ++ [r] ∧ r.kind = .read ∧
      r.src = srcSeq ∧ r.len = 8 ∧ r.addr = a.bar0Addr (createWindow m) ∧ (u.hostQ q).runs = [⟨idx, d.tag, d.irq, .create⟩] ∧
      a.keepsRegs u [] ∧ a.keepsMem u) ∧
    (∀ h, d.op = .bad h → (∀ p, p < 64 → p ≠ q → a.hostQ p = HostQ.idle) → a.host.turn < 64 → ∃ u, exec (.sequencerServiceTurn t) s = .next u ∧
      (u.hostQ q).owed = (a.hostQ q).owed ++ [⟨d.tag, (idx + 1) % a.sqSize q, h, 0, 0, d.irq⟩] ∧ (u.hostQ q).runs = [] ∧ u.host.turn = a.host.turn ∧
      (∀ p, p < 64 → p ≠ q → u.hostQ p = HostQ.idle) ∧ a.keepsRegs u [Reg.HOST_Q_STATUS q] ∧ a.keepsMem u))

/-- Rests on R388, R396, R397, R400, R401, R402: host memory's answer to a copy is written on, and a failing one ends the copy in HOST_ERR; a copy
whose fence has completed owes its completion; a poll that runs out ends in TIMEOUT; an owed entry is written at the tail of the completion ring with
the phase shown, and waits while the ring is full. -/
def Obligations.DescriptorsComplete : Prop :=
  (∀ (s a : State) (t d status : Nat) (bytes : List Byte) (c : Copy), a = s.hostAdvance t → (a.dma d).run = some c → c.asked = true → c.srcHost = true →
    c.abort = false → c.ended = none → c.fenced = false →
    (status = 0 → c.dstHost = true → bytes ≠ [] → (c.dst + c.pos) % 128 + bytes.length ≤ 128 → c.key = none → c.len = c.pos + bytes.length →
      a.host.up = true →
      ∃ u, exec (.dmaHostReadCompletion t d status bytes) s = .next u ∧ u.host.sent = a.host.sent ++ [.write (c.dst + c.pos) bytes false] ∧
        ((u.dma d).run.map (fun x => (x.pos, x.asked, x.ended, x.fenced))) = some (c.len, false, some (0, 0), true) ∧
        a.keepsRegs u [] ∧ a.keepsMem u) ∧
    (status ≠ 0 → a.logQuiet Reg.HOST_ERR_LOG → ∃ u, exec (.dmaHostReadCompletion t d status bytes) s = .next u ∧
      ((u.dma d).run.map (fun x => (x.pos, x.asked, x.ended, x.fenced))) = some (c.pos, false, some (4, 0), true) ∧
      u.host.sent = a.host.sent ∧ a.keepsRegs u [Reg.HOST_ERR_LOG] ∧ a.keepsMem u)) ∧
  (∀ (s a : State) (t d : Nat) (c : Copy), a = s.hostAdvance t → (a.dma d).run = some c → (a.dma d).wait = [] → c.closed = true → c.token = none →
    c.ended = some (0, 0) → (a.hostQ c.q).runs = [⟨c.idx, c.tag, false, .copy⟩] →
    ∃ u, exec (.copyComplete t d) s = .next u ∧ (u.dma d).run = none ∧ (u.hostQ c.q).runs = [] ∧
      (u.hostQ c.q).owed = (a.hostQ c.q).owed ++ [⟨c.tag, (c.idx + 1) % a.sqSize c.q, 0, 0, c.done, false⟩] ∧
      a.keepsRegs u [Reg.HOST_Q_STATUS c.q] ∧ a.keepsMem u) ∧
  (∀ (s a : State) (t q ms off m v w x idx tag : Nat) (irq polling : Bool), a = s.hostAdvance t →
    (a.hostQ q).runs = [⟨idx, tag, irq, .regseq [] (some (ms, off, m, v)) none w polling x⟩] → ms ≠ 0 → w + ms * 4800000 ≤ a.now →
    ∃ u, exec (.regseqPollTimeout t q) s = .next u ∧ (u.hostQ q).runs = [] ∧
      (u.hostQ q).owed = (a.hostQ q).owed ++ [⟨tag, (idx + 1) % a.sqSize q, 3, 0, x, irq⟩] ∧ a.keepsRegs u [Reg.HOST_Q_STATUS q] ∧ a.keepsMem u) ∧
  (∀ (s a : State) (t q i p n : Nat) (e : CqEntry) (rest : List CqEntry), a = s.hostAdvance t → (a.hostQ q).owed = e :: rest → a.host.up = true →
    i = a.fld (Reg.HOST_CQ_STATUS q) Fld.HOST_CQ_STATUS_TAIL → p = a.fld (Reg.HOST_CQ_STATUS q) Fld.HOST_CQ_STATUS_PHASE → n = a.cqSize q → n ≤ 4096 →
    (a.cqFull q = false → e.irq = false → a.bit (Reg.HOST_CQ_CFG q) Fld.HOST_CQ_CFG_IRQ_ALL = false →
      ∃ u, exec (.completionWrite t q) s = .next u ∧ (u.hostQ q).owed = rest ∧
        u.host.sent = a.host.sent ++ [.write
          ((a.reg (Reg.HOST_CQ_BASE_LO q)).toNat + (a.reg (Reg.HOST_CQ_BASE_HI q)).toNat * 2 ^ 32 + 16 * i) (e.bytes p) false] ∧
        u.fld (Reg.HOST_CQ_STATUS q) Fld.HOST_CQ_STATUS_TAIL = (i + 1) % n ∧
        u.fld (Reg.HOST_CQ_STATUS q) Fld.HOST_CQ_STATUS_PHASE = (if (i + 1) % n = 0 then 1 - p else p) ∧
        a.keepsRegs u [Reg.HOST_CQ_STATUS q] ∧ a.keepsMem u) ∧
    (a.cqFull q = true → ∃ u, exec (.completionWrite t q) s = .next u ∧ u.host = a.host ∧
      u.bit (Reg.HOST_CQ_STATUS q) Fld.HOST_CQ_STATUS_FULL = true ∧ a.keepsRegs u [Reg.HOST_CQ_STATUS q] ∧ a.keepsMem u))

/-! ### Chapter 15: flex pins, triggers and serial units -/

/-- Rests on R409, R415, R416, R417, R418, R419, R420: an ownership write that is allowed gives the pin its new owner and its reset settings; a
setting written by the owner is stored and drives the pad from its edge; a write by another requester, or to the odd pin of a pair, is counted and
logged and changes nothing else; a write of PIN_OUT or PIN_OE changes exactly the bits of the requester's pins. The model's own choices in it: log
entries 61, 62 and 96. -/
def Obligations.PinWritesObeyOwnership : Prop :=
  (∀ (s a : State) (t src p v : Nat), Acts s t src (Reg.PIN_OWN p) a → p < 320 →
    (a.lvds p = true → p % 2 = 1 → a.logQuiet Reg.PIN_REFLOG → ∃ u, exec (.pinOwnWrite t src p v) s = .next u ∧
      u.fld Reg.PIN_REFCNT Fld.PIN_REFCNT_COUNT = satAdd (2 ^ 32 - 1) (a.fld Reg.PIN_REFCNT Fld.PIN_REFCNT_COUNT) 1 ∧ u.pin = a.pin ∧
      a.keepsRegs u [Reg.PIN_REFCNT, Reg.PIN_REFLOG, Reg.PIN_INT_STATUS] ∧ a.keepsMem u) ∧
    (¬(a.lvds p = true ∧ p % 2 = 1) → src ≠ 0 → a.ownsPin src p = false → a.pinOwner p ≠ 0xFF → a.logQuiet Reg.PIN_REFLOG → ∃ u, exec (.pinOwnWrite t src p v) s = .next u ∧
      u.fld Reg.PIN_REFCNT Fld.PIN_REFCNT_COUNT = satAdd (2 ^ 32 - 1) (a.fld Reg.PIN_REFCNT Fld.PIN_REFCNT_COUNT) 1 ∧
      (a.fld Reg.PIN_REFLOG logValid = 0 → u.fld Reg.PIN_REFLOG Fld.PIN_REFLOG_REASON = 0 ∧ u.fld Reg.PIN_REFLOG Fld.PIN_REFLOG_INDEX = p ∧
        u.bit Reg.PIN_INT_STATUS Fld.PIN_INT_STATUS_REFUSED = true) ∧ u.pin = a.pin ∧
      a.keepsRegs u [Reg.PIN_REFCNT, Reg.PIN_REFLOG, Reg.PIN_INT_STATUS] ∧ a.keepsMem u) ∧
    (¬(a.lvds p = true ∧ p % 2 = 1) → (src = 0 ∨ a.ownsPin src p = true ∨ a.pinOwner p = 0xFF ∧ v % 256 = pinCode src) → v % 256 ≠ a.pinOwner p →
      ∃ u, exec (.pinOwnWrite t src p v) s = .next u ∧ u.pinOwner p = v % 256 ∧ u.reg (Reg.PIN_FUNC p) = funcReset ∧
        u.reg (Reg.PIN_ELEC p) = elecReset ∧ u.gpio (Reg.PIN_OUT 0) p = false ∧ u.gpio (Reg.PIN_OE 0) p = false ∧ tfind u.pin.sw p = some a.pinEdge ∧
        a.keepsRegs u [Reg.PIN_OWN p, Reg.PIN_FUNC p, Reg.PIN_ELEC p, Reg.PIN_OUT (p / 32), Reg.PIN_OE (p / 32)] ∧ a.keepsMem u)) ∧
  (∀ (s a : State) (t src p v : Nat), p < 320 → ¬(a.lvds p = true ∧ p % 2 = 1) →
    (Acts s t src (Reg.PIN_FUNC p) a → a.ownsPin src p = true → ∃ u, exec (.pinFuncWrite t src p v) s = .next u ∧
      u.reg (Reg.PIN_FUNC p) = BitVec.ofNat 32 v &&& 0xC7FF07FF ∧ tfind u.pin.sw p = some a.pinEdge ∧ u.drive p = a.drive p ∧
      a.keepsRegs u [Reg.PIN_FUNC p] ∧ a.keepsMem u) ∧
    (Acts s t src (Reg.PIN_FUNC p) a → a.ownsPin src p = false → a.logQuiet Reg.PIN_REFLOG → ∃ u, exec (.pinFuncWrite t src p v) s = .next u ∧ u.pin = a.pin ∧
      a.keepsRegs u [Reg.PIN_REFCNT, Reg.PIN_REFLOG, Reg.PIN_INT_STATUS] ∧ a.keepsMem u) ∧
    (Acts s t src (Reg.PIN_ELEC p) a → a.ownsPin src p = true → (p % 2 = 1 ∨ v / 2 ^ 30 % 4 ≠ 1 ∨
        a.pinOwner p = a.pinOwner (p + 1) ∧ (a.vio p = 3 ∨ selActive (a.fld (Reg.PIN_FUNC p) Fld.PIN_FUNC_OUT_SEL) = false)) →
      ∃ u, exec (.pinElecWrite t src p v) s = .next u ∧
      u.reg (Reg.PIN_ELEC p) = BitVec.ofNat 32 v &&& 0xE3B00000 ∧ tfind u.pin.sw p = some a.pinEdge ∧
      a.keepsRegs u [Reg.PIN_ELEC p] ∧ a.keepsMem u) ∧
    (Acts s t src (Reg.PIN_ELEC p) a → a.ownsPin src p = true → p % 2 = 0 → v / 2 ^ 30 % 4 = 1 →
      (a.pinOwner p ≠ a.pinOwner (p + 1) ∨ a.vio p ≠ 3 ∧ selActive (a.fld (Reg.PIN_FUNC p) Fld.PIN_FUNC_OUT_SEL) = true) → a.logQuiet Reg.PIN_REFLOG →
      ∃ u, exec (.pinElecWrite t src p v) s = .next u ∧ u.pin = a.pin ∧
        a.keepsRegs u [Reg.PIN_REFCNT, Reg.PIN_REFLOG, Reg.PIN_INT_STATUS] ∧ a.keepsMem u)) ∧
  (∀ (s a : State) (t p e : Nat), a = s.advance t → tfind a.pin.sw p = some e → e ≤ a.now →
    ∃ u, exec (.pinDriveSwitch t p) s = .next u ∧ u.drive p = (a.reg (Reg.PIN_FUNC p), a.reg (Reg.PIN_ELEC p)) ∧
      (∀ k, k ≠ p → u.drive k = a.drive k) ∧ tget (fun _ => 0) u.pin.at_ p = e + 6 ∧ a.keepsRegs u [] ∧ a.keepsMem u) ∧
  (∀ (s a : State) (t src q v : Nat), Acts s t src (Reg.PIN_ISEL q) a →
    (a.iselOwned src (a.reg (Reg.PIN_ISEL q)) = true → a.iselOwned src (BitVec.ofNat 32 v &&& 0xF00001FF) = true →
      ∃ u, exec (.pinIselWrite t src q v) s = .next u ∧ u.reg (Reg.PIN_ISEL q) = BitVec.ofNat 32 v &&& 0xF00001FF ∧
        tfind u.pin.isel q = some (a.reg (Reg.PIN_ISEL q), a.pinEdge) ∧ a.keepsRegs u [Reg.PIN_ISEL q] ∧ a.keepsMem u) ∧
    (a.iselOwned src (a.reg (Reg.PIN_ISEL q)) = false → a.logQuiet Reg.PIN_REFLOG → ∃ u, exec (.pinIselWrite t src q v) s = .next u ∧ u.pin = a.pin ∧
      a.keepsRegs u [Reg.PIN_REFCNT, Reg.PIN_REFLOG, Reg.PIN_INT_STATUS] ∧ a.keepsMem u)) ∧
  (∀ (s a : State) (t src w v : Nat),
    (Acts s t src (Reg.PIN_OUT w) a → ∃ u, exec (.pinOutWrite t src w v) s = .next u ∧ (∀ b, b < 32 → (u.reg (Reg.PIN_OUT w)).getLsbD b =
      if a.ownsPin src (32 * w + b) then v.testBit b else (a.reg (Reg.PIN_OUT w)).getLsbD b) ∧ a.keepsRegs u [Reg.PIN_OUT w] ∧ a.keepsMem u) ∧
    (Acts s t src (Reg.PIN_OE w) a → ∃ u, exec (.pinOeWrite t src w v) s = .next u ∧ (∀ b, b < 32 → (u.reg (Reg.PIN_OE w)).getLsbD b =
      if a.ownsPin src (32 * w + b) then v.testBit b else (a.reg (Reg.PIN_OE w)).getLsbD b) ∧ a.keepsRegs u [Reg.PIN_OE w] ∧ a.keepsMem u))

/-- Rests on R426, R427, R428, R429: an edge that the channel takes, or FIRE, queues one timestamp, with LOST where one was lost before it; a second
event in one sc sets MISSED, and one without room sets OVF; an eight-byte read of the head entry answers and removes it; an armed time raises the
output when it comes, and one that is past sets LATE; pulses that are over leave the channel. The model's own choice in it: log entry 63. -/
def Obligations.TriggerChannelsStampAndPulse : Prop :=
  (∀ (s a : State) (t c : Nat) (rising : Bool), a = s.advance t → c < 16 → a.bit (Reg.TRIG_CH_TOK c) Fld.TRIG_CH_TOK_EN = false →
    (a.fld Reg.PWR_WAKE_CFG Fld.PWR_WAKE_CFG_TRIG).testBit c = false → a.bit (Reg.TRIG_CH_CTL c) Fld.TRIG_CH_CTL_EN = true → a.epoch.isSome = true →
    (if rising then a.fld (Reg.TRIG_CH_CTL c) Fld.TRIG_CH_CTL_EDGE % 2 = 1 else 2 ≤ a.fld (Reg.TRIG_CH_CTL c) Fld.TRIG_CH_CTL_EDGE) →
    (0 < a.fld (Reg.TRIG_CH_CTL c) Fld.TRIG_CH_CTL_SRC ∨ a.inputLive (0x800 + c) = true) → a.fld (Reg.TRIG_CH_CTL c) Fld.TRIG_CH_CTL_SRC < 4 →
    a.bit (Reg.TRIG_CH_CTL c) Fld.TRIG_CH_CTL_OUT_EVT = false →
    ∃ u, exec (.triggerInputEdge t c rising) s = .next u ∧ a.stamped u c ⟨a.tallyNow, a.now % 12, rising, (a.trig c).lost⟩) ∧
  (∀ (s a : State) (t src c v : Nat), Acts s t src (Reg.TRIG_CH_CTL c) a → c < 16 → a.bit (Reg.TRIG_CH_TOK c) Fld.TRIG_CH_TOK_EN = false →
    (a.fld Reg.PWR_WAKE_CFG Fld.PWR_WAKE_CFG_TRIG).testBit c = false → v.testBit 21 = false →
    ∃ u, exec (.triggerFire t src c v) s = .next u ∧ a.stamped u c ⟨a.tallyNow, 0, false, (a.trig c).lost⟩) ∧
  (∀ (s a : State) (t id p c : Nat) (r : Request) (q : Part) (x : Stamp) (l : List Stamp), a = s.advance t → a.servable id p = some (r, q) →
    r.kind = .read → q.port = portAUX → a.isLocal q.addr = true → c < 16 → q.addr % 2 ^ 48 = ctlBase + Reg.TRIG_TS_LO c → q.len = 8 →
    (a.trig c).queue = x :: l →
    ∃ u, exec (.trigTsPop t id p) s = .next u ∧ (u.trig c).queue = l ∧
      u.answered id p ⟨0, toBytes 4 (a.readWord (Reg.TRIG_TS_LO c)).toNat ++ toBytes 4 (a.readWord (Reg.TRIG_TS_HI c)).toNat, [false], false⟩ ∧
      a.keepsRegs u [Reg.TRIG_CH_STATUS c] ∧ a.keepsMem u) ∧
  (∀ (s a : State) (t src c v time : Nat), Acts s t src (Reg.TRIG_ARM_HI c) a → c < 16 →
    time = (a.reg (Reg.TRIG_ARM_LO c)).toNat + v % 2 ^ 20 * 2 ^ 32 →
    ((time / 16 + 2 ^ 48 - a.tallyNow) % 2 ^ 48 < 2 ^ 47 - 1 → ∃ u, exec (.trigArm t src c v) s = .next u ∧
      (u.trig c).arm = some (time / 16, time % 16) ∧ u.bit (Reg.TRIG_CH_STATUS c) Fld.TRIG_CH_STATUS_ARMED = true ∧
      a.keepsRegs u [Reg.TRIG_ARM_HI c, Reg.TRIG_CH_STATUS c] ∧ a.keepsMem u) ∧
    (2 ^ 47 - 1 ≤ (time / 16 + 2 ^ 48 - a.tallyNow) % 2 ^ 48 → ∃ u, exec (.trigArm t src c v) s = .next u ∧ u.pin = a.pin ∧
      u.bit (Reg.TRIG_CH_STATUS c) Fld.TRIG_CH_STATUS_LATE = true ∧ a.keepsRegs u [Reg.TRIG_ARM_HI c, Reg.TRIG_CH_STATUS c] ∧ a.keepsMem u)) ∧
  (∀ (s a : State) (t c fine : Nat), a = s.advance t → (a.trig c).arm = some (a.tallyNow, fine) → fine ≤ a.now % 12 →
    ∃ u, exec (.armTimeReached t c) s = .next u ∧ (u.trig c).arm = none ∧ u.bit (Reg.TRIG_CH_STATUS c) Fld.TRIG_CH_STATUS_ARMED = false ∧
      (u.trig c).pulses = (a.trig c).pulses ++ [(a.now / 12 * 12 + fine, a.now / 12 * 12 + fine + a.pulseLen c)] ∧
      a.keepsRegs u [Reg.TRIG_CH_STATUS c] ∧ a.keepsMem u) ∧
  (∀ (s a : State) (t c : Nat), a = s.advance t → ∃ u, exec (.pulseEnd t c) s = .next u ∧
    (u.trig c).pulses = (a.trig c).pulses.filter (fun p => decide (a.now < p.2)) ∧ (u.trig c).queue = (a.trig c).queue ∧
    a.keepsRegs u [Reg.TRIG_CH_STATUS c] ∧ a.keepsMem u)

/-- Rests on R430: a UART queues a byte while it has room, sends the oldest one while it is enabled and its CTS permits, takes a received byte or sets
OVR, and gives the oldest received byte to a read; SPI and I2C units start one command at a time, and end it with what they received, or with a lost
arbitration. The model's own choices in it: log entries 64 and 96. -/
def Obligations.SerialUnitsSendAndReceive : Prop :=
  (∀ (s a : State) (t src n v : Nat), Acts s t src (Reg.UART_DATA n) a →
    ((a.uart n).tx.length < 16 → (a.uart n).shift.isSome = true → ∃ u, exec (.uartDataWrite t src n v) s = .next u ∧
      (u.uart n).tx = (a.uart n).tx ++ [BitVec.ofNat 8 v] ∧ (u.uart n).rx = (a.uart n).rx ∧
      u.fld (Reg.UART_STATUS n) Fld.UART_STATUS_TX_FREE = 16 - ((a.uart n).tx.length + 1) ∧ a.keepsRegs u [Reg.UART_STATUS n] ∧ a.keepsMem u) ∧
    ((a.uart n).tx = [] → (a.uart n).shift = none → a.bit (Reg.UART_CTL n) Fld.UART_CTL_EN = true → (a.uart n).cts = true →
      ∃ u, exec (.uartDataWrite t src n v) s = .next u ∧ (u.uart n).tx = [] ∧ (u.uart n).shift = some (BitVec.ofNat 8 v, a.now) ∧
        a.keepsRegs u [Reg.UART_STATUS n] ∧ a.keepsMem u) ∧
    (16 ≤ (a.uart n).tx.length → ∃ u, exec (.uartDataWrite t src n v) s = .next u ∧ u.pin = a.pin ∧ a.keepsRegs u [] ∧ a.keepsMem u)) ∧
  (∀ (s a : State) (t id p n : Nat) (r : Request) (q : Part) (b : Byte) (l : List Byte), a = s.advance t → a.servable id p = some (r, q) →
    r.kind = .read → q.port = portAUX → a.isLocal q.addr = true → n < 8 → q.addr % 2 ^ 48 = ctlBase + Reg.UART_DATA n → q.len = 4 →
    (a.uart n).rx = b :: l →
    ∃ u, exec (.uartDataRead t id p) s = .next u ∧ (u.uart n).rx = l ∧ u.answered id p ⟨0, toBytes 4 (2 ^ 31 + b.toNat), [false], false⟩ ∧
      a.keepsRegs u [Reg.UART_STATUS n] ∧ a.keepsMem u) ∧
  (∀ (s a : State) (t n b : Nat), a = s.advance t → n < 8 → a.bit (Reg.UART_CTL n) Fld.UART_CTL_EN = true →
    ((a.uart n).rx.length < 16 → ∃ u, exec (.uartRxByte t n b false false) s = .next u ∧ (u.uart n).rx = (a.uart n).rx ++ [BitVec.ofNat 8 b] ∧
      u.fld (Reg.UART_STATUS n) Fld.UART_STATUS_RX_COUNT = (a.uart n).rx.length + 1 ∧ (u.reg Reg.PIN_INT_STATUS).getLsbD (8 + n) = true ∧
      a.keepsRegs u [Reg.UART_STATUS n, Reg.PIN_INT_STATUS] ∧ a.keepsMem u) ∧
    (16 ≤ (a.uart n).rx.length → ∃ u, exec (.uartRxByte t n b false false) s = .next u ∧ u.pin = a.pin ∧
      u.bit (Reg.UART_STATUS n) Fld.UART_STATUS_OVR = true ∧ a.keepsRegs u [Reg.UART_STATUS n, Reg.PIN_INT_STATUS] ∧ a.keepsMem u)) ∧
  (∀ (s a : State) (t n e : Nat) (b c : Byte) (l : List Byte), a = s.advance t → (a.uart n).shift = some (b, e) →
    e + a.uartBits n * a.uartBit n ≤ a.now → (a.uart n).tx = c :: l → a.bit (Reg.UART_CTL n) Fld.UART_CTL_EN = true → (a.uart n).cts = true →
    ∃ u, exec (.uartTxByteDone t n) s = .next u ∧ (u.uart n).shift = some (c, a.now) ∧ (u.uart n).tx = l ∧
      a.keepsRegs u [Reg.UART_STATUS n] ∧ a.keepsMem u) ∧
  (∀ (s a : State) (t n : Nat) (c : Byte) (l : List Byte), a = s.advance t → (a.uart n).shift = none → (a.uart n).tx = c :: l →
    a.bit (Reg.UART_CTL n) Fld.UART_CTL_EN = true →
    (∃ u, exec (.uartCtsChange t n true) s = .next u ∧ (u.uart n).cts = true ∧ (u.uart n).shift = some (c, a.now) ∧ (u.uart n).tx = l ∧
      a.keepsRegs u [Reg.UART_STATUS n] ∧ a.keepsMem u) ∧
    (a.bit (Reg.UART_CTL n) Fld.UART_CTL_FLOW = true → ∃ u, exec (.uartCtsChange t n false) s = .next u ∧ (u.uart n).cts = false ∧
      (u.uart n).shift = none ∧ (u.uart n).tx = c :: l ∧ a.keepsRegs u [Reg.UART_STATUS n] ∧ a.keepsMem u)) ∧
  (∀ (s a : State) (t src n v : Nat), Acts s t src (Reg.SPI_DATA n) a →
    (a.bit (Reg.SPI_STATUS n) Fld.SPI_STATUS_BUSY = false → a.bit (Reg.SPI_CTL n) Fld.SPI_CTL_EN = true →
      ∃ u, exec (.spiDataWrite t src n v) s = .next u ∧ tfind u.pin.spi n = some (a.now, v % 2 ^ 32) ∧
        u.bit (Reg.SPI_STATUS n) Fld.SPI_STATUS_BUSY = true ∧ a.keepsRegs u [Reg.SPI_STATUS n] ∧ a.keepsMem u) ∧
    (a.bit (Reg.SPI_STATUS n) Fld.SPI_STATUS_BUSY = true → ∃ u, exec (.spiDataWrite t src n v) s = .next u ∧ u.pin = a.pin ∧
      a.keepsRegs u [] ∧ a.keepsMem u)) ∧
  (∀ (s a : State) (t n rx e v : Nat), a = s.advance t → tfind a.pin.spi n = some (e, v) →
    e + a.spiLen n * 2 * (a.fld (Reg.SPI_CTL n) Fld.SPI_CTL_DIV + 1) * 12 ≤ a.now → n < 8 →
    ∃ u, exec (.spiTransferEnd t n rx) s = .next u ∧ u.reg (Reg.SPI_DATA n) = BitVec.ofNat 32 (rx % 2 ^ a.spiLen n) ∧
      u.bit (Reg.SPI_STATUS n) Fld.SPI_STATUS_BUSY = false ∧ (u.reg Reg.PIN_INT_STATUS).getLsbD (16 + n) = true ∧
      a.keepsRegs u [Reg.SPI_STATUS n, Reg.SPI_DATA n, Reg.PIN_INT_STATUS] ∧ a.keepsMem u) ∧
  (∀ (s a : State) (t src n v : Nat), Acts s t src (Reg.I2C_CMD n) a → a.bit (Reg.I2C_STATUS n) Fld.I2C_STATUS_BUSY = false →
    a.bit (Reg.I2C_CTL n) Fld.I2C_CTL_EN = true → ∃ u, exec (.i2cCmd t src n v) s = .next u ∧ tfind u.pin.i2c n = some (a.now, v % 2 ^ 13) ∧
      u.bit (Reg.I2C_STATUS n) Fld.I2C_STATUS_BUSY = true ∧ a.keepsRegs u [Reg.I2C_STATUS n] ∧ a.keepsMem u) ∧
  (∀ (s a : State) (t n e v rdata : Nat) (ack : Bool), a = s.advance t → tfind a.pin.i2c n = some (e, v) → n < 8 →
    (∃ u, exec (.i2cCommandEnd t n true ack rdata) s = .next u ∧ u.bit (Reg.I2C_STATUS n) Fld.I2C_STATUS_BUSY = false ∧
      u.bit (Reg.I2C_STATUS n) Fld.I2C_STATUS_ARB_LOST = true ∧ (u.reg Reg.PIN_INT_STATUS).getLsbD (24 + n) = true ∧
      a.keepsRegs u [Reg.I2C_STATUS n, Reg.PIN_INT_STATUS] ∧ a.keepsMem u) ∧
    (e + 36 * (a.fld (Reg.I2C_CTL n) Fld.I2C_CTL_DIV + 1) * 12 ≤ a.now →
    (v.testBit 8 = true → ∃ u, exec (.i2cCommandEnd t n false ack rdata) s = .next u ∧ u.bit (Reg.I2C_STATUS n) Fld.I2C_STATUS_BUSY = false ∧
      u.bit (Reg.I2C_STATUS n) Fld.I2C_STATUS_ACKED = ack ∧ (u.reg Reg.PIN_INT_STATUS).getLsbD (24 + n) = true ∧
      a.keepsRegs u [Reg.I2C_STATUS n, Reg.PIN_INT_STATUS] ∧ a.keepsMem u) ∧
    (v.testBit 8 = false → v.testBit 9 = true → ∃ u, exec (.i2cCommandEnd t n false ack rdata) s = .next u ∧
      u.bit (Reg.I2C_STATUS n) Fld.I2C_STATUS_BUSY = false ∧ u.fld (Reg.I2C_STATUS n) Fld.I2C_STATUS_RDATA = rdata % 256 ∧
      a.keepsRegs u [Reg.I2C_STATUS n, Reg.PIN_INT_STATUS] ∧ a.keepsMem u)))

/-! ### Chapter 16: clocks -/

/-- States R443 whole, and rests on R433, R436, R437, R438, R439, R440, R441, R442: a trip makes the root coast and logs the source; a fallback, an
automatic return and a software request start a switch, and a request that may not start one is refused by its code; a switch ends with the new source
locked, or FAILED; holdover ends; a source becomes ready or is lost; the internal oscillator is not disabled while it is needed. The model's own
choices in it: log entries 35, 50 and 97. -/
def Obligations.ClocksTripFallBackAndSwitch : Prop :=
  (∀ (s a : State) (t cause k : Nat), a = s.advance t → a.mayTrip cause = true → k = a.clkInForce → a.logQuiet Reg.CLK_TRIP_LOG →
    ∃ u, exec (.clockTrip t cause) s = .next u ∧ u.bit Reg.CLK_STATUS Fld.CLK_STATUS_COAST = true ∧ u.rootLocked = false ∧
      u.bit Reg.CLK_STATUS Fld.CLK_STATUS_LANE_HOLD = true ∧ u.bit Reg.CLK_INT_STATUS Fld.CLK_INT_STATUS_TRIP = true ∧ u.clk.tripped = k ∧
      u.clk.fb = a.bit Reg.CLK_CTL Fld.CLK_CTL_AUTO_FALLBACK ∧ u.clkInForce = k ∧
      (a.fld Reg.CLK_TRIP_LOG logValid = 0 → u.fld Reg.CLK_TRIP_LOG Fld.CLK_TRIP_LOG_SRC = k ∧ u.fld Reg.CLK_TRIP_LOG Fld.CLK_TRIP_LOG_CAUSE = cause % 2) ∧
      a.keepsRegs u [Reg.CLK_TRIP_LOG, Reg.CLK_INT_STATUS, Reg.CLK_STATUS, Reg.CLK_CTL] ∧ a.keepsMem u) ∧
  (∀ (s a : State) (t k : Nat), a = s.advance t → a.autoSwitch = true →
    (a.clk.fb = true → a.fallbackSource = some k → k < 3 → ∃ u, exec (.fallbackStart t) s = .next u ∧ u.clk.switch = some ⟨k, 1, a.scNow⟩ ∧
      u.clk.fb = false ∧ u.bit Reg.CLK_STATUS Fld.CLK_STATUS_SWITCHING = true ∧ u.fld Reg.CLK_SRC_RESULT Fld.CLK_SRC_RESULT_TARGET = k ∧
      a.keepsRegs u [Reg.CLK_STATUS, Reg.CLK_SRC_RESULT] ∧ a.keepsMem u) ∧
    (a.bit Reg.CLK_CTL Fld.CLK_CTL_AUTO_RETURN = true → k = a.clkPref → a.clkInForce ≠ k → a.rootLocked = true →
      (∃ e, tfind a.clk.since k = some e ∧ e + 48000000 ≤ a.now) → ∃ u, exec (.autoReturn t) s = .next u ∧ u.clk.switch = some ⟨k, 2, a.scNow⟩ ∧
      u.bit Reg.CLK_STATUS Fld.CLK_STATUS_SWITCHING = true ∧ a.keepsRegs u [Reg.CLK_STATUS, Reg.CLK_SRC_RESULT] ∧ a.keepsMem u)) ∧
  (∀ (s a : State) (t k : Nat), a = s.advance t → k < 3 →
    (a.srcReady k = false → (k ≠ 2 ∨ a.bit Reg.CLK_CTL Fld.CLK_CTL_INT_EN = true) → ∃ u, exec (.referenceReady t k) s = .next u ∧
      u.srcReady k = true ∧ tfind u.clk.since k = some a.now ∧ a.keepsRegs u [Reg.CLK_STATUS] ∧ a.keepsMem u) ∧
    (∃ u, exec (.referenceReadyLoss t k) s = .next u ∧ u.srcReady k = false ∧ tfind u.clk.since k = none ∧ a.keepsRegs u [Reg.CLK_STATUS] ∧
      a.keepsMem u)) ∧
  (∀ (s a : State) (t src sel : Nat), Acts s t src Reg.CLK_SRC_CTL a →
    (∀ o, (sel % 4 = 3 ∧ o = 5) ∨ (sel % 4 ≠ 3 ∧ a.clk.switch.isSome = true ∧ o = 2) ∨
        (sel % 4 ≠ 3 ∧ a.clk.switch = none ∧ a.clkInForce = sel % 4 ∧ a.rootLocked = true ∧ o = 3) ∨
        (sel % 4 ≠ 3 ∧ a.clk.switch = none ∧ (a.clkInForce ≠ sel % 4 ∨ a.rootLocked = false) ∧ a.srcReady (sel % 4) = false ∧ o = 1) →
      ∃ u, exec (.clkSrcGo t src sel) s = .next u ∧ u.fld Reg.CLK_SRC_RESULT Fld.CLK_SRC_RESULT_OUTCOME = o ∧
        u.bit Reg.CLK_SRC_RESULT Fld.CLK_SRC_RESULT_DONE = true ∧ u.clk.switch = a.clk.switch ∧
        a.keepsRegs u [Reg.CLK_SRC_RESULT] ∧ a.keepsMem u) ∧
    (sel % 4 ≠ 3 → a.clk.switch = none → (a.clkInForce ≠ sel % 4 ∨ a.rootLocked = false) → a.srcReady (sel % 4) = true → ∃ u, exec (.clkSrcGo t src sel) s = .next u ∧
      u.clk.switch = some ⟨sel % 4, 0, a.scNow⟩ ∧ u.bit Reg.CLK_STATUS Fld.CLK_STATUS_SWITCHING = true ∧
      a.keepsRegs u [Reg.CLK_SRC_CTL, Reg.CLK_SRC_RESULT, Reg.CLK_STATUS] ∧ a.keepsMem u)) ∧
  (∀ (s a : State) (t cause : Nat) (x : ClkSwitch), a = s.advance t → a.clk.switch = some x → x.target < 3 →
    (∃ u, exec (.sourceSwitchLock t true cause) s = .next u ∧ u.clkInForce = x.target ∧ u.rootLocked = true ∧
      u.bit Reg.CLK_STATUS Fld.CLK_STATUS_COAST = false ∧ u.bit Reg.CLK_STATUS Fld.CLK_STATUS_SWITCHING = false ∧ u.clk.switch = none ∧
      u.bit Reg.CLK_SRC_RESULT Fld.CLK_SRC_RESULT_DONE = true ∧ u.clk.holdEnd = (if x.target ≤ 1 then some (a.now + 96000) else none) ∧
      a.keepsRegs u [Reg.CLK_STATUS, Reg.CLK_SRC_RESULT, Reg.CLK_INT_STATUS] ∧ a.keepsMem u) ∧
    (∃ u, exec (.sourceSwitchLock t false cause) s = .next u ∧ u.clkInForce = x.target ∧ u.rootLocked = false ∧ u.clk.switch = none ∧
      u.fld Reg.CLK_SRC_RESULT Fld.CLK_SRC_RESULT_OUTCOME = 4 ∧ u.clk.tripped = x.target ∧ a.keepsMem u)) ∧
  (∀ (s a : State) (t e : Nat), a = s.advance t → a.clk.holdEnd = some e → e ≤ a.now → ∃ u, exec (.laneHoldoverEnd t) s = .next u ∧
    u.bit Reg.CLK_STATUS Fld.CLK_STATUS_LANE_HOLD = false ∧ u.clk.holdEnd = none ∧ a.keepsRegs u [Reg.CLK_STATUS] ∧ a.keepsMem u) ∧
  (∀ (s a : State) (t src v : Nat), Acts s t src Reg.CLK_CTL a →
    (v.testBit 2 = true → ∃ u, exec (.intEnWrite t src v) s = .next u ∧ u.bit Reg.CLK_CTL Fld.CLK_CTL_INT_EN = true ∧
      u.fld Reg.CLK_CTL Fld.CLK_CTL_PREF = v / 2 ^ 6 % 4 ∧ u.bit Reg.CLK_CTL Fld.CLK_CTL_AUTO_FALLBACK = v.testBit 0 ∧
      a.keepsRegs u [Reg.CLK_CTL] ∧ a.keepsMem u) ∧
    (v.testBit 2 = false → (a.clkInForce = 2 ∨ (∃ x, a.clk.switch = some x ∧ x.target = 2) ∨ a.clk.fb = true) → ∃ u, exec (.intEnWrite t src v) s = .next u ∧
      u.bit Reg.CLK_CTL Fld.CLK_CTL_INT_EN = a.bit Reg.CLK_CTL Fld.CLK_CTL_INT_EN ∧ u.bit Reg.CLK_INT_STATUS Fld.CLK_INT_STATUS_INT_REFUSED = true ∧
      a.keepsRegs u [Reg.CLK_CTL, Reg.CLK_INT_STATUS] ∧ a.keepsMem u) ∧
    (v.testBit 2 = false → a.clkInForce ≠ 2 → (∀ x, a.clk.switch = some x → x.target ≠ 2) → a.clk.fb = false →
      ∃ u, exec (.intEnWrite t src v) s = .next u ∧ u.bit Reg.CLK_CTL Fld.CLK_CTL_INT_EN = false ∧ u.srcReady 2 = false ∧
        a.keepsRegs u [Reg.CLK_CTL, Reg.CLK_STATUS] ∧ a.keepsMem u))

/-- Rests on R444, R445, R446, R447: the root's own gate is never closed, and a block that is busy is refused; another waits until it is seen idle and
is then gated with the wait shown; without FORCE a wait that runs out ends with the block RUNNING, with FORCE it is gated all the same; a gate that is
opened runs. The model's own choice in it: log entry 50. -/
def Obligations.GatesCloseWhenIdleAndOpen : Prop :=
  (∀ (s a : State) (t src g : Nat) (force : Bool), Acts s t src (Reg.CLK_GATE_CTL g) a → g < 84 → a.gateState g = 0 →
    (g = 0 ∨ g ≠ 0 ∧ a.gateBusy g = true → ∃ u, exec (.clkGateRequest t src g force) s = .next u ∧ u.gateState g = 0 ∧
      u.fld (Reg.CLK_GATE_STATUS g) Fld.CLK_GATE_STATUS_OUTCOME = (if g = 0 then 5 else 4) ∧
      u.bit Reg.CLK_INT_STATUS Fld.CLK_INT_STATUS_GATE = true ∧ u.clk = a.clk ∧
      a.keepsRegs u [Reg.CLK_GATE_STATUS g, Reg.CLK_INT_STATUS] ∧ a.keepsMem u) ∧
    (g ≠ 0 → a.gateBusy g = false → ∃ u, exec (.clkGateRequest t src g force) s = .next u ∧ u.gateState g = 1 ∧
      u.bit (Reg.CLK_GATE_CTL g) Fld.CLK_GATE_CTL_GATE = true ∧ tfind u.clk.gateAt g = some (a.scNow, force) ∧
      a.keepsRegs u [Reg.CLK_GATE_CTL g, Reg.CLK_GATE_STATUS g] ∧ a.keepsMem u)) ∧
  (∀ (s a : State) (t g e : Nat) (force : Bool), a = s.advance t → tfind a.clk.gateAt g = some (e, force) →
    (a.gateIdle g = true → e < a.scNow → a.scNow ≤ e + 256 → ∃ u, exec (.gateIdle t g) s = .next u ∧ u.gateState g = 2 ∧
      u.fld (Reg.CLK_GATE_STATUS g) Fld.CLK_GATE_STATUS_WAITED = a.scNow - e ∧ u.fld (Reg.CLK_GATE_STATUS g) Fld.CLK_GATE_STATUS_OUTCOME = 0 ∧
      tfind u.clk.gateAt g = none ∧ a.keepsRegs u [Reg.CLK_GATE_STATUS g, Reg.CLK_INT_STATUS] ∧ a.keepsMem u) ∧
    (a.gateIdle g = false → e + 256 ≤ a.scNow → force = false → ∃ u, exec (.gateTimeout t g) s = .next u ∧ u.gateState g = 0 ∧
      u.fld (Reg.CLK_GATE_STATUS g) Fld.CLK_GATE_STATUS_OUTCOME = 1 ∧ tfind u.clk.gateAt g = none ∧
      a.keepsRegs u [Reg.CLK_GATE_STATUS g, Reg.CLK_INT_STATUS] ∧ a.keepsMem u) ∧
    (a.gateIdle g = false → e + 256 ≤ a.scNow → force = true → ∃ u, exec (.gateTimeout t g) s = .next u ∧ u.gateState g = 2 ∧
      u.fld (Reg.CLK_GATE_STATUS g) Fld.CLK_GATE_STATUS_OUTCOME = 2 ∧ g ∈ u.clk.forced ∧
      a.keepsRegs u [Reg.CLK_GATE_STATUS g, Reg.CLK_INT_STATUS] ∧ a.keepsMem u)) ∧
  (∀ (s a : State) (t src g : Nat) (force : Bool), Acts s t src (Reg.CLK_GATE_CTL g) a →
    (a.gateState g = 1 → ∃ u, exec (.clkUngate t src g force) s = .next u ∧ u.gateState g = 0 ∧ tfind u.clk.gateAt g = none ∧
      u.fld (Reg.CLK_GATE_STATUS g) Fld.CLK_GATE_STATUS_OUTCOME = 3 ∧ u.bit (Reg.CLK_GATE_CTL g) Fld.CLK_GATE_CTL_GATE = false ∧
      a.keepsRegs u [Reg.CLK_GATE_CTL g, Reg.CLK_GATE_STATUS g, Reg.CLK_INT_STATUS] ∧ a.keepsMem u) ∧
    (a.gateState g = 2 → a.clk.forced = [] → a.noc.inbox = [] → ∃ u, exec (.clkUngate t src g force) s = .next u ∧ u.gateState g = 0 ∧
      u.fld (Reg.CLK_GATE_STATUS g) Fld.CLK_GATE_STATUS_OUTCOME = 6 ∧ u.bit (Reg.CLK_GATE_CTL g) Fld.CLK_GATE_CTL_GATE = false ∧
      a.keepsRegs u [Reg.CLK_GATE_CTL g, Reg.CLK_GATE_STATUS g, Reg.CLK_INT_STATUS] ∧ a.keepsMem u))

/-! ### Chapter 17: power, resets and modes -/

/-- Rests on R449, R452, R453, R456, R457, R458: a power-down of an ON domain starts with FENCING and is refused for the root's domain, in a fixed
mode and while the domain wakes, and does nothing to a domain that powers down or is OFF; FENCING, DRAINING and OFF follow at an sc edge after the one that saw
their condition hold; a power-up of an OFF domain ramps it, and
one that comes while it powers down is remembered; at the end of its ramp the domain is ON. The model's own choices in it: log entries 51, 52 and 58.
-/
def Obligations.DomainsPowerDownAndUp : Prop :=
  (∀ (s a : State) (t src d v : Nat), Acts s t src (Reg.PWR_DOM_CTL d) a → d < 212 →
    (192 ≤ d → a.domState d = 2 → a.fixedMode = false → ∃ u, exec (.pwrDomOffWrite t src d v) s = .next u ∧ u.domState d = 3 ∧
      tfind u.pwr.down d = some (a.scEdge, none) ∧ u.bit (Reg.PWR_DOM_CTL d) Fld.PWR_DOM_CTL_ON = false ∧
      u.fld (Reg.PWR_DOM_STATUS d) Fld.PWR_DOM_STATUS_OUTCOME = 0 ∧ a.keepsRegs u [Reg.PWR_DOM_CTL d, Reg.PWR_DOM_STATUS d] ∧ a.keepsMem u) ∧
    (128 < d → d < 192 → a.domState d = 2 → a.fixedMode = false → ∃ u, exec (.pwrDomOffWrite t src d v) s = .next u ∧ u.domState d = 3 ∧
      tfind u.pwr.down d = some (a.scEdge, none) ∧ (match (u.engine (d - 128)).busy with | .wait _ _ _ _ _ => false | _ => true) = true ∧
      a.keepsRegs u [Reg.PWR_DOM_CTL d, Reg.PWR_DOM_STATUS d, Reg.ENG_STATUS (d - 128)] ∧ a.keepsMem u) ∧
    (d < 128 → a.domState d = 2 → a.fixedMode = false → a.running d = false → (a.region d).cyc = none → (a.region d).reqs = [] →
      ∃ u, exec (.pwrDomOffWrite t src d v) s = .next u ∧ u.domState d = 3 ∧ tfind u.pwr.down d = some (a.scEdge, none) ∧
        a.keepsRegs u [Reg.PWR_DOM_CTL d, Reg.PWR_DOM_STATUS d] ∧ a.keepsMem u) ∧
    (a.domState d = 0 ∨ a.domState d = 3 ∨ a.domState d = 4 → ∃ u, exec (.pwrDomOffWrite t src d v) s = .next u ∧ u.domState d = a.domState d ∧
      u.bit (Reg.PWR_DOM_CTL d) Fld.PWR_DOM_CTL_ON = a.bit (Reg.PWR_DOM_CTL d) Fld.PWR_DOM_CTL_ON ∧ u.pwr = a.pwr ∧
      a.keepsRegs u [Reg.PWR_DOM_CTL d] ∧ a.keepsMem u) ∧
    (∀ o, (d = 128 ∧ a.domState d = 2 ∧ o = 1) ∨ (d ≠ 128 ∧ a.domState d = 2 ∧ a.fixedMode = true ∧ o = 2) ∨
        (d ≠ 128 ∧ a.domState d = 1 ∧ a.fixedMode = false ∧ o = 3) → ∃ u, exec (.pwrDomOffWrite t src d v) s = .next u ∧
      u.fld (Reg.PWR_DOM_STATUS d) Fld.PWR_DOM_STATUS_OUTCOME = o ∧ u.domState d = a.domState d ∧ u.pwr = a.pwr ∧
      a.keepsRegs u [Reg.PWR_DOM_STATUS d] ∧ a.keepsMem u) ∧
    (a.domState d = 0 → a.pwr.ramps.length < 16 → ∃ u, exec (.pwrDomOnWrite t src d v) s = .next u ∧ u.domState d = 1 ∧
      u.pwr.ramps = a.pwr.ramps ++ [(d, a.now + 24000)] ∧ u.bit (Reg.PWR_DOM_CTL d) Fld.PWR_DOM_CTL_ON = true ∧
      a.keepsRegs u [Reg.PWR_DOM_CTL d, Reg.PWR_DOM_STATUS d] ∧ a.keepsMem u) ∧
    (a.domState d = 0 → 16 ≤ a.pwr.ramps.length → ∃ u, exec (.pwrDomOnWrite t src d v) s = .next u ∧ u.domState d = 1 ∧
      u.pwr.queue = a.pwr.queue ++ [d] ∧ u.pwr.ramps = a.pwr.ramps ∧ a.keepsRegs u [Reg.PWR_DOM_CTL d, Reg.PWR_DOM_STATUS d] ∧ a.keepsMem u) ∧
    (a.domState d = 3 ∨ a.domState d = 4 → ∃ u, exec (.pwrDomOnWrite t src d v) s = .next u ∧ u.domState d = a.domState d ∧
      u.bit (Reg.PWR_DOM_STATUS d) Fld.PWR_DOM_STATUS_WAKE_PENDING = true ∧ u.pwr = a.pwr ∧
      a.keepsRegs u [Reg.PWR_DOM_CTL d, Reg.PWR_DOM_STATUS d] ∧ a.keepsMem u)) ∧
  (∀ (s a : State) (t d p : Nat), a = s.advance t → tfind a.pwr.down d = some (p, none) → a.domState d = 3 → a.domReady d = true →
    ∃ u, exec (.domainDraining t d) s = .next u ∧ u.domState d = 4 ∧ tfind u.pwr.down d = some (p, some a.scEdge) ∧
      a.keepsRegs u [Reg.PWR_DOM_STATUS d] ∧ a.keepsMem u) ∧
  (∀ (s a : State) (t d p e : Nat), a = s.boardAdvance t → 204 ≤ d → d < 208 → tfind a.pwr.down d = some (p, some e) → a.domState d = 4 →
    a.domReady d = true → a.bit (Reg.PWR_DOM_STATUS d) Fld.PWR_DOM_STATUS_WAKE_PENDING = false →
    ∃ u, exec (.domainOff t d) s = .next u ∧ u.domState d = 0 ∧ tfind u.pwr.down d = none ∧
      u.bit Reg.PWR_INT_STATUS Fld.PWR_INT_STATUS_DOMAIN = true ∧ a.keepsRegs u [Reg.PWR_DOM_STATUS d, Reg.PWR_INT_STATUS] ∧ a.keepsMem u) ∧
  (∀ (s a : State) (t d e : Nat), a = s.boardAdvance t → 204 ≤ d → d < 208 → a.pwr.ramps = [(d, e)] → e ≤ a.now → a.pwr.queue = [] → a.heldFor d = [] →
    a.mode ≠ modeStandby →
    ∃ u, exec (.domainOn t d) s = .next u ∧ u.domState d = 2 ∧ u.pwr.ramps = [] ∧ u.bit Reg.PWR_INT_STATUS Fld.PWR_INT_STATUS_DOMAIN = true ∧
      a.keepsRegs u [Reg.PWR_DOM_STATUS d, Reg.PWR_INT_STATUS] ∧ a.keepsMem u)

/-- Rests on R459, R461, R462, R463, R464, R465, R466: a power-on reset and a base-die reset restart from the reset state but for what they keep; a
requester that may not reset is refused; a warm reset frees every tally and is refused in STANDBY and SECURE HALT; it is released after 64 sc; a cache
die's reset loses the lines of its ways, and is released after 16 sc; a rod part is reset and released; PERST resets the host controller, or the
device. The model's own choices in it: log entries 53 to 57. -/
def Obligations.ResetsAssertAndRelease : Prop :=
  (∀ (s a : State) (t : Nat), a = s.advance t → ∃ u, exec (.powerOnReset t) s = .next u ∧ u.fuse = a.fuse ∧ u.now = a.now ∧ u.pending = a.pending ∧
    u.cfg.image = a.cfg.image ∧ u.stk.ring = a.stk.ring ∧ u.scr = State.reset.scr ∧ u.sch = State.reset.sch ∧
    (∀ o, o ≠ Reg.DEV_STATUS → u.reg o = State.reset.reg o) ∧
    (u.mode = if a.pwr.good && !a.pwr.tripped && !a.pwr.therm then modePowerUp else modeOff)) ∧
  (∀ (s a : State) (t src v : Nat), a = (s.advance t).takeControl src Reg.RST_CTL → (s.advance t).ctlBlocked src Reg.RST_CTL = false →
    (mayReset src = true → a.mode = modeSecureHalt → src ≠ 0 → ∃ u, exec (.deviceReset t src v) s = .next u ∧
      u.fld Reg.RST_CAUSE Fld.RST_CAUSE_LAST = 2 ∧
      u.bit Reg.RST_CAUSE Fld.RST_CAUSE_RETAINED = a.bit Reg.RST_CTL Fld.RST_CTL_RETAIN ∧
      (∀ o, o ≠ Reg.RST_CAUSE → u.reg o = State.reset.reg o) ∧ u.sch = State.reset.sch ∧ u.scr = State.reset.scr) ∧
    (mayReset src = true → (a.mode ≠ modeSecureHalt ∨ src = 0) → v.testBit 1 = false → ∃ u, exec (.deviceReset t src v) s = .next u ∧
      u.fld Reg.RST_CAUSE Fld.RST_CAUSE_LAST = 2 ∧ u.bit Reg.RST_CAUSE Fld.RST_CAUSE_RETAINED = false ∧
      (∀ o, o ≠ Reg.RST_CAUSE → u.reg o = State.reset.reg o) ∧ u.cache = State.reset.cache ∧ u.sch = State.reset.sch ∧ u.scr = State.reset.scr ∧
      u.cfg.image = a.cfg.image ∧ u.fuse = a.fuse) ∧
    (mayReset src = true → (a.mode ≠ modeSecureHalt ∨ src = 0) → v.testBit 1 = true → ∃ u, exec (.deviceReset t src v) s = .next u ∧
      u.bit Reg.RST_CAUSE Fld.RST_CAUSE_RETAINED = true ∧ u.cache.tags = [] ∧
      (∀ l k, k < 32 → retainedLine l = true → u.cacheWord l k = a.cacheWord l k)) ∧
    (mayReset src = false → a.mode ≠ modeSecureHalt → ∃ u, exec (.deviceReset t src v) s = .next u ∧
      u.bit Reg.RST_STATUS Fld.RST_STATUS_REFUSED = true ∧ a.keepsRegs u [Reg.RST_STATUS] ∧ a.keepsMem u)) ∧
  (∀ (s a : State) (t src v : Nat), a = (s.boardAdvance t).takeControl src Reg.RST_CTL → (s.boardAdvance t).ctlBlocked src Reg.RST_CTL = false → mayReset src = true →
    (a.mode ≠ modeStandby → a.mode ≠ modeSecureHalt → a.pwr.warmAt = none → ∃ u, exec (.warmReset t src v) s = .next u ∧
      (∀ i, (u.trec i).state = 0) ∧ u.sch.jobs = [] ∧ u.sch.pend = [] ∧ u.fuse = a.fuse) ∧
    (a.mode = modeStandby ∨ a.mode ≠ modeSecureHalt ∧ a.pwr.warmAt.isSome = true → ∃ u, exec (.warmReset t src v) s = .next u ∧
      u.bit Reg.RST_STATUS Fld.RST_STATUS_REFUSED = true ∧ u.sch = a.sch ∧ u.pwr = a.pwr ∧
      a.keepsRegs u [Reg.RST_CTL, Reg.RST_STATUS] ∧ a.keepsMem u)) ∧
  (∀ (s a : State) (t e : Nat), a = s.advance t → a.pwr.warmAt = some e → e + 768 ≤ a.now → ∃ u, exec (.warmResetRelease t) s = .next u ∧
    u.pwr.warmAt = none ∧ u.bit Reg.RST_STATUS Fld.RST_STATUS_WARM_BUSY = false ∧ a.keepsMem u) ∧
  (∀ (s a : State) (t src k : Nat), Acts s t src (Reg.RST_DIE k) a → 4 ≤ k → k < 7 →
    (mayReset src = true → a.mode = modeService → a.bit (Reg.RST_DIE k) Fld.RST_DIE_ACTIVE = false → ∃ u, exec (.dieResetAssert t src k) s = .next u ∧
      u.bit (Reg.RST_DIE k) Fld.RST_DIE_ACTIVE = true ∧ u.bit (Reg.RST_DIE k) Fld.RST_DIE_HOLD = true ∧
      u.fld (Reg.RST_DIE k) Fld.RST_DIE_OUTCOME = 0 ∧ tfind u.pwr.rstAt k = some a.scEdge ∧
      (∀ l i, i < 32 → u.cacheWord l i = if lineWay l / 4 = k - 4 then 0 else a.cacheWord l i) ∧ u.sch = a.sch ∧ u.scr = a.scr ∧
      a.keepsRegs u [Reg.RST_DIE k, Reg.CFG_STORE_GOLDEN]) ∧
    (mayReset src = false → ∃ u, exec (.dieResetAssert t src k) s = .next u ∧ u.bit Reg.RST_STATUS Fld.RST_STATUS_REFUSED = true ∧
      a.keepsRegs u [Reg.RST_STATUS] ∧ a.keepsMem u) ∧
    (mayReset src = true → a.fixedMode = true → ∃ u, exec (.dieResetAssert t src k) s = .next u ∧
      u.fld (Reg.RST_DIE k) Fld.RST_DIE_OUTCOME = 1 ∧ a.keepsRegs u [Reg.RST_DIE k] ∧ a.keepsMem u)) ∧
  (∀ (s a : State) (t k e : Nat), a = s.advance t → 4 ≤ k → k < 8 → a.bit (Reg.RST_DIE k) Fld.RST_DIE_ACTIVE = true →
    a.bit (Reg.RST_DIE k) Fld.RST_DIE_HOLD = false → tfind a.pwr.rstAt k = some e → e + 192 ≤ a.now → ∃ u, exec (.dieResetRelease t k none) s = .next u ∧
      u.bit (Reg.RST_DIE k) Fld.RST_DIE_ACTIVE = false ∧ tfind u.pwr.refill k = some (a.now + 2097152) ∧
      a.keepsRegs u [Reg.RST_DIE k] ∧ a.keepsMem u) ∧
  (∀ (s a : State) (t src n v : Nat), Acts s t src (Reg.RST_ROD n) a → 0 < n → n < 64 → v % 8 = 4 →
    (∀ j, j < 3 → a.rodActive n j = false) → (∀ p ∈ a.sch.recs, p.2.unit ≠ n) →
    ∃ u, exec (.rodResetWrite t src n v) s = .next u ∧ u.rodActive n 2 = true ∧ u.rodWant n 2 = true ∧ u.rodActive n 0 = false ∧
      u.reg (Reg.ENG_CTL n) = 2 ∧ (u.engine n).started = false ∧ (u.engine n).ram = (a.engine n).ram ∧
      a.keepsRegs u [Reg.RST_ROD n, Reg.ENG_CTL n, Reg.ENG_STATUS n, Reg.CFG_STORE_GOLDEN] ∧ a.keepsMem u) ∧
  (∀ (s a : State) (t n e : Nat), a = s.advance t → 0 < n → n < 64 → a.rodActive n 0 = false → a.rodActive n 1 = false → a.rodActive n 2 = true →
    a.rodWant n 2 = false → tfind a.pwr.rstAt (rodKey n 2) = some e → e + 192 ≤ a.now → ∃ u, exec (.rodResetMinRelease t n) s = .next u ∧
      u.rodActive n 2 = false ∧ tfind u.pwr.rstAt (rodKey n 2) = none ∧ a.keepsRegs u [Reg.RST_ROD n, Reg.ENG_STATUS n] ∧ a.keepsMem u) ∧
  (∀ (s a : State) (t : Nat), a = s.advance t →
    (a.pwr.perst = false → a.mode ≠ modeOff → a.bit Reg.RST_CTL Fld.RST_CTL_PERST_DEV = false → ∃ u, exec (.perstAssert t) s = .next u ∧
      u.pwr.perst = true ∧ u.host.up = false ∧ u.host.q = [] ∧ (∀ o, o < 0x600000 → o ≠ Reg.CFG_STORE_GOLDEN → u.reg o = a.reg o) ∧
      (∀ o, 0x600000 ≤ o → o < 0x680000 → u.reg o = State.reset.reg o) ∧ u.sch = a.sch ∧ a.keepsMem u) ∧
    (a.pwr.perst = false → a.mode ≠ modeOff → a.bit Reg.RST_CTL Fld.RST_CTL_PERST_DEV = true → ∃ u, exec (.perstAssert t) s = .next u ∧
      u.pwr.perst = true ∧ u.pwr.devHeld = true ∧ u.fld Reg.RST_CAUSE Fld.RST_CAUSE_LAST = 1 ∧ u.sch = State.reset.sch) ∧
    (∃ u, exec (.perstRelease t) s = .next u ∧ u.pwr.perst = false ∧ u.pwr.devHeld = false ∧ a.keepsRegs u [] ∧ a.keepsMem u))

/-- Rests on R467, R469, R470, R472: QUIESCE is entered from RUN and DEGRADED, left by RESUME for the run mode, and left for STANDBY once the device
is drained, with a ledger record written; WAKE starts the wake; each is refused in another mode, and two at once conflict. The model's own choice in
it: log entry 59. -/
def Obligations.ModesFollowTheirControl : Prop :=
  (∀ (s a : State) (t src v : Nat), Acts s t src Reg.PWR_MODE_CTL a →
    (v / 2 % 8 = 0 → (a.mode = modeRun ∨ a.mode = modeDegraded) → (∀ r, r < 128 → a.specIn r = none) → ∃ u, exec (.modeQuiesce t src v) s = .next u ∧
      u.mode = modeQuiesce ∧ u.fld Reg.PWR_MODE_STATUS Fld.PWR_MODE_STATUS_RESULT = 0 ∧
      a.keepsRegs u [Reg.PWR_MODE_STATUS, Reg.DEV_STATUS, Reg.PWR_INT_STATUS] ∧ a.keepsMem u) ∧
    (v / 2 % 8 = 0 → a.mode ≠ modeRun → a.mode ≠ modeDegraded → ∃ u, exec (.modeQuiesce t src v) s = .next u ∧ u.mode = a.mode ∧
      u.fld Reg.PWR_MODE_STATUS Fld.PWR_MODE_STATUS_RESULT = 1 ∧ a.keepsRegs u [Reg.PWR_MODE_STATUS] ∧ a.keepsMem u) ∧
    (v / 2 % 8 ≠ 0 → ∃ u, exec (.modeQuiesce t src v) s = .next u ∧ u.mode = a.mode ∧
      u.fld Reg.PWR_MODE_STATUS Fld.PWR_MODE_STATUS_RESULT = 3 ∧ a.keepsRegs u [Reg.PWR_MODE_STATUS] ∧ a.keepsMem u) ∧
    (v % 2 = 0 → v / 4 % 4 = 0 → a.mode = modeQuiesce → ∃ u, exec (.modeResume t src v) s = .next u ∧
      u.mode = a.fld Reg.PWR_MODE_STATUS Fld.PWR_MODE_STATUS_RUN_MODE ∧ u.fld Reg.PWR_MODE_STATUS Fld.PWR_MODE_STATUS_RESULT = 0 ∧
      a.keepsRegs u [Reg.PWR_MODE_STATUS, Reg.DEV_STATUS, Reg.PWR_INT_STATUS] ∧ a.keepsMem u) ∧
    (∀ ok, v % 4 = 0 → v / 8 % 2 = 0 → a.mode = modeQuiesce → a.drained = false → ∃ u, exec (.modeStandby t src v ok) s = .next u ∧
      u.mode = modeQuiesce ∧ u.fld Reg.PWR_MODE_STATUS Fld.PWR_MODE_STATUS_RESULT = 2 ∧ a.keepsRegs u [Reg.PWR_MODE_STATUS] ∧ a.keepsMem u) ∧
    (v % 4 = 0 → v / 8 % 2 = 0 → a.mode = modeQuiesce → a.drained = true → a.pwr.failAt = none →
      (∀ d, d < 212 → d ≠ 128 → a.domState d = 2 → 192 ≤ d) → ∃ u, exec (.modeStandby t src v true) s = .next u ∧ u.mode = modeStandby ∧
      (∀ d, d < 212 → d ≠ 128 → a.domState d = 2 → u.domState d = 3) ∧ u.domState 128 = a.domState 128 ∧
      u.pwr.wake = (List.range 212).filter (fun d => d != 128 && a.domState d == 2) ∧
      u.fld Reg.PWR_MODE_STATUS Fld.PWR_MODE_STATUS_RESULT = 0 ∧ u.stk.place = (a.stk.place + 1) % 16 ∧
      (u.reg Reg.STACK_WEAR_SEQ).toNat = ((a.reg Reg.STACK_WEAR_SEQ).toNat + 1) % 2 ^ 32 ∧
      (tfind u.stk.ring a.stk.place).map (fun x => (x.seq, x.good)) = some (((a.reg Reg.STACK_WEAR_SEQ).toNat + 1) % 2 ^ 32, true) ∧ a.keepsMem u) ∧
    (∀ d, d < 212 → v % 8 = 0 → a.mode = modeStandby → a.pwr.waking = false → a.pwr.wake = [d] → a.domState d = 0 → a.pwr.ramps = [] →
      ∃ u, exec (.modeWake t src v) s = .next u ∧ u.domState d = 1 ∧ u.pwr.waking = true ∧ u.pwr.ramps = [(d, a.now + 24000)] ∧
        u.mode = modeStandby ∧ a.keepsRegs u [Reg.PWR_MODE_STATUS, Reg.PWR_DOM_STATUS d] ∧ a.keepsMem u))

/-! ### Chapter 18: stack health -/

/-- Rests on R476, R477, R479, R480, R481, R482, R483: a sweep starts at its period or on a write, and one that runs takes no other; a transient fault
is counted, and the log takes it at the next sc edge; a spare that fails is recorded bad at once; a persistent fault is repaired by a pause, or deferred; a fifth bad via retires its group; a
pause ends after 400 sc; a deferred repair starts once it may; a recorded via reaches the fuses. The model's own choices in it: log entries 65 to 67.
-/
def Obligations.ViaFaultsAreSweptRepairedAndRetired : Prop :=
  (∀ (s a : State) (t : Nat), a = s.advance t → a.bit Reg.STACK_CTL Fld.STACK_CTL_CHECK_EN = true → a.epoch.isSome = true → a.tallyNow ≠ 0 →
    a.tallyNow % 4000000000 = 0 → a.stk.sweep = none → ∃ u, exec (.sweepStart t) s = .next u ∧ u.stk.sweep = some [] ∧
      u.bit Reg.STACK_STATUS Fld.STACK_STATUS_SWEEP = true ∧ a.keepsRegs u [Reg.STACK_STATUS] ∧ a.keepsMem u) ∧
  (∀ (s a : State) (t src v : Nat), Acts s t src Reg.STACK_CTL a → ∃ u, exec (.stackCheckNow t src v) s = .next u ∧
    u.stk = { a.stk with sweep := some (a.stk.sweep.getD []) } ∧ (a.stk.sweep = none → u.bit Reg.STACK_STATUS Fld.STACK_STATUS_SWEEP = true) ∧
    u.fld Reg.STACK_CTL Fld.STACK_CTL_CHECK_EN = v % 2 ∧ u.fld Reg.STACK_CTL Fld.STACK_CTL_RC_DEFER = v / 2 % 2 ∧
    a.keepsRegs u [Reg.STACK_CTL, Reg.STACK_STATUS] ∧ a.keepsMem u) ∧
  (∀ (s a : State) (t g v m : Nat) (tb : Table Nat), a = s.boardAdvance t → a.stk.sweep = some tb → isGroup g = true →
    (∀ k, tfind tb (groupRod g) = some k → k < groupPlace g) → a.groupRetired g = false → v < 68 → v ∉ a.badVias g → (∀ d ∈ a.stk.defer, d.1 ≠ g) →
    (v ∈ a.signalVias g → m < 4 → ∃ u, exec (.groupObservationEnd t g [(v, m)]) s = .next u ∧
      u.fld Reg.STACK_CNT Fld.STACK_CNT_TRANSIENT = min (a.fld Reg.STACK_CNT Fld.STACK_CNT_TRANSIENT + 1) 0xFFFF ∧
      u.bit Reg.STACK_INT_STATUS Fld.STACK_INT_STATUS_TRANSIENT = true ∧ u.stk.bad = a.stk.bad ∧ u.stk.pauses = a.stk.pauses ∧
      (a.fld Reg.STACK_LOG logValid = 0 → a.logPresent Reg.STACK_LOG = false →
        (u.logView Reg.STACK_LOG).bit Reg.STACK_LOG logValid = true ∧ (u.logView Reg.STACK_LOG).fld Reg.STACK_LOG Fld.STACK_LOG_KIND = 0 ∧
        (u.logView Reg.STACK_LOG).fld Reg.STACK_LOG Fld.STACK_LOG_GROUP = g ∧ (u.logView Reg.STACK_LOG).reg Reg.STACK_LOG_VIA = BitVec.ofNat 32 v) ∧
      a.keepsRegs u [Reg.STACK_CNT, Reg.STACK_INT_STATUS, Reg.STACK_STATUS] ∧ a.keepsMem u) ∧
    (v ∉ a.signalVias g → (a.badVias g).length < 4 → ∃ u, exec (.groupObservationEnd t g [(v, m)]) s = .next u ∧ v ∈ u.badVias g ∧
      u.stk.pauses = a.stk.pauses ∧ u.bit Reg.STACK_INT_STATUS Fld.STACK_INT_STATUS_REPAIR = true ∧
      u.fld Reg.STACK_CNT Fld.STACK_CNT_REPAIRS = min (a.fld Reg.STACK_CNT Fld.STACK_CNT_REPAIRS + 1) 0xFFFF ∧
      a.keepsRegs u [Reg.STACK_CNT, Reg.STACK_INT_STATUS, Reg.STACK_STATUS] ∧ a.keepsMem u) ∧
    (v ∈ a.signalVias g → m = 4 → (a.badVias g).length < 4 → a.defers g = false → ∃ u, exec (.groupObservationEnd t g [(v, m)]) s = .next u ∧
      v ∈ u.badVias g ∧ u.stk.pend = a.stk.pend ++ [(g, v)] ∧ u.stk.pauses = a.stk.pauses ++ [(g, a.scEdge)] ∧
      u.bit Reg.STACK_STATUS Fld.STACK_STATUS_PAUSE = true ∧
      u.fld Reg.STACK_CNT Fld.STACK_CNT_REPAIRS = min (a.fld Reg.STACK_CNT Fld.STACK_CNT_REPAIRS + 1) 0xFFFF ∧
      a.keepsRegs u [Reg.STACK_CNT, Reg.STACK_STATUS] ∧ a.keepsMem u) ∧
    (v ∈ a.signalVias g → m = 4 → (a.badVias g).length < 4 → a.defers g = true → ∃ u, exec (.groupObservationEnd t g [(v, m)]) s = .next u ∧
      u.stk.bad = a.stk.bad ∧ u.stk.pauses = a.stk.pauses ∧ u.stk.defer = a.stk.defer ++ [(g, [v])] ∧
      u.bit Reg.STACK_STATUS Fld.STACK_STATUS_DEFERRED = true ∧ a.keepsRegs u [Reg.STACK_STATUS] ∧ a.keepsMem u) ∧
    (v ∈ a.signalVias g → m = 4 → (a.badVias g).length = 4 → groupUse g = .cp 32 → a.mode = modeRun →
      ∃ u, exec (.groupObservationEnd t g [(v, m)]) s = .next u ∧ u.groupRetired g = true ∧ u.badVias g = a.badVias g ∧ u.mode = modeDegraded ∧
      u.fld Reg.STACK_STATUS Fld.STACK_STATUS_RETIRED = min (a.fld Reg.STACK_STATUS Fld.STACK_STATUS_RETIRED + 1) 0xFFFF ∧
      u.bit Reg.STACK_INT_STATUS Fld.STACK_INT_STATUS_RETIRE = true ∧ u.bit (Reg.CACHE_SLICE (groupRod g)) Fld.CACHE_SLICE_CMD_FALLBACK = true ∧
      a.keepsRegs u [Reg.STACK_STATUS, Reg.STACK_INT_STATUS, Reg.CACHE_SLICE (groupRod g), Reg.PWR_MODE_STATUS,
        Reg.DEV_STATUS, Reg.PWR_INT_STATUS] ∧ a.keepsMem u)) ∧
  (∀ (s a : State) (t g e : Nat), a = s.advance t → a.stk.pauses.find? (fun p => p.1 == g) = some (g, e) → e + 4800 ≤ a.now →
    ∃ u, exec (.pauseEnd t g) s = .next u ∧ u.stk.pauses = a.stk.pauses.filter (fun q => q != (g, e)) ∧
      u.bit Reg.STACK_INT_STATUS Fld.STACK_INT_STATUS_REPAIR = true ∧ u.bit Reg.STACK_STATUS Fld.STACK_STATUS_PAUSE = !u.stk.pauses.isEmpty ∧
      a.keepsRegs u [Reg.STACK_INT_STATUS, Reg.STACK_STATUS] ∧ a.keepsMem u) ∧
  (∀ (s a : State) (t g v : Nat), a = s.advance t → a.stk.defer.find? (fun d => d.1 == g) = some (g, [v]) → a.defers g = false →
    ∃ u, exec (.deferredPauseStart t g) s = .next u ∧ v ∈ u.badVias g ∧ u.stk.pauses = a.stk.pauses ++ [(g, a.scEdge)] ∧
      u.stk.defer = a.stk.defer.filter (fun d => d != (g, [v])) ∧
      a.keepsRegs u [Reg.STACK_CNT, Reg.STACK_STATUS] ∧ a.keepsMem u) ∧
  (∀ (s a : State) (t g v : Nat), a = s.advance t → (g, v) ∈ a.stk.pend → ∃ u, exec (.fuseBlow t g v) s = .next u ∧
    v ∈ tget (fun _ => []) u.fuse.vias g ∧ (∀ h, h ≠ g → tget (fun _ => []) u.fuse.vias h = tget (fun _ => []) a.fuse.vias h) ∧
    u.stk.pend = a.stk.pend.filter (fun p => p != (g, v)) ∧ u.stk.bad = a.stk.bad ∧ a.keepsRegs u [] ∧ a.keepsMem u)

/-- Rests on R486, R487, R488: a sample takes the reading of every sensor; a sensor's trend goes on, turns with a half-cycle counted in the bin of its
range, or stays within the hysteresis; a device damage of 800,000 or 1,000,000 units shows its flag; a ledger record is written each hour and on a
write of SAVE, to the next place, and a failed one keeps the sequence number; none is written while power fails. The model's own choice in it: log
entry 68. -/
def Obligations.BondWearIsCountedAndRecorded : Prop :=
  (∀ (s a : State) (t : Nat) (temps : List Nat), a = s.advance t → a.epoch.isSome = true → (∀ e, a.stk.readAt = some e → e + 48000000 ≤ a.now) →
    ∃ u, exec (.wearSample t temps) s = .next u ∧ u.stk.readAt = some a.now ∧
      (∀ x c T, x < 64 → temps[x]? = some c → T = (BitVec.ofNat 12 c).toInt →
        u.bit (Reg.STACK_TEMP x) Fld.STACK_TEMP_VALID = true ∧ u.fld (Reg.STACK_TEMP x) Fld.STACK_TEMP_TEMP = c % 4096 ∧
        (∀ y, tfind a.stk.sens x = some y →
          ((if y.up then y.ext < T else T < y.ext) → tfind u.stk.sens x = some { y with ext := T } ∧ ∀ b, b < 4 → u.wearCount x b = a.wearCount x b) ∧
          (8 ≤ (if y.up then y.ext - T else T - y.ext) → tfind u.stk.sens x = some ⟨y.ext, T, !y.up⟩ ∧
            ∀ b, b < 4 → u.wearCount x b = if wearBin (y.ext - y.rev).natAbs = some b then min (a.wearCount x b + 1) 0xFFFFFFFF else a.wearCount x b) ∧
          (0 ≤ (if y.up then y.ext - T else T - y.ext) → (if y.up then y.ext - T else T - y.ext) < 8 → tfind u.stk.sens x = some y ∧
            ∀ b, b < 4 → u.wearCount x b = a.wearCount x b))) ∧
      (800000 ≤ (u.reg Reg.STACK_WEAR_DEV).toNat → u.bit Reg.STACK_STATUS Fld.STACK_STATUS_WEAR_WARN = true) ∧
      (1000000 ≤ (u.reg Reg.STACK_WEAR_DEV).toNat → u.bit Reg.STACK_STATUS Fld.STACK_STATUS_WEAR_EXHAUSTED = true) ∧
      a.keepsRegs u ((List.range 64).map Reg.STACK_TEMP ++ (List.range 256).map (fun k => Reg.STACK_WEAR_CNT (k / 4) (k % 4)) ++
        (List.range 8).map Reg.STACK_WEAR_DMG ++ [Reg.STACK_WEAR_DEV, Reg.STACK_STATUS, Reg.STACK_INT_STATUS]) ∧ a.keepsMem u) ∧
  (∀ (s a : State) (t : Nat), a = s.advance t → a.epoch.isSome = true → a.tallyNow ≠ 0 → a.tallyNow % 1440000000000 = 0 → a.pwr.failAt = none →
    (∃ u, exec (.ledgerRecordWrite t true) s = .next u ∧ u.stk.place = (a.stk.place + 1) % 16 ∧
      (u.reg Reg.STACK_WEAR_SEQ).toNat = ((a.reg Reg.STACK_WEAR_SEQ).toNat + 1) % 2 ^ 32 ∧
      (tfind u.stk.ring a.stk.place).map (fun x => (x.seq, x.sens, x.good)) = some (((a.reg Reg.STACK_WEAR_SEQ).toNat + 1) % 2 ^ 32, a.stk.sens, true) ∧
      a.keepsRegs u [Reg.STACK_WEAR_SEQ] ∧ a.keepsMem u) ∧
    (∃ u, exec (.ledgerRecordWrite t false) s = .next u ∧ u.stk.place = (a.stk.place + 1) % 16 ∧
      u.bit Reg.STACK_INT_STATUS Fld.STACK_INT_STATUS_LEDGER = true ∧ a.keepsRegs u [Reg.STACK_INT_STATUS] ∧ a.keepsMem u)) ∧
  (∀ (s a : State) (t src v : Nat), Acts s t src Reg.STACK_CTL a → v.testBit 31 = false →
    (a.pwr.failAt = none → ∃ u, exec (.stackSave t src v true) s = .next u ∧ u.stk.place = (a.stk.place + 1) % 16 ∧
      (u.reg Reg.STACK_WEAR_SEQ).toNat = ((a.reg Reg.STACK_WEAR_SEQ).toNat + 1) % 2 ^ 32 ∧
      (tfind u.stk.ring a.stk.place).map (fun x => (x.seq, x.sens, x.good)) = some (((a.reg Reg.STACK_WEAR_SEQ).toNat + 1) % 2 ^ 32, a.stk.sens, true) ∧
      a.keepsRegs u [Reg.STACK_CTL, Reg.STACK_WEAR_SEQ] ∧ a.keepsMem u) ∧
    (∀ ok, a.pwr.failAt.isSome = true → ∃ u, exec (.stackSave t src v ok) s = .next u ∧ u.stk = a.stk ∧ a.keepsRegs u [Reg.STACK_CTL] ∧ a.keepsMem u))

/-! ### Chapter 19: counting boards -/

/-- Rests on R491, R496, R497, R498, R499, R500, R502, R506: a port comes up with its sequence numbers at zero, and falls back to TRAINING when it
loses lock or its retries run out; a beacon sends this device's candidate; a first beacon with a better candidate gives that candidate and the
coordinate that follows from it, and one that does not fit makes a conflict; a device settles with its number; ports become ABSENT and FOREIGN; route
entries are written in the inactive bank. The model's own choices in it: log entries 36 and 40. -/
def Obligations.BoardPortsComeUpAndSettle : Prop :=
  (∀ (s a : State) (t p ver : Nat), a = s.boardAdvance t → p < 4 → a.portState p = lpTraining ∨ a.portState p = lpAbsent → a.gateState (76 + p) = 0 →
    ∃ u, exec (.alinkPortUp t p ver) s = .next u ∧ u.portState p = (if a.lone then lpConflict else lpUp) ∧ (u.aport p).upAt = a.now ∧
      (u.aport p).next = 0 ∧ (u.aport p).expect = 0 ∧ (u.aport p).replay = [] ∧
      u.fld (Reg.ALINK_PORT_STATUS p) Fld.ALINK_PORT_STATUS_VER = (if a.bit (Reg.ALINK_PORT_CFG p) Fld.ALINK_PORT_CFG_VMAX then ver % 2 else 0) ∧
      a.keepsRegs u (a.portRegs p) ∧ a.keepsMem u) ∧
  (∀ (s a : State) (t p : Nat), a = s.boardAdvance t → p < 4 → a.portState p = lpUp →
    (∃ u, exec (.alinkPortLost t p) s = .next u ∧ u.portState p = lpTraining ∧ (u.aport p).replay = [] ∧
      u.bit (Reg.ALINK_PORT_STATUS p) Fld.ALINK_PORT_STATUS_LOST = true ∧ a.keepsRegs u (a.portRegs p) ∧ a.keepsMem u) ∧
    (64 ≤ (a.aport p).resent.2 → (∃ f, ((a.aport p).resent.1, f) ∈ (a.aport p).replay) → ∃ u, exec (.alinkRetryLimit t p) s = .next u ∧
      u.portState p = lpTraining ∧ (u.aport p).replay = [] ∧ u.bit (Reg.ALINK_PORT_STATUS p) Fld.ALINK_PORT_STATUS_LOST = true ∧
      a.keepsRegs u (a.portRegs p) ∧ a.keepsMem u) ∧
    (modeLoad ≤ a.mode → (a.aport p).lastB = none → (a.aport p).replay.length < 64 → ∃ u, exec (.beaconSend t p) s = .next u ∧
      (u.aport p).sent = (a.aport p).sent ++ [a.frameBytes p (a.aport p).next (a.aport p).ack ⟨frBeacon, 0, 0, [], (a.ownBeacon p).bytes⟩] ∧
      (u.aport p).next = (a.aport p).next + 1 ∧ (u.aport p).lastB = some (a.ownBeacon p, a.now) ∧ a.keepsRegs u [] ∧ a.keepsMem u) ∧
    (a.bit (Reg.ALINK_PORT_STATUS p) Fld.ALINK_PORT_STATUS_VER = false → (a.aport p).nb = none → (a.aport p).upAt + 4800000 ≤ a.now →
      ∃ u, exec (.foreignTimeout t p) s = .next u ∧ u.portState p = lpForeign ∧ a.keepsRegs u (a.portRegs p) ∧ a.keepsMem u)) ∧
  (∀ (s a : State) (t p : Nat) (b : List Byte) (f : AFrame) (n : Beacon), FrameIn s t p frBeacon b f a → f.body.length = 32 → n = beaconOf f.body →
    a.portState p = lpUp → (a.aport p).nb = none → a.settled = false →
    (n.port = (p + 2) % 4 → n.dimX = a.brd.straps.brdX → n.dimY = a.brd.straps.brdY → a.brd.adopted = false → n.settled = false →
      pairLt n.best a.brd.best = true → ∃ u, exec (.beacon t p b) s = .next u ∧ u.brd.best = n.best ∧ (u.aport p).nb = some n ∧
      u.fld (Reg.ALINK_PORT_STATUS p) Fld.ALINK_PORT_STATUS_NB_PORT = n.port ∧
      ((∀ q, q < 4 → q ≠ p → (a.aport q).nb = none) → n.valid = true → n.best ≠ a.ownPair → a.boardX ≤ 4 → a.boardY ≤ 4 →
        u.boardAt = a.coordFrom p n ∧ u.brd.valid = true ∧ u.brd.hops = n.hops + 1 ∧ u.portState p = lpUp) ∧
      a.keepsRegs u [Reg.ALINK_PORT_STATUS p, Reg.ALINK_BOARD_STATUS, Reg.ALINK_INT_STATUS] ∧ a.keepsMem u) ∧
    (n.port ≠ (p + 2) % 4 ∨ n.dimX ≠ a.brd.straps.brdX ∨ n.dimY ≠ a.brd.straps.brdY → ∃ u, exec (.beacon t p b) s = .next u ∧
      u.portState p = lpConflict ∧ u.brd.best = a.brd.best ∧ u.bit Reg.ALINK_INT_STATUS Fld.ALINK_INT_STATUS_CONFLICT = true ∧
      a.keepsRegs u [Reg.ALINK_PORT_STATUS p, Reg.ALINK_INT_STATUS] ∧ a.keepsMem u)) ∧
  (∀ (s a : State) (t : Nat), a = s.boardAdvance t → a.maySettle = true → ∃ u, exec (.deviceSettle t) s = .next u ∧ u.settled = true ∧
    u.fld Reg.DEV_BOARD Fld.DEV_BOARD_DEVNUM = 4 * a.boardAt.2 + a.boardAt.1 ∧ u.bit Reg.ALINK_INT_STATUS Fld.ALINK_INT_STATUS_SETTLED = true ∧
    a.keepsRegs u ([Reg.DEV_BOARD, Reg.ALINK_BOARD_STATUS, Reg.ALINK_INT_STATUS, Reg.NOC_STATUS] ++
      (List.range 16).map (Reg.ALINK_RT (1 - a.epochNow))) ∧ a.keepsMem u) ∧
  (∀ (s a : State) (t p : Nat), a = s.boardAdvance t → p < 4 → a.expectedPort p = true → a.portState p = lpTraining → a.pwr.upAt + 115200000 ≤ a.now →
    ∃ u, exec (.portAbsentTimeout t p) s = .next u ∧ u.portState p = lpAbsent ∧
      u.bit Reg.ALINK_BOARD_STATUS Fld.ALINK_BOARD_STATUS_PARTIAL = true ∧
      a.keepsRegs u [Reg.ALINK_PORT_STATUS p, Reg.ALINK_BOARD_STATUS, Reg.ALINK_INT_STATUS] ∧ a.keepsMem u) ∧
  (∀ (s a : State) (t src b d v : Nat), BoardActs s t src (Reg.ALINK_RT b d) a →
    (b ≠ a.epochNow → ∃ u, exec (.alinkRtWrite t src b d v) s = .next u ∧ u.reg (Reg.ALINK_RT b d) = BitVec.ofNat 32 v &&& 0x80000003 ∧
      a.keepsRegs u [Reg.ALINK_RT b d] ∧ a.keepsMem u) ∧
    (b = a.epochNow → ∃ u, exec (.alinkRtWrite t src b d v) s = .next u ∧ u.bit Reg.NOC_STATUS Fld.NOC_STATUS_RT_REFUSED = true ∧
      a.keepsRegs u [Reg.NOC_STATUS] ∧ a.keepsMem u))

/-- Rests on R492, R493, R503, R504: a frame in sequence is accepted and acknowledges what it names; one out of sequence is answered by one NAK; a
failing tag is counted; a NAK has the frames from its SEQ on sent again; a request for this device is issued with SRC 0xC8 + p, and a DELIVERY goes
back; a response answers its request; a packet for another device moves on with one hop more; a DELIVERY frame marks its packet. The model's own
choices in it: log entries 37 to 40. -/
def Obligations.BoardFramesAndPacketsMove : Prop :=
  (∀ (s a : State) (t p : Nat) (b : List Byte) (r : RawFrame), a = s.boardAdvance t → p < 4 → a.portTrained p = true → parseFrame b = some r →
    r.frame.type = frIdle →
    (r.seq = (a.aport p).expect → r.enc = false → (a.aport p).wait = [] → ∃ u, exec (.alinkIdle t p b) s = .next u ∧
      u.aport p = { a.aport p with expect := (a.aport p).expect + 1, nakSent := false, replay :=
        if r.ack = ackNone then (a.aport p).replay else (a.aport p).replay.filter (fun x => decide (r.ack < x.1)) } ∧ a.keepsRegs u [] ∧ a.keepsMem u) ∧
    (r.seq ≠ (a.aport p).expect → (a.aport p).nakSent = false → (a.aport p).replay.length < 64 → ∃ u, exec (.alinkIdle t p b) s = .next u ∧
      (u.aport p).expect = (a.aport p).expect ∧ (u.aport p).nakSent = true ∧
      (u.aport p).sent = (a.aport p).sent ++ [a.frameBytes p (a.aport p).next (a.aport p).ack (plainFrame frNak)] ∧ a.keepsRegs u [] ∧ a.keepsMem u) ∧
    (r.seq ≠ (a.aport p).expect → (a.aport p).nakSent = true → exec (.alinkIdle t p b) s = .next a) ∧
    (r.seq = (a.aport p).expect → r.enc = true → lineTag (a.xtsKey (setLink p) 2) (nats r.frame.body) r.seq ≠ r.tag →
      ∃ u, exec (.alinkIdle t p b) s = .next u ∧ u.bit Reg.ALINK_INT_STATUS Fld.ALINK_INT_STATUS_TAG = true ∧
        u.fld (Reg.ALINK_PORT_CNT p) Fld.ALINK_PORT_CNT_TAGFAIL = min (a.fld (Reg.ALINK_PORT_CNT p) Fld.ALINK_PORT_CNT_TAGFAIL + 1) 0xFFFF)) ∧
  (∀ (s a : State) (t p k q : Nat) (b : List Byte) (f g : AFrame) (rest : List (Nat × AFrame)), FrameIn s t p frNak b f a →
    k = ofBytes ((b.drop 8).take 8) → q = (if k = ackNone then 0 else k + 1) → (a.aport p).replay = (q, g) :: rest → (∀ x ∈ rest, q ≤ x.1) →
    (a.aport p).resent.1 ≠ q → ∃ u, exec (.alinkNak t p b) s = .next u ∧
      (u.aport p).sent = (a.aport p).sent ++ (a.aport p).replay.map (fun x => a.frameBytes p x.1 (a.aport p).ack x.2) ∧
      (u.aport p).replay = (a.aport p).replay ∧ (u.aport p).resent = (q, 1) ∧
      u.fld (Reg.ALINK_PORT_CNT p) Fld.ALINK_PORT_CNT_RETRY = min (a.fld (Reg.ALINK_PORT_CNT p) Fld.ALINK_PORT_CNT_RETRY + (rest.length + 1)) 0xFFFF ∧
      a.keepsRegs u [Reg.ALINK_PORT_CNT p] ∧ a.keepsMem u) ∧
  (∀ (s a : State) (t p : Nat) (b : List Byte) (f : AFrame) (h : BitVec 128), FrameIn s t p frData b f a → a.portState p = lpUp →
    h = BitVec.ofNat 128 (ofBytes f.noc) →
    (∀ ans o, a.idleNoc → f.devs / 16 = a.fld Reg.DEV_BOARD Fld.DEV_BOARD_DEVNUM → hdrBits h 42 40 = 0 → a.transitPort p (f.devs % 16) = some o →
      (a.aport o).replay.length < 64 → ∃ u, exec (.alinkDataFrame t p b false ans) s = .next u ∧
        u.brd.inb = a.brd.inb ++ [⟨a.noc.nextId, p, f.devs % 16, f.hops⟩] ∧ (u.aport o).next = (a.aport o).next + 1 ∧
        u.noc.reqs = (a.accept (0xC8 + p) 0 (hdrBits h 46 44) .read (ofBytes ((f.body.drop 120).take 8) % 2 ^ 52) (hdrBits h 62 55 + 1) [] [] none
          a.noc.nextId).noc.reqs ∧ a.keepsRegs u [] ∧ a.keepsMem u) ∧
    (∀ id k d, f.devs / 16 = a.fld Reg.DEV_BOARD Fld.DEV_BOARD_DEVNUM → a.brd.out = [d] → d.req.id = id → d.part = k → d.answer = none →
      d.req.kind = ReqKind.read → ∃ u, exec (.alinkDataFrame t p b true (some (id, k))) s = .next u ∧ u.brd.out = [] ∧
        u.answered id k (dataAnswer (if 0xC ≤ hdrBits h 59 56 then 3 else hdrBits h 59 56) (d.req.parts.getD k default).len
          (hdrBits h 68 68 == 1) f.body) ∧ a.keepsRegs u [] ∧ a.keepsMem u) ∧
    (∀ resp ans o, f.devs / 16 ≠ a.fld Reg.DEV_BOARD Fld.DEV_BOARD_DEVNUM → f.hops < 7 → a.transitPort p (f.devs / 16) = some o →
      (a.aport o).replay.length < 64 → ∃ u, exec (.alinkDataFrame t p b resp ans) s = .next u ∧
        (u.aport o).replay = (a.aport o).replay ++ [((a.aport o).next, { f with hops := f.hops + 1 })] ∧ u.noc = a.noc ∧ a.keepsRegs u [] ∧ a.keepsMem u) ∧
    (∀ ans, f.devs / 16 ≠ a.fld Reg.DEV_BOARD Fld.DEV_BOARD_DEVNUM → 7 ≤ f.hops → exec (.alinkDataFrame t p b true ans) s = .next a)) ∧
  (∀ (s a : State) (t p id k : Nat) (b : List Byte) (f : AFrame) (d : Departed), FrameIn s t p frDelivery b f a → a.portState p = lpUp →
    f.devs / 16 = a.fld Reg.DEV_BOARD Fld.DEV_BOARD_DEVNUM → a.brd.out = [d] → d.req.id = id → d.part = k → d.delivered = false →
    ∃ u, exec (.delivery t p b id k) s = .next u ∧ u.brd.out = [{ d with delivered := true }] ∧ u.noc = a.noc ∧ a.keepsRegs u [] ∧ a.keepsMem u)

/-- Rests on R507, R509, R510, R511, R512: a device that meets the conditions is armed, and a request that does not is refused by the first failing
one; READY needs both frames, and a READY frame that comes before the
port is armed is kept; paired run starts 64 fc after the chassis edge; each window forms its CRC; equal CRCs go on, and unequal ones, a silence
of 4 windows or the partner's HALT halt the device with its keys zeroised; LEAVE names the window after which both return to their run mode, the
earlier of two. The model's own choices in it: log entries 28, 36, 41 and 80. -/
def Obligations.PairedRunStartsComparesAndEnds : Prop :=
  (∀ (s a : State) (t src port p : Nat), BoardActs s t src Reg.ALINK_PAIR_CTL a → p = port % 4 →
    (a.pairState = pairOff → (a.mode = modeRun ∨ a.mode = modeDegraded) → a.bit Reg.CLK_STATUS Fld.CLK_STATUS_LOCK = true →
      a.fld Reg.CLK_STATUS Fld.CLK_STATUS_SRC = 0 → a.portState p = lpUp → a.bit (Reg.ALINK_PORT_STATUS p) Fld.ALINK_PORT_STATUS_VER = true →
      (∃ n, (a.aport p).nb = some n ∧ n.settled = true) → ∃ u, exec (.pairArm t src port) s = .next u ∧ u.pairState = pairArmed ∧
        u.portState p = lpPair ∧ u.brd.pair.readyGot = (a.aport p).ready ∧ u.fld Reg.ALINK_PAIR_CTL Fld.ALINK_PAIR_CTL_PORT = p ∧
        u.fld Reg.ALINK_PAIR_STATUS Fld.ALINK_PAIR_STATUS_RESULT = 0 ∧ u.mode = a.mode ∧
        a.keepsRegs u ([Reg.ALINK_PAIR_CTL, Reg.ALINK_PAIR_STATUS] ++ a.portRegs p) ∧ a.keepsMem u) ∧
    (∀ o, (o = 1 ∧ a.pairState ≠ pairOff) ∨ (o = 2 ∧ a.pairState = pairOff ∧ a.mode ≠ modeRun ∧ a.mode ≠ modeDegraded) ∨
        (o = 3 ∧ a.pairState = pairOff ∧ a.mode = modeRun ∧ a.fld Reg.CLK_STATUS Fld.CLK_STATUS_SRC ≠ 0) ∨
        (o = 4 ∧ a.pairState = pairOff ∧ a.mode = modeRun ∧ a.bit Reg.CLK_STATUS Fld.CLK_STATUS_LOCK = true ∧
          a.fld Reg.CLK_STATUS Fld.CLK_STATUS_SRC = 0 ∧ a.portState p ≠ lpUp) → ∃ u, exec (.pairArm t src port) s = .next u ∧
      u.fld Reg.ALINK_PAIR_STATUS Fld.ALINK_PAIR_STATUS_RESULT = o ∧ u.pairState = a.pairState ∧ u.portState p = a.portState p ∧
      a.keepsRegs u [Reg.ALINK_PAIR_CTL, Reg.ALINK_PAIR_STATUS] ∧ a.keepsMem u)) ∧
  (∀ (s a : State) (t p : Nat) (b : List Byte), PairIn s t p 1 0 0 b a → a.pairState = pairArmed → ∃ u, exec (.pairReady t p b) s = .next u ∧
    u.brd.pair.readyGot = true ∧ u.pairState = (if a.brd.pair.readySent then pairReady else pairArmed) ∧
    a.keepsRegs u [Reg.ALINK_PAIR_STATUS, Reg.ALINK_INT_STATUS] ∧ a.keepsMem u) ∧
  (∀ (s a : State) (t p x w c : Nat) (b : List Byte) (f : AFrame), FrameIn s t p frPair b f a → a.portState p = lpUp → parsePair f.body = some (1, x, w, c) →
    ∃ u, exec (.pairReady t p b) s = .next u ∧ (u.aport p).ready = true ∧ u.portState p = lpUp ∧ u.brd.pair = a.brd.pair ∧ a.keepsRegs u [] ∧
      a.keepsMem u) ∧
  (∀ (s a : State) (t edge : Nat), a = s.boardAdvance t → a.pairState = pairReady → edge + 384 ≤ a.now → edge % 6 = 0 →
    (a.mode = modeRun ∨ a.mode = modeDegraded) → ∃ u, exec (.pairedRunEntry t edge) s = .next u ∧ u.mode = modePaired ∧ u.pairState = pairPaired ∧
      u.brd.pair.window = 0 ∧ u.brd.pair.entry = some (edge + 384) ∧
      a.keepsRegs u [Reg.DEV_STATUS, Reg.PWR_INT_STATUS, Reg.ALINK_PAIR_STATUS, Reg.ALINK_INT_STATUS] ∧ a.keepsMem u) ∧
  (∀ (s a : State) (t e w : Nat), a = s.boardAdvance t → a.pairState = pairPaired → a.brd.pair.entry = some e → w = a.brd.pair.window →
    (e + (w + 1) * 384 ≤ a.now → tfind a.brd.pair.their w = none → ∃ u, exec (.pairWindowEnd t) s = .next u ∧
      u.brd.pair.window = (w + 1) % 2 ^ 32 ∧ u.brd.pair.items = [] ∧
      tfind u.brd.pair.own w = some (Config.pairCrc w (a.brd.pair.items.flatMap PairItem.nats) % 2 ^ 32) ∧ a.keepsRegs u [] ∧ a.keepsMem u) ∧
    (a.brd.pair.leave = none → a.mode = modePaired → a.brd.pair.lastAt + 1536 ≤ a.now → ∃ u, exec (.pairLinkTimeout t) s = .next u ∧
      u.pairState = pairHalted ∧ u.mode = modeSecureHalt ∧ u.fld Reg.ALINK_PAIR_STATUS Fld.ALINK_PAIR_STATUS_CAUSE = 2 ∧ u.emc.keys = []) ∧
    (∀ n l, a.brd.pair.leave = some (n, l) → e + (l + 1) * 384 ≤ a.now → a.portState a.pairPort = lpPair → a.pairPort < 4 →
      ∃ u, exec (.pairLeaveEnd t) s = .next u ∧ u.mode = a.fld Reg.PWR_MODE_STATUS Fld.PWR_MODE_STATUS_RUN_MODE ∧ u.pairState = pairOff ∧
        u.portState a.pairPort = lpUp ∧
        a.keepsRegs u ([Reg.DEV_STATUS, Reg.PWR_INT_STATUS, Reg.ALINK_PAIR_STATUS] ++ a.portRegs a.pairPort) ∧ a.keepsMem u)) ∧
  (∀ (s a : State) (t p w c o : Nat) (b : List Byte), PairIn s t p 2 w c b a → a.pairState = pairPaired → a.brd.pair.leave = none → a.mode = modePaired →
    (w = a.brd.pair.sigs → tfind a.brd.pair.own w = some o → c = o → ∃ u, exec (.pairSig t p b) s = .next u ∧
      u.brd.pair.sigs = (w + 1) % 2 ^ 32 ∧ tfind u.brd.pair.own w = none ∧ u.pairState = pairPaired ∧ a.keepsRegs u [] ∧ a.keepsMem u) ∧
    (w = a.brd.pair.sigs ∧ tfind a.brd.pair.own w = some o ∧ c ≠ o ∨ w ≠ a.brd.pair.sigs → ∃ u, exec (.pairSig t p b) s = .next u ∧
      u.pairState = pairHalted ∧ u.mode = modeSecureHalt ∧ u.fld Reg.ALINK_PAIR_STATUS Fld.ALINK_PAIR_STATUS_CAUSE = 1 ∧ u.emc.keys = [])) ∧
  (∀ (s a : State) (t p w : Nat) (b : List Byte), PairIn s t p 3 w 0 b a → a.pairState = pairPaired → a.mode = modePaired →
    ∃ u, exec (.pairHalt t p b) s = .next u ∧ u.pairState = pairHalted ∧ u.mode = modeSecureHalt ∧
      u.fld Reg.ALINK_PAIR_STATUS Fld.ALINK_PAIR_STATUS_CAUSE = 3 ∧ u.emc.keys = []) ∧
  (∀ (s a : State) (t src w : Nat), BoardActs s t src Reg.ALINK_PAIR_CTL a → a.pairState = pairPaired → a.brd.pair.leave = none → w = a.brd.pair.window →
    ∃ u, exec (.alinkPairLeaveWrite t src) s = .next u ∧ u.brd.pair.leave = some (w, w + 16) ∧
      u.fld Reg.ALINK_PAIR_STATUS Fld.ALINK_PAIR_STATUS_WINDOW = w % 2 ^ 20 ∧ a.keepsRegs u [Reg.ALINK_PAIR_STATUS] ∧ a.keepsMem u) ∧
  (∀ (s a : State) (t p w : Nat) (b : List Byte), PairIn s t p 4 w 0 b a → a.pairState = pairPaired →
    (∀ n l, a.brd.pair.leave = some (n, l) → ∃ u, exec (.pairLeave t p b false) s = .next u ∧ u.brd.pair.leave = some (min n w, min l (w + 16)) ∧
      u.pairState = pairPaired ∧ a.keepsRegs u [Reg.ALINK_PAIR_STATUS] ∧ a.keepsMem u) ∧
    (a.brd.pair.leave = none → ∃ u, exec (.pairLeave t p b false) s = .next u ∧ u.brd.pair.leave = some (w, w + 16) ∧ u.pairState = pairPaired ∧
      a.keepsRegs u [Reg.ALINK_PAIR_STATUS] ∧ a.keepsMem u) ∧
    (a.brd.pair.leave = none → a.brd.pair.window ≤ w → ∃ u, exec (.pairLeave t p b true) s = .next u ∧ u.brd.pair.leave = some (w, w) ∧ u.pairState = pairPaired ∧
      a.keepsRegs u [Reg.ALINK_PAIR_STATUS] ∧ a.keepsMem u) ∧
    (w < a.brd.pair.window → ∃ u, exec (.pairLeave t p b true) s = .next u ∧ u.mode = a.fld Reg.PWR_MODE_STATUS Fld.PWR_MODE_STATUS_RUN_MODE ∧
      u.pairState = pairOff ∧ u.portState p = lpUp ∧
      a.keepsRegs u ([Reg.DEV_STATUS, Reg.PWR_INT_STATUS, Reg.ALINK_PAIR_STATUS] ++ a.portRegs p) ∧ a.keepsMem u))

/-! ### Chapter 20: power-good, monitors and the end of POWER-UP -/

/-- Rests on R468, R518, R521, R527, R532: PWRGOOD starts POWER-UP in OFF, but not while a thermal trip holds the device; its fall starts a power-fail
interval, which ends with a power-on reset; a rail trip and a thermal trip reset the device and leave it in OFF; POWER-UP ends with the regions
ISOLATED, the count of TALLY_NOW at zero, the device in FILL and PE_CLKREQ_N driven low, and a device whose self-test fails stays. The model's own choice in it: log entry 71.
-/
def Obligations.PowerComesGoesAndPowerUpEnds : Prop :=
  (∀ (s a : State) (t : Nat), a = s.advance t →
    (a.mode = modeOff → a.pwr.therm = false → ∃ u, exec (.pwrgoodRise t) s = .next u ∧ u.mode = modePowerUp ∧ u.pwr.good = true ∧
      u.pwr.tripped = false ∧ u.pwr.upAt = a.now ∧ a.keepsRegs u [Reg.DEV_STATUS] ∧ a.keepsMem u) ∧
    (a.mode ≠ modeOff ∨ a.pwr.therm = true → ∃ u, exec (.pwrgoodRise t) s = .next u ∧ u.mode = a.mode ∧ u.pwr.good = true ∧
      a.keepsRegs u [] ∧ a.keepsMem u) ∧
    (a.pwr.good = true → a.mode ≠ modeOff → a.pwr.failAt = none → ∃ u, exec (.pwrgoodFall t) s = .next u ∧ u.pwr.failAt = some a.now ∧
      u.pwr.good = false ∧ u.mode = a.mode ∧ a.keepsRegs u [] ∧ a.keepsMem u) ∧
    (a.pwr.good = true → a.mode = modeOff → ∃ u, exec (.pwrgoodFall t) s = .next u ∧ u.pwr.failAt = a.pwr.failAt ∧ u.pwr.therm = false ∧
      u.mode = modeOff ∧ a.keepsRegs u [] ∧ a.keepsMem u) ∧
    (∀ e, a.pwr.failAt = some e → e + 120000 ≤ a.now → ∃ u, exec (.powerFailIntervalEnd t) s = .next u ∧ u.pwr.failAt = none ∧
      u.mode = (if a.pwr.good then modePowerUp else modeOff) ∧ (∀ o, o ≠ Reg.DEV_STATUS → u.reg o = State.reset.reg o) ∧
      u.scr = State.reset.scr ∧ u.cache = State.reset.cache ∧ u.emc = State.reset.emc ∧ u.fuse = a.fuse ∧ u.cfg.image = a.cfg.image ∧
      u.stk.ring = a.stk.ring) ∧
    (∃ u, exec (.railMonitorTrip t) s = .next u ∧ u.mode = modeOff ∧ u.pwr.tripped = true ∧ u.pwr.therm = a.pwr.therm ∧
      (∀ o, o ≠ Reg.DEV_STATUS → u.reg o = State.reset.reg o) ∧ u.fuse = a.fuse ∧ u.cfg.image = a.cfg.image ∧ u.stk.ring = a.stk.ring) ∧
    (a.mode ≠ modeOff → ∃ u, exec (.thermalTrip t) s = .next u ∧ u.mode = modeOff ∧ u.pwr.therm = true ∧
      (∀ o, o ≠ Reg.DEV_STATUS → u.reg o = State.reset.reg o) ∧ u.fuse = a.fuse ∧ u.cfg.image = a.cfg.image ∧ u.stk.ring = a.stk.ring) ∧
    (a.mode = modeOff → exec (.thermalTrip t) s = .next a)) ∧
  (∀ (s a : State) (t : Nat) (vio : List Nat) (vias : List (Nat × Nat)), a = s.advance t → a.mode = modePowerUp → a.pwr.devHeld = false →
    a.pwr.faulty = false → a.pwr.good = true → a.pwr.tripped = false → a.pwr.therm = false →
    (∃ u, exec (.powerUpEnd t vio vias true) s = .next u ∧ u.pwr.faulty = true ∧ u.mode = modePowerUp ∧ a.keepsRegs u [] ∧ a.keepsMem u) ∧
    (∃ u, exec (.powerUpEnd t vio [] false) s = .next u ∧ u.mode = modeFill ∧ u.epoch = some a.scEdge ∧ u.tallyNow = 0 ∧
      u.stk.bad = a.fuse.vias ∧ u.stk.retired = [] ∧ u.host.clkreq = true ∧
      (∀ r, r < 128 → a.rstate r = rsOff → a.domState r = dsOn → a.regionHeld r = false → u.rstate r = rsIsolated)))

/-! ### Every block: control writes, steps of operations, responses -/

/-- Rests on R4, R5, R6, R31, R136, R230, R232, R545: a write that reaches its control node sets the enable bits of a block's interrupt register, or
clears the interrupts whose bits are one; a reserved offset takes nothing; ENG_CTL(0), ENG_BOOT_ADDR(0) and CFG_STORE_GOLDEN take nothing from an
initiator that does not own them, which is no error; and a node that has performed a request in this sc performs no other. The model's own choice in
it: log entry 10. -/
def Obligations.ControlWritesFollowTheirFieldTypes : Prop :=
  ∀ (s a : State) (t id p off v : Nat) (ok : Bool) (rq : Request) (q : Part), a = s.advance t → a.servable id p = some (rq, q) → rq.kind = .write →
    tfind a.logs off = none → q.port = portAUX → a.isLocal q.addr = true → q.addr % 2 ^ 48 = ctlBase + off → q.len = 4 → partData rq q = toBytes 4 v →
    (a.nodeBusy q.router = true → ∃ u, exec (.controlRegisterWrite t id p ok) s = .next u ∧
      u.noc.reqs.map (fun r => r.parts.map (·.performed)) = a.noc.reqs.map (fun r => r.parts.map (·.performed)) ∧ a.keepsRegs u [] ∧ a.keepsMem u) ∧
    (a.nodeBusy q.router = false →
    (∀ st, (st, off) ∈ intRegs → rq.src = 0 ∨ a.mode ≠ modeSecureHalt ∧ off ≠ Reg.XTS_INT_EN → ∃ u, exec (.controlRegisterWrite t id p ok) s = .next u ∧
      u.reg off &&& shownMask off = BitVec.ofNat 32 v &&& shownMask off ∧ u.answered id p (codeAnswer rOK) ∧ a.keepsRegs u [off] ∧ a.keepsMem u) ∧
    (∀ en, (off, en) ∈ intRegs → off ≠ Reg.LANE_INT_STATUS → rq.src = 0 ∨ a.mode ≠ modeSecureHalt ∧ off ≠ Reg.XTS_INT_STATUS →
      ∃ u, exec (.controlRegisterWrite t id p ok) s = .next u ∧ u.reg off = a.reg off &&& ~~~(BitVec.ofNat 32 v &&& shownMask off) ∧
      u.answered id p (codeAnswer rOK) ∧ a.keepsRegs u [off] ∧ a.keepsMem u) ∧
    (regRowAt off = none → inControlSpan off = true → ∃ u, exec (.controlRegisterWrite t id p ok) s = .next u ∧
      u.answered id p (codeAnswer rOK) ∧ a.keepsRegs u [] ∧ a.keepsMem u) ∧
    (rq.src ≠ 0 → off = Reg.ENG_CTL 0 ∨ off = Reg.ENG_BOOT_ADDR 0 ∨ off = Reg.CFG_STORE_GOLDEN → ∃ u, exec (.controlRegisterWrite t id p ok) s = .next u ∧
      u.answered id p (codeAnswer rOK) ∧ a.keepsRegs u [] ∧ a.keepsMem u))

/-- Rests on R275, R276, R336, R403, R404: a step phase in which no operation runs changes nothing; one in which a channel's training runs counts its
step, and training that succeeds makes the channel READY; a response that comes after its request has timed out is counted and given to nobody; one
that an engine waits for is taken by the engine. The model's own choice in it: log entry 74. -/
def Obligations.StepPhasesAndResponses : Prop :=
  (∀ (s a : State) (t trained failed : Nat), a = s.advance t → (∀ d ∈ a.noc.inbox, d.src ≠ srcLoader) →
    ((∀ k, k < 11 → a.seqBusy k = false ∧ a.bit (Reg.HOST_SEQ_OP k) Fld.HOST_SEQ_OP_BUSY = false) →
      ∃ u, exec (.sequencerStepPhase t trained failed) s = .next u ∧ a.keepsRegs u [] ∧ a.keepsMem u) ∧
    (∀ c, c < 4 → (∀ k, k < 11 → a.seqBusy k = decide (k = 5 + c) ∧ a.bit (Reg.HOST_SEQ_OP k) Fld.HOST_SEQ_OP_BUSY = decide (k = 5 + c)) →
      trained.testBit c = true → a.gateState (80 + c) = 0 → a.fld (Reg.EMC_CH_CFG c) Fld.EMC_CH_CFG_GEN < 2 →
      a.fld (Reg.EMC_CH_CFG c) Fld.EMC_CH_CFG_SPEED < 3 → 1 ≤ a.fld (Reg.EMC_CH_CFG c) Fld.EMC_CH_CFG_CAP →
      a.fld (Reg.EMC_CH_CFG c) Fld.EMC_CH_CFG_CAP ≤ 128 → ∃ u, exec (.sequencerStepPhase t trained failed) s = .next u ∧ u.chState c = chReady ∧
      u.fld (Reg.HOST_SEQ_OP (5 + c)) Fld.HOST_SEQ_OP_STEPS = min (a.fld (Reg.HOST_SEQ_OP (5 + c)) Fld.HOST_SEQ_OP_STEPS + 1) 0xFFFF ∧
      u.bit (Reg.HOST_SEQ_OP (5 + c)) Fld.HOST_SEQ_OP_BUSY = false ∧
      a.keepsRegs u [Reg.HOST_SEQ_OP (5 + c), Reg.EMC_CH_STATUS c] ∧ a.keepsMem u)) ∧
  (∀ (s a : State) (t id n : Nat) (r : Request) (q : Part), a = s.advance t → a.findReq id = some r → r.parts = [q] → q.performed = true →
    q.returned = false → q.answer.isSome = true → r.kind.nonPosted = true → r.done = true → (∀ x ∈ a.noc.reqs, ackFirst r q x = false) → r.src = n → n < 64 → (∀ d ∈ a.noc.inbox, d.src ≠ n) →
    ∃ u, exec (.nocResponseArrival t id 0) s = .next u ∧ u.noc.inbox = a.noc.inbox ∧
      u.fld Reg.NOC_CNT_LATE Fld.NOC_CNT_LATE_COUNT = (a.bump Reg.NOC_CNT_LATE Fld.NOC_CNT_LATE_COUNT 1).fld Reg.NOC_CNT_LATE Fld.NOC_CNT_LATE_COUNT ∧
      u.eng = a.eng ∧ a.keepsRegs u [Reg.NOC_CNT_LATE] ∧ a.keepsMem u) ∧
  (∀ (s b a : State) (t id p n rd f3 x : Nat) (d : Delivered), b = s.advance t → b.srcOf id = n → n < 64 → a = b.arriveResp id p →
    a.engGated n = false → a.noc.inbox.filter (fun y => y.src == n && y.tag != tagFirmware) = [d] → d.tag = tagEngLoad →
    (a.engine n).busy = .load rd f3 x → rd ≠ 0 → f3 < 8 → isErr d.code = false →
    ∃ u, exec (.nocResponseArrival t id p) s = .next u ∧ (u.engine n).get rd = loadValue f3 d.bytes ∧ (u.engine n).busy = .idle ∧
      (u.engine n).pc = (a.engine n).next ∧ a.keepsRegs u [Reg.ENG_STATUS n] ∧ a.keepsMem u)

/-! ### The whole block -/

/-- A step takes the command at the front of the queue and is that command's effect on the state with the queue's rest; with an empty queue the block
idles, which is the model's choice (log entry 3). -/
def Obligations.StepTakesTheFrontCommand : Prop :=
  (∀ (s : State) (c : Instr) (rest : List Instr), step { s with pending := c :: rest } = exec c { s with pending := rest }) ∧
  (∀ s : State, s.pending = [] → step s = .next s)

/-- Rests on R33, R178, R231, R281, R434, R449, R451, R459, R489: after power-on reset the device is in POWER-UP with every domain ON and every engine
but the root's in reset, the registers named here hold their reset words, no command waits, TALLY_NOW is 0, and every register and memory is in
canonical form. The model's own choice in it: log entry 5. -/
def Obligations.ResetLeavesPowerUpAndResetWords : Prop :=
  State.reset.pending = [] ∧ State.reset.mode = modePowerUp ∧ State.reset.tallyNow = 0 ∧ State.reset.regsWf = true ∧ State.reset.memWf = true ∧
  State.reset.reg Reg.DEV_ID = 0x71642A1D ∧ State.reset.reg Reg.CLK_CTL = 7 ∧ State.reset.reg Reg.RST_CTL = 1 ∧
  (∀ d, d < 212 → State.reset.domState d = dsOn ∧ State.reset.bit (Reg.PWR_DOM_CTL d) Fld.PWR_DOM_CTL_ON = true) ∧
  (∀ n, n < 64 → State.reset.reg (Reg.ENG_CTL n) = (if n = 0 then 1 else 2) ∧ State.reset.reg (Reg.ENG_TIMECMP_LO n) = 0xFFFFFFFF) ∧
  (∀ r, r < 128 → State.reset.rstate r = rsOff ∧ State.reset.reg (Reg.PLANE_FAB_RC_AVAIL_LO r) = 0xFFFFFFFF) ∧
  State.reset.reg Reg.NOC_TGT_LIMIT = 0x1000 ∧ State.reset.reg Reg.NOC_INIT_LIMIT = 0x4000 ∧ State.reset.reg Reg.NOC_LINK_POLICY = 0x10061A80 ∧
  (∀ p, p < 320 → State.reset.reg (Reg.PIN_OWN p) = 0xFF) ∧ State.reset.reg Reg.STACK_CTL = 1

/-- Rests on R215: the word of every admitted Xqtally instruction, with every operand at every value, decodes to that instruction; and a word decodes
to no instruction but the one whose word it is. -/
def Obligations.XqtallyWordsDecodeToTheirInstructions : Prop :=
  (∀ x : Xq, x.ok = true → Xq.decode x.encode = some x) ∧
  (∀ (w : Word32) (x : Xq), Xq.decode w = some x → x.ok = true ∧ x.encode = w)

/-- States R295 whole, and rests on R296: the columns of the (72,64) code, the check bits of a clean and of a stamped word, and the class of a memory
word by its syndrome; so a clean word reads back as it is; a word with one wrong bit is corrected, but reads as poisoned where the bit is one of data
bits 48–63; a stamped word reads as poisoned, also with one wrong bit; a word with two wrong bits is reported bad. -/
def Obligations.MemoryWordsCorrectOneBit : Prop :=
  (∀ j, j < 8 → wordCols[64 + j]? = some (2 ^ j)) ∧
  (∀ i j, i < j → j < 56 → ∃ x y, wordCols[i]? = some x ∧ wordCols[j]? = some y ∧ x < y ∧ y < 256 ∧ weight 8 x = 3 ∧ weight 8 y = 3) ∧
  (∀ v, v < 256 → weight 8 v = 3 → ∃ i, i < 56 ∧ wordCols[i]? = some v) ∧
  (∀ i, 56 ≤ i → i < 64 → ∃ x, wordCols[i - 8]? = some x ∧ wordCols[i]? = some (255 - x)) ∧
  (∀ (d : Word64), wordData (encodeWord d) = d ∧ wordData (stampWord d) = d ∧ wordCheck (stampWord d) = wordCheck (encodeWord d) ^^^ 0xFF ∧
    (∀ j, j < 8 → (wordCheck (encodeWord d)).testBit j =
      decide ((List.range 64).countP (fun i => d.getLsbD i && (wordCols[i]?.getD 0).testBit j) % 2 = 1))) ∧
  (∀ (w : Word72) (d : Word64) (x : Nat), d = wordData w → x = wordCheck w ^^^ wordCheck (encodeWord d) →
    (x = 0 → decodeWord w = (.clean, d)) ∧
    ((x = 0xFF ∨ ∃ c ∈ wordCols, x = 0xFF ^^^ c) → decodeWord w = (.poisoned, d)) ∧
    (∀ i, x ≠ 0 → x ≠ 0xFF → (∀ c ∈ wordCols, x ≠ 0xFF ^^^ c) → wordCols[i]? = some x →
      decodeWord w = (.corrected, if i < 64 then d ^^^ (1#64 <<< i) else d)) ∧
    (x ≠ 0 → x ≠ 0xFF → (∀ c ∈ wordCols, x ≠ 0xFF ^^^ c ∧ x ≠ c) → decodeWord w = (.uncorrectable, d))) ∧
  (WordClass.clean.bad = false ∧ WordClass.corrected.bad = false ∧ WordClass.poisoned.bad = true ∧ WordClass.uncorrectable.bad = true) ∧
  (∀ (d : Word64), decodeWord (encodeWord d) = (.clean, d) ∧ decodeWord (stampWord d) = (.poisoned, d) ∧
    (∀ i, i < 72 → (i < 48 ∨ 64 ≤ i → decodeWord (encodeWord d ^^^ (1#72 <<< i)) = (.corrected, d)) ∧
      (48 ≤ i → i < 64 → (decodeWord (encodeWord d ^^^ (1#72 <<< i))).1 = .poisoned) ∧ (decodeWord (stampWord d ^^^ (1#72 <<< i))).1 = .poisoned) ∧
    (∀ i j, i < 72 → j < 72 → i ≠ j → (decodeWord (encodeWord d ^^^ (1#72 <<< i) ^^^ (1#72 <<< j))).1.bad = true))

/-- Every step keeps the control registers in canonical form: offsets rising, and none listed at its reset word. The model's own choice in it: log
entry 5. -/
def Obligations.EveryStepKeepsTheRegistersCanonical : Prop :=
  ∀ s u : State, s.regsWf = true → step s = .next u → u.regsWf = true

/-- Rests on R476: no command removes a bad via from the fuses: once recorded there, it is recorded for good. -/
def Obligations.NoStepUnrecordsABadVia : Prop :=
  ∀ (s u : State) (g v : Nat), step s = .next u → v ∈ tget (fun _ => []) s.fuse.vias g → v ∈ tget (fun _ => []) u.fuse.vias g
end

