-- ==== Sys2Proof/Laws/State.lean ====
section
/-!
SUPPORT. What each update of the state leaves alone and what it sets: one lemma for each field and update, true by definition.
-/
namespace Sys2Proof.Machine

variable (s : State)

/-! ### State.setReg -/

@[simp] theorem State.setReg_pending (a : Nat) (w : Word32) : (s.setReg a w).pending = s.pending := rfl
@[simp] theorem State.setReg_now (a : Nat) (w : Word32) : (s.setReg a w).now = s.now := rfl
@[simp] theorem State.setReg_epoch (a : Nat) (w : Word32) : (s.setReg a w).epoch = s.epoch := rfl
@[simp] theorem State.setReg_fresh (a : Nat) (w : Word32) : (s.setReg a w).fresh = s.fresh := rfl
@[simp] theorem State.setReg_regs (a : Nat) (w : Word32) : (s.setReg a w).regs = tput resetWord s.regs a w := rfl
@[simp] theorem State.setReg_logs (a : Nat) (w : Word32) : (s.setReg a w).logs = s.logs := rfl
@[simp] theorem State.setReg_agenda (a : Nat) (w : Word32) : (s.setReg a w).agenda = s.agenda := rfl
@[simp] theorem State.setReg_seen (a : Nat) (w : Word32) : (s.setReg a w).seen = s.seen := rfl
@[simp] theorem State.setReg_fuse (a : Nat) (w : Word32) : (s.setReg a w).fuse = s.fuse := rfl
@[simp] theorem State.setReg_fab (a : Nat) (w : Word32) : (s.setReg a w).fab = s.fab := rfl
@[simp] theorem State.setReg_noc (a : Nat) (w : Word32) : (s.setReg a w).noc = s.noc := rfl
@[simp] theorem State.setReg_sch (a : Nat) (w : Word32) : (s.setReg a w).sch = s.sch := rfl
@[simp] theorem State.setReg_clk (a : Nat) (w : Word32) : (s.setReg a w).clk = s.clk := rfl
@[simp] theorem State.setReg_pwr (a : Nat) (w : Word32) : (s.setReg a w).pwr = s.pwr := rfl
@[simp] theorem State.setReg_stk (a : Nat) (w : Word32) : (s.setReg a w).stk = s.stk := rfl
@[simp] theorem State.setReg_pin (a : Nat) (w : Word32) : (s.setReg a w).pin = s.pin := rfl
@[simp] theorem State.setReg_brd (a : Nat) (w : Word32) : (s.setReg a w).brd = s.brd := rfl
@[simp] theorem State.setReg_cache (a : Nat) (w : Word32) : (s.setReg a w).cache = s.cache := rfl
@[simp] theorem State.setReg_scrub (a : Nat) (w : Word32) : (s.setReg a w).scrub = s.scrub := rfl
@[simp] theorem State.setReg_emc (a : Nat) (w : Word32) : (s.setReg a w).emc = s.emc := rfl
@[simp] theorem State.setReg_eng (a : Nat) (w : Word32) : (s.setReg a w).eng = s.eng := rfl
@[simp] theorem State.setReg_nonce (a : Nat) (w : Word32) : (s.setReg a w).nonce = s.nonce := rfl
@[simp] theorem State.setReg_scr (a : Nat) (w : Word32) : (s.setReg a w).scr = s.scr := rfl
@[simp] theorem State.setReg_cfg (a : Nat) (w : Word32) : (s.setReg a w).cfg = s.cfg := rfl
@[simp] theorem State.setReg_lane (a : Nat) (w : Word32) : (s.setReg a w).lane = s.lane := rfl
@[simp] theorem State.setReg_host (a : Nat) (w : Word32) : (s.setReg a w).host = s.host := rfl

/-! ### State.later -/

@[simp] theorem State.later_pending (t : Nat) (x : Later) : (s.later t x).pending = s.pending := rfl
@[simp] theorem State.later_now (t : Nat) (x : Later) : (s.later t x).now = s.now := rfl
@[simp] theorem State.later_epoch (t : Nat) (x : Later) : (s.later t x).epoch = s.epoch := rfl
@[simp] theorem State.later_fresh (t : Nat) (x : Later) : (s.later t x).fresh = s.fresh := rfl
@[simp] theorem State.later_regs (t : Nat) (x : Later) : (s.later t x).regs = s.regs := rfl
@[simp] theorem State.later_logs (t : Nat) (x : Later) : (s.later t x).logs = s.logs := rfl
@[simp] theorem State.later_agenda (t : Nat) (x : Later) : (s.later t x).agenda = s.agenda.takeWhile (fun p => p.1 ≤ t) ++ (t, x) :: s.agenda.dropWhile (fun p => p.1 ≤ t) := rfl
@[simp] theorem State.later_seen (t : Nat) (x : Later) : (s.later t x).seen = s.seen := rfl
@[simp] theorem State.later_fuse (t : Nat) (x : Later) : (s.later t x).fuse = s.fuse := rfl
@[simp] theorem State.later_fab (t : Nat) (x : Later) : (s.later t x).fab = s.fab := rfl
@[simp] theorem State.later_noc (t : Nat) (x : Later) : (s.later t x).noc = s.noc := rfl
@[simp] theorem State.later_sch (t : Nat) (x : Later) : (s.later t x).sch = s.sch := rfl
@[simp] theorem State.later_clk (t : Nat) (x : Later) : (s.later t x).clk = s.clk := rfl
@[simp] theorem State.later_pwr (t : Nat) (x : Later) : (s.later t x).pwr = s.pwr := rfl
@[simp] theorem State.later_stk (t : Nat) (x : Later) : (s.later t x).stk = s.stk := rfl
@[simp] theorem State.later_pin (t : Nat) (x : Later) : (s.later t x).pin = s.pin := rfl
@[simp] theorem State.later_brd (t : Nat) (x : Later) : (s.later t x).brd = s.brd := rfl
@[simp] theorem State.later_cache (t : Nat) (x : Later) : (s.later t x).cache = s.cache := rfl
@[simp] theorem State.later_scrub (t : Nat) (x : Later) : (s.later t x).scrub = s.scrub := rfl
@[simp] theorem State.later_emc (t : Nat) (x : Later) : (s.later t x).emc = s.emc := rfl
@[simp] theorem State.later_eng (t : Nat) (x : Later) : (s.later t x).eng = s.eng := rfl
@[simp] theorem State.later_nonce (t : Nat) (x : Later) : (s.later t x).nonce = s.nonce := rfl
@[simp] theorem State.later_scr (t : Nat) (x : Later) : (s.later t x).scr = s.scr := rfl
@[simp] theorem State.later_cfg (t : Nat) (x : Later) : (s.later t x).cfg = s.cfg := rfl
@[simp] theorem State.later_lane (t : Nat) (x : Later) : (s.later t x).lane = s.lane := rfl
@[simp] theorem State.later_host (t : Nat) (x : Later) : (s.later t x).host = s.host := rfl

/-! ### State.draw -/

@[simp] theorem State.draw_pending : (s.draw).pending = s.pending := rfl
@[simp] theorem State.draw_now : (s.draw).now = s.now := rfl
@[simp] theorem State.draw_epoch : (s.draw).epoch = s.epoch := rfl
@[simp] theorem State.draw_fresh : (s.draw).fresh = s.fresh + 1 := rfl
@[simp] theorem State.draw_regs : (s.draw).regs = s.regs := rfl
@[simp] theorem State.draw_logs : (s.draw).logs = s.logs := rfl
@[simp] theorem State.draw_agenda : (s.draw).agenda = s.agenda := rfl
@[simp] theorem State.draw_seen : (s.draw).seen = s.seen := rfl
@[simp] theorem State.draw_fuse : (s.draw).fuse = s.fuse := rfl
@[simp] theorem State.draw_fab : (s.draw).fab = s.fab := rfl
@[simp] theorem State.draw_noc : (s.draw).noc = s.noc := rfl
@[simp] theorem State.draw_sch : (s.draw).sch = s.sch := rfl
@[simp] theorem State.draw_clk : (s.draw).clk = s.clk := rfl
@[simp] theorem State.draw_pwr : (s.draw).pwr = s.pwr := rfl
@[simp] theorem State.draw_stk : (s.draw).stk = s.stk := rfl
@[simp] theorem State.draw_pin : (s.draw).pin = s.pin := rfl
@[simp] theorem State.draw_brd : (s.draw).brd = s.brd := rfl
@[simp] theorem State.draw_cache : (s.draw).cache = s.cache := rfl
@[simp] theorem State.draw_scrub : (s.draw).scrub = s.scrub := rfl
@[simp] theorem State.draw_emc : (s.draw).emc = s.emc := rfl
@[simp] theorem State.draw_eng : (s.draw).eng = s.eng := rfl
@[simp] theorem State.draw_nonce : (s.draw).nonce = s.nonce := rfl
@[simp] theorem State.draw_scr : (s.draw).scr = s.scr := rfl
@[simp] theorem State.draw_cfg : (s.draw).cfg = s.cfg := rfl
@[simp] theorem State.draw_lane : (s.draw).lane = s.lane := rfl
@[simp] theorem State.draw_host : (s.draw).host = s.host := rfl

/-! ### State.setFld -/

@[simp] theorem State.setFld_pending (a : Nat) (f : Field) (v : Nat) : (s.setFld a f v).pending = s.pending := rfl
@[simp] theorem State.setFld_now (a : Nat) (f : Field) (v : Nat) : (s.setFld a f v).now = s.now := rfl
@[simp] theorem State.setFld_epoch (a : Nat) (f : Field) (v : Nat) : (s.setFld a f v).epoch = s.epoch := rfl
@[simp] theorem State.setFld_fresh (a : Nat) (f : Field) (v : Nat) : (s.setFld a f v).fresh = s.fresh := rfl
@[simp] theorem State.setFld_regs (a : Nat) (f : Field) (v : Nat) : (s.setFld a f v).regs = tput resetWord s.regs a (fieldPut (s.reg a) f v) := rfl
@[simp] theorem State.setFld_logs (a : Nat) (f : Field) (v : Nat) : (s.setFld a f v).logs = s.logs := rfl
@[simp] theorem State.setFld_agenda (a : Nat) (f : Field) (v : Nat) : (s.setFld a f v).agenda = s.agenda := rfl
@[simp] theorem State.setFld_seen (a : Nat) (f : Field) (v : Nat) : (s.setFld a f v).seen = s.seen := rfl
@[simp] theorem State.setFld_fuse (a : Nat) (f : Field) (v : Nat) : (s.setFld a f v).fuse = s.fuse := rfl
@[simp] theorem State.setFld_fab (a : Nat) (f : Field) (v : Nat) : (s.setFld a f v).fab = s.fab := rfl
@[simp] theorem State.setFld_noc (a : Nat) (f : Field) (v : Nat) : (s.setFld a f v).noc = s.noc := rfl
@[simp] theorem State.setFld_sch (a : Nat) (f : Field) (v : Nat) : (s.setFld a f v).sch = s.sch := rfl
@[simp] theorem State.setFld_clk (a : Nat) (f : Field) (v : Nat) : (s.setFld a f v).clk = s.clk := rfl
@[simp] theorem State.setFld_pwr (a : Nat) (f : Field) (v : Nat) : (s.setFld a f v).pwr = s.pwr := rfl
@[simp] theorem State.setFld_stk (a : Nat) (f : Field) (v : Nat) : (s.setFld a f v).stk = s.stk := rfl
@[simp] theorem State.setFld_pin (a : Nat) (f : Field) (v : Nat) : (s.setFld a f v).pin = s.pin := rfl
@[simp] theorem State.setFld_brd (a : Nat) (f : Field) (v : Nat) : (s.setFld a f v).brd = s.brd := rfl
@[simp] theorem State.setFld_cache (a : Nat) (f : Field) (v : Nat) : (s.setFld a f v).cache = s.cache := rfl
@[simp] theorem State.setFld_scrub (a : Nat) (f : Field) (v : Nat) : (s.setFld a f v).scrub = s.scrub := rfl
@[simp] theorem State.setFld_emc (a : Nat) (f : Field) (v : Nat) : (s.setFld a f v).emc = s.emc := rfl
@[simp] theorem State.setFld_eng (a : Nat) (f : Field) (v : Nat) : (s.setFld a f v).eng = s.eng := rfl
@[simp] theorem State.setFld_nonce (a : Nat) (f : Field) (v : Nat) : (s.setFld a f v).nonce = s.nonce := rfl
@[simp] theorem State.setFld_scr (a : Nat) (f : Field) (v : Nat) : (s.setFld a f v).scr = s.scr := rfl
@[simp] theorem State.setFld_cfg (a : Nat) (f : Field) (v : Nat) : (s.setFld a f v).cfg = s.cfg := rfl
@[simp] theorem State.setFld_lane (a : Nat) (f : Field) (v : Nat) : (s.setFld a f v).lane = s.lane := rfl
@[simp] theorem State.setFld_host (a : Nat) (f : Field) (v : Nat) : (s.setFld a f v).host = s.host := rfl

/-! ### State.bump -/

@[simp] theorem State.bump_pending (a : Nat) (f : Field) (n : Nat) : (s.bump a f n).pending = s.pending := rfl
@[simp] theorem State.bump_now (a : Nat) (f : Field) (n : Nat) : (s.bump a f n).now = s.now := rfl
@[simp] theorem State.bump_epoch (a : Nat) (f : Field) (n : Nat) : (s.bump a f n).epoch = s.epoch := rfl
@[simp] theorem State.bump_fresh (a : Nat) (f : Field) (n : Nat) : (s.bump a f n).fresh = s.fresh := rfl
@[simp] theorem State.bump_logs (a : Nat) (f : Field) (n : Nat) : (s.bump a f n).logs = s.logs := rfl
@[simp] theorem State.bump_agenda (a : Nat) (f : Field) (n : Nat) : (s.bump a f n).agenda = s.agenda := rfl
@[simp] theorem State.bump_seen (a : Nat) (f : Field) (n : Nat) : (s.bump a f n).seen = s.seen := rfl
@[simp] theorem State.bump_fuse (a : Nat) (f : Field) (n : Nat) : (s.bump a f n).fuse = s.fuse := rfl
@[simp] theorem State.bump_fab (a : Nat) (f : Field) (n : Nat) : (s.bump a f n).fab = s.fab := rfl
@[simp] theorem State.bump_noc (a : Nat) (f : Field) (n : Nat) : (s.bump a f n).noc = s.noc := rfl
@[simp] theorem State.bump_sch (a : Nat) (f : Field) (n : Nat) : (s.bump a f n).sch = s.sch := rfl
@[simp] theorem State.bump_clk (a : Nat) (f : Field) (n : Nat) : (s.bump a f n).clk = s.clk := rfl
@[simp] theorem State.bump_pwr (a : Nat) (f : Field) (n : Nat) : (s.bump a f n).pwr = s.pwr := rfl
@[simp] theorem State.bump_stk (a : Nat) (f : Field) (n : Nat) : (s.bump a f n).stk = s.stk := rfl
@[simp] theorem State.bump_pin (a : Nat) (f : Field) (n : Nat) : (s.bump a f n).pin = s.pin := rfl
@[simp] theorem State.bump_brd (a : Nat) (f : Field) (n : Nat) : (s.bump a f n).brd = s.brd := rfl
@[simp] theorem State.bump_cache (a : Nat) (f : Field) (n : Nat) : (s.bump a f n).cache = s.cache := rfl
@[simp] theorem State.bump_scrub (a : Nat) (f : Field) (n : Nat) : (s.bump a f n).scrub = s.scrub := rfl
@[simp] theorem State.bump_emc (a : Nat) (f : Field) (n : Nat) : (s.bump a f n).emc = s.emc := rfl
@[simp] theorem State.bump_eng (a : Nat) (f : Field) (n : Nat) : (s.bump a f n).eng = s.eng := rfl
@[simp] theorem State.bump_nonce (a : Nat) (f : Field) (n : Nat) : (s.bump a f n).nonce = s.nonce := rfl
@[simp] theorem State.bump_scr (a : Nat) (f : Field) (n : Nat) : (s.bump a f n).scr = s.scr := rfl
@[simp] theorem State.bump_cfg (a : Nat) (f : Field) (n : Nat) : (s.bump a f n).cfg = s.cfg := rfl
@[simp] theorem State.bump_lane (a : Nat) (f : Field) (n : Nat) : (s.bump a f n).lane = s.lane := rfl
@[simp] theorem State.bump_host (a : Nat) (f : Field) (n : Nat) : (s.bump a f n).host = s.host := rfl

/-! ### State.bumpWrap -/

@[simp] theorem State.bumpWrap_pending (a : Nat) (f : Field) (n : Nat) : (s.bumpWrap a f n).pending = s.pending := rfl
@[simp] theorem State.bumpWrap_now (a : Nat) (f : Field) (n : Nat) : (s.bumpWrap a f n).now = s.now := rfl
@[simp] theorem State.bumpWrap_epoch (a : Nat) (f : Field) (n : Nat) : (s.bumpWrap a f n).epoch = s.epoch := rfl
@[simp] theorem State.bumpWrap_fresh (a : Nat) (f : Field) (n : Nat) : (s.bumpWrap a f n).fresh = s.fresh := rfl
@[simp] theorem State.bumpWrap_logs (a : Nat) (f : Field) (n : Nat) : (s.bumpWrap a f n).logs = s.logs := rfl
@[simp] theorem State.bumpWrap_agenda (a : Nat) (f : Field) (n : Nat) : (s.bumpWrap a f n).agenda = s.agenda := rfl
@[simp] theorem State.bumpWrap_seen (a : Nat) (f : Field) (n : Nat) : (s.bumpWrap a f n).seen = s.seen := rfl
@[simp] theorem State.bumpWrap_fuse (a : Nat) (f : Field) (n : Nat) : (s.bumpWrap a f n).fuse = s.fuse := rfl
@[simp] theorem State.bumpWrap_fab (a : Nat) (f : Field) (n : Nat) : (s.bumpWrap a f n).fab = s.fab := rfl
@[simp] theorem State.bumpWrap_noc (a : Nat) (f : Field) (n : Nat) : (s.bumpWrap a f n).noc = s.noc := rfl
@[simp] theorem State.bumpWrap_sch (a : Nat) (f : Field) (n : Nat) : (s.bumpWrap a f n).sch = s.sch := rfl
@[simp] theorem State.bumpWrap_clk (a : Nat) (f : Field) (n : Nat) : (s.bumpWrap a f n).clk = s.clk := rfl
@[simp] theorem State.bumpWrap_pwr (a : Nat) (f : Field) (n : Nat) : (s.bumpWrap a f n).pwr = s.pwr := rfl
@[simp] theorem State.bumpWrap_stk (a : Nat) (f : Field) (n : Nat) : (s.bumpWrap a f n).stk = s.stk := rfl
@[simp] theorem State.bumpWrap_pin (a : Nat) (f : Field) (n : Nat) : (s.bumpWrap a f n).pin = s.pin := rfl
@[simp] theorem State.bumpWrap_brd (a : Nat) (f : Field) (n : Nat) : (s.bumpWrap a f n).brd = s.brd := rfl
@[simp] theorem State.bumpWrap_cache (a : Nat) (f : Field) (n : Nat) : (s.bumpWrap a f n).cache = s.cache := rfl
@[simp] theorem State.bumpWrap_scrub (a : Nat) (f : Field) (n : Nat) : (s.bumpWrap a f n).scrub = s.scrub := rfl
@[simp] theorem State.bumpWrap_emc (a : Nat) (f : Field) (n : Nat) : (s.bumpWrap a f n).emc = s.emc := rfl
@[simp] theorem State.bumpWrap_eng (a : Nat) (f : Field) (n : Nat) : (s.bumpWrap a f n).eng = s.eng := rfl
@[simp] theorem State.bumpWrap_nonce (a : Nat) (f : Field) (n : Nat) : (s.bumpWrap a f n).nonce = s.nonce := rfl
@[simp] theorem State.bumpWrap_scr (a : Nat) (f : Field) (n : Nat) : (s.bumpWrap a f n).scr = s.scr := rfl
@[simp] theorem State.bumpWrap_cfg (a : Nat) (f : Field) (n : Nat) : (s.bumpWrap a f n).cfg = s.cfg := rfl
@[simp] theorem State.bumpWrap_lane (a : Nat) (f : Field) (n : Nat) : (s.bumpWrap a f n).lane = s.lane := rfl
@[simp] theorem State.bumpWrap_host (a : Nat) (f : Field) (n : Nat) : (s.bumpWrap a f n).host = s.host := rfl

/-! ### State.setReg48 -/

@[simp] theorem State.setReg48_pending (lo hi v : Nat) : (s.setReg48 lo hi v).pending = s.pending := rfl
@[simp] theorem State.setReg48_now (lo hi v : Nat) : (s.setReg48 lo hi v).now = s.now := rfl
@[simp] theorem State.setReg48_epoch (lo hi v : Nat) : (s.setReg48 lo hi v).epoch = s.epoch := rfl
@[simp] theorem State.setReg48_fresh (lo hi v : Nat) : (s.setReg48 lo hi v).fresh = s.fresh := rfl
@[simp] theorem State.setReg48_logs (lo hi v : Nat) : (s.setReg48 lo hi v).logs = s.logs := rfl
@[simp] theorem State.setReg48_agenda (lo hi v : Nat) : (s.setReg48 lo hi v).agenda = s.agenda := rfl
@[simp] theorem State.setReg48_seen (lo hi v : Nat) : (s.setReg48 lo hi v).seen = s.seen := rfl
@[simp] theorem State.setReg48_fuse (lo hi v : Nat) : (s.setReg48 lo hi v).fuse = s.fuse := rfl
@[simp] theorem State.setReg48_fab (lo hi v : Nat) : (s.setReg48 lo hi v).fab = s.fab := rfl
@[simp] theorem State.setReg48_noc (lo hi v : Nat) : (s.setReg48 lo hi v).noc = s.noc := rfl
@[simp] theorem State.setReg48_sch (lo hi v : Nat) : (s.setReg48 lo hi v).sch = s.sch := rfl
@[simp] theorem State.setReg48_clk (lo hi v : Nat) : (s.setReg48 lo hi v).clk = s.clk := rfl
@[simp] theorem State.setReg48_pwr (lo hi v : Nat) : (s.setReg48 lo hi v).pwr = s.pwr := rfl
@[simp] theorem State.setReg48_stk (lo hi v : Nat) : (s.setReg48 lo hi v).stk = s.stk := rfl
@[simp] theorem State.setReg48_pin (lo hi v : Nat) : (s.setReg48 lo hi v).pin = s.pin := rfl
@[simp] theorem State.setReg48_brd (lo hi v : Nat) : (s.setReg48 lo hi v).brd = s.brd := rfl
@[simp] theorem State.setReg48_cache (lo hi v : Nat) : (s.setReg48 lo hi v).cache = s.cache := rfl
@[simp] theorem State.setReg48_scrub (lo hi v : Nat) : (s.setReg48 lo hi v).scrub = s.scrub := rfl
@[simp] theorem State.setReg48_emc (lo hi v : Nat) : (s.setReg48 lo hi v).emc = s.emc := rfl
@[simp] theorem State.setReg48_eng (lo hi v : Nat) : (s.setReg48 lo hi v).eng = s.eng := rfl
@[simp] theorem State.setReg48_nonce (lo hi v : Nat) : (s.setReg48 lo hi v).nonce = s.nonce := rfl
@[simp] theorem State.setReg48_scr (lo hi v : Nat) : (s.setReg48 lo hi v).scr = s.scr := rfl
@[simp] theorem State.setReg48_cfg (lo hi v : Nat) : (s.setReg48 lo hi v).cfg = s.cfg := rfl
@[simp] theorem State.setReg48_lane (lo hi v : Nat) : (s.setReg48 lo hi v).lane = s.lane := rfl
@[simp] theorem State.setReg48_host (lo hi v : Nat) : (s.setReg48 lo hi v).host = s.host := rfl

/-! ### State.setReqs -/

@[simp] theorem State.setReqs_pending (rs : List Request) : (s.setReqs rs).pending = s.pending := rfl
@[simp] theorem State.setReqs_now (rs : List Request) : (s.setReqs rs).now = s.now := rfl
@[simp] theorem State.setReqs_epoch (rs : List Request) : (s.setReqs rs).epoch = s.epoch := rfl
@[simp] theorem State.setReqs_fresh (rs : List Request) : (s.setReqs rs).fresh = s.fresh := rfl
@[simp] theorem State.setReqs_regs (rs : List Request) : (s.setReqs rs).regs = s.regs := rfl
@[simp] theorem State.setReqs_logs (rs : List Request) : (s.setReqs rs).logs = s.logs := rfl
@[simp] theorem State.setReqs_agenda (rs : List Request) : (s.setReqs rs).agenda = s.agenda := rfl
@[simp] theorem State.setReqs_seen (rs : List Request) : (s.setReqs rs).seen = s.seen := rfl
@[simp] theorem State.setReqs_fuse (rs : List Request) : (s.setReqs rs).fuse = s.fuse := rfl
@[simp] theorem State.setReqs_fab (rs : List Request) : (s.setReqs rs).fab = s.fab := rfl
@[simp] theorem State.setReqs_noc (rs : List Request) : (s.setReqs rs).noc = { s.noc with reqs := rs } := rfl
@[simp] theorem State.setReqs_sch (rs : List Request) : (s.setReqs rs).sch = s.sch := rfl
@[simp] theorem State.setReqs_clk (rs : List Request) : (s.setReqs rs).clk = s.clk := rfl
@[simp] theorem State.setReqs_pwr (rs : List Request) : (s.setReqs rs).pwr = s.pwr := rfl
@[simp] theorem State.setReqs_stk (rs : List Request) : (s.setReqs rs).stk = s.stk := rfl
@[simp] theorem State.setReqs_pin (rs : List Request) : (s.setReqs rs).pin = s.pin := rfl
@[simp] theorem State.setReqs_brd (rs : List Request) : (s.setReqs rs).brd = s.brd := rfl
@[simp] theorem State.setReqs_cache (rs : List Request) : (s.setReqs rs).cache = s.cache := rfl
@[simp] theorem State.setReqs_scrub (rs : List Request) : (s.setReqs rs).scrub = s.scrub := rfl
@[simp] theorem State.setReqs_emc (rs : List Request) : (s.setReqs rs).emc = s.emc := rfl
@[simp] theorem State.setReqs_eng (rs : List Request) : (s.setReqs rs).eng = s.eng := rfl
@[simp] theorem State.setReqs_nonce (rs : List Request) : (s.setReqs rs).nonce = s.nonce := rfl
@[simp] theorem State.setReqs_scr (rs : List Request) : (s.setReqs rs).scr = s.scr := rfl
@[simp] theorem State.setReqs_cfg (rs : List Request) : (s.setReqs rs).cfg = s.cfg := rfl
@[simp] theorem State.setReqs_lane (rs : List Request) : (s.setReqs rs).lane = s.lane := rfl
@[simp] theorem State.setReqs_host (rs : List Request) : (s.setReqs rs).host = s.host := rfl

/-! ### State.mapReq -/

@[simp] theorem State.mapReq_pending (id : Nat) (f : Request → Request) : (s.mapReq id f).pending = s.pending := rfl
@[simp] theorem State.mapReq_now (id : Nat) (f : Request → Request) : (s.mapReq id f).now = s.now := rfl
@[simp] theorem State.mapReq_epoch (id : Nat) (f : Request → Request) : (s.mapReq id f).epoch = s.epoch := rfl
@[simp] theorem State.mapReq_fresh (id : Nat) (f : Request → Request) : (s.mapReq id f).fresh = s.fresh := rfl
@[simp] theorem State.mapReq_regs (id : Nat) (f : Request → Request) : (s.mapReq id f).regs = s.regs := rfl
@[simp] theorem State.mapReq_logs (id : Nat) (f : Request → Request) : (s.mapReq id f).logs = s.logs := rfl
@[simp] theorem State.mapReq_agenda (id : Nat) (f : Request → Request) : (s.mapReq id f).agenda = s.agenda := rfl
@[simp] theorem State.mapReq_seen (id : Nat) (f : Request → Request) : (s.mapReq id f).seen = s.seen := rfl
@[simp] theorem State.mapReq_fuse (id : Nat) (f : Request → Request) : (s.mapReq id f).fuse = s.fuse := rfl
@[simp] theorem State.mapReq_fab (id : Nat) (f : Request → Request) : (s.mapReq id f).fab = s.fab := rfl
@[simp] theorem State.mapReq_noc (id : Nat) (f : Request → Request) : (s.mapReq id f).noc = { s.noc with reqs := s.noc.reqs.map (fun r => if r.id = id then f r else r) } := rfl
@[simp] theorem State.mapReq_sch (id : Nat) (f : Request → Request) : (s.mapReq id f).sch = s.sch := rfl
@[simp] theorem State.mapReq_clk (id : Nat) (f : Request → Request) : (s.mapReq id f).clk = s.clk := rfl
@[simp] theorem State.mapReq_pwr (id : Nat) (f : Request → Request) : (s.mapReq id f).pwr = s.pwr := rfl
@[simp] theorem State.mapReq_stk (id : Nat) (f : Request → Request) : (s.mapReq id f).stk = s.stk := rfl
@[simp] theorem State.mapReq_pin (id : Nat) (f : Request → Request) : (s.mapReq id f).pin = s.pin := rfl
@[simp] theorem State.mapReq_brd (id : Nat) (f : Request → Request) : (s.mapReq id f).brd = s.brd := rfl
@[simp] theorem State.mapReq_cache (id : Nat) (f : Request → Request) : (s.mapReq id f).cache = s.cache := rfl
@[simp] theorem State.mapReq_scrub (id : Nat) (f : Request → Request) : (s.mapReq id f).scrub = s.scrub := rfl
@[simp] theorem State.mapReq_emc (id : Nat) (f : Request → Request) : (s.mapReq id f).emc = s.emc := rfl
@[simp] theorem State.mapReq_eng (id : Nat) (f : Request → Request) : (s.mapReq id f).eng = s.eng := rfl
@[simp] theorem State.mapReq_nonce (id : Nat) (f : Request → Request) : (s.mapReq id f).nonce = s.nonce := rfl
@[simp] theorem State.mapReq_scr (id : Nat) (f : Request → Request) : (s.mapReq id f).scr = s.scr := rfl
@[simp] theorem State.mapReq_cfg (id : Nat) (f : Request → Request) : (s.mapReq id f).cfg = s.cfg := rfl
@[simp] theorem State.mapReq_lane (id : Nat) (f : Request → Request) : (s.mapReq id f).lane = s.lane := rfl
@[simp] theorem State.mapReq_host (id : Nat) (f : Request → Request) : (s.mapReq id f).host = s.host := rfl

/-! ### State.addReq -/

@[simp] theorem State.addReq_pending (r : Request) : (s.addReq r).pending = s.pending := rfl
@[simp] theorem State.addReq_now (r : Request) : (s.addReq r).now = s.now := rfl
@[simp] theorem State.addReq_epoch (r : Request) : (s.addReq r).epoch = s.epoch := rfl
@[simp] theorem State.addReq_fresh (r : Request) : (s.addReq r).fresh = s.fresh := rfl
@[simp] theorem State.addReq_regs (r : Request) : (s.addReq r).regs = s.regs := rfl
@[simp] theorem State.addReq_logs (r : Request) : (s.addReq r).logs = s.logs := rfl
@[simp] theorem State.addReq_agenda (r : Request) : (s.addReq r).agenda = s.agenda := rfl
@[simp] theorem State.addReq_seen (r : Request) : (s.addReq r).seen = s.seen := rfl
@[simp] theorem State.addReq_fuse (r : Request) : (s.addReq r).fuse = s.fuse := rfl
@[simp] theorem State.addReq_fab (r : Request) : (s.addReq r).fab = s.fab := rfl
@[simp] theorem State.addReq_noc (r : Request) : (s.addReq r).noc = { s.noc with reqs := s.noc.reqs ++ [{ r with id := s.noc.nextId }], nextId := s.noc.nextId + 1 } := rfl
@[simp] theorem State.addReq_sch (r : Request) : (s.addReq r).sch = s.sch := rfl
@[simp] theorem State.addReq_clk (r : Request) : (s.addReq r).clk = s.clk := rfl
@[simp] theorem State.addReq_pwr (r : Request) : (s.addReq r).pwr = s.pwr := rfl
@[simp] theorem State.addReq_stk (r : Request) : (s.addReq r).stk = s.stk := rfl
@[simp] theorem State.addReq_pin (r : Request) : (s.addReq r).pin = s.pin := rfl
@[simp] theorem State.addReq_brd (r : Request) : (s.addReq r).brd = s.brd := rfl
@[simp] theorem State.addReq_cache (r : Request) : (s.addReq r).cache = s.cache := rfl
@[simp] theorem State.addReq_scrub (r : Request) : (s.addReq r).scrub = s.scrub := rfl
@[simp] theorem State.addReq_emc (r : Request) : (s.addReq r).emc = s.emc := rfl
@[simp] theorem State.addReq_eng (r : Request) : (s.addReq r).eng = s.eng := rfl
@[simp] theorem State.addReq_nonce (r : Request) : (s.addReq r).nonce = s.nonce := rfl
@[simp] theorem State.addReq_scr (r : Request) : (s.addReq r).scr = s.scr := rfl
@[simp] theorem State.addReq_cfg (r : Request) : (s.addReq r).cfg = s.cfg := rfl
@[simp] theorem State.addReq_lane (r : Request) : (s.addReq r).lane = s.lane := rfl
@[simp] theorem State.addReq_host (r : Request) : (s.addReq r).host = s.host := rfl

/-! ### State.setTargets -/

@[simp] theorem State.setTargets_pending (src bank stream : Nat) (l : List (Nat × Nat)) : (s.setTargets src bank stream l).pending = s.pending := rfl
@[simp] theorem State.setTargets_now (src bank stream : Nat) (l : List (Nat × Nat)) : (s.setTargets src bank stream l).now = s.now := rfl
@[simp] theorem State.setTargets_epoch (src bank stream : Nat) (l : List (Nat × Nat)) : (s.setTargets src bank stream l).epoch = s.epoch := rfl
@[simp] theorem State.setTargets_fresh (src bank stream : Nat) (l : List (Nat × Nat)) : (s.setTargets src bank stream l).fresh = s.fresh := rfl
@[simp] theorem State.setTargets_regs (src bank stream : Nat) (l : List (Nat × Nat)) : (s.setTargets src bank stream l).regs = s.regs := rfl
@[simp] theorem State.setTargets_logs (src bank stream : Nat) (l : List (Nat × Nat)) : (s.setTargets src bank stream l).logs = s.logs := rfl
@[simp] theorem State.setTargets_agenda (src bank stream : Nat) (l : List (Nat × Nat)) : (s.setTargets src bank stream l).agenda = s.agenda := rfl
@[simp] theorem State.setTargets_seen (src bank stream : Nat) (l : List (Nat × Nat)) : (s.setTargets src bank stream l).seen = s.seen := rfl
@[simp] theorem State.setTargets_fuse (src bank stream : Nat) (l : List (Nat × Nat)) : (s.setTargets src bank stream l).fuse = s.fuse := rfl
@[simp] theorem State.setTargets_fab (src bank stream : Nat) (l : List (Nat × Nat)) : (s.setTargets src bank stream l).fab = s.fab := rfl
@[simp] theorem State.setTargets_sch (src bank stream : Nat) (l : List (Nat × Nat)) : (s.setTargets src bank stream l).sch = s.sch := rfl
@[simp] theorem State.setTargets_clk (src bank stream : Nat) (l : List (Nat × Nat)) : (s.setTargets src bank stream l).clk = s.clk := rfl
@[simp] theorem State.setTargets_pwr (src bank stream : Nat) (l : List (Nat × Nat)) : (s.setTargets src bank stream l).pwr = s.pwr := rfl
@[simp] theorem State.setTargets_stk (src bank stream : Nat) (l : List (Nat × Nat)) : (s.setTargets src bank stream l).stk = s.stk := rfl
@[simp] theorem State.setTargets_pin (src bank stream : Nat) (l : List (Nat × Nat)) : (s.setTargets src bank stream l).pin = s.pin := rfl
@[simp] theorem State.setTargets_brd (src bank stream : Nat) (l : List (Nat × Nat)) : (s.setTargets src bank stream l).brd = s.brd := rfl
@[simp] theorem State.setTargets_cache (src bank stream : Nat) (l : List (Nat × Nat)) : (s.setTargets src bank stream l).cache = s.cache := rfl
@[simp] theorem State.setTargets_scrub (src bank stream : Nat) (l : List (Nat × Nat)) : (s.setTargets src bank stream l).scrub = s.scrub := rfl
@[simp] theorem State.setTargets_emc (src bank stream : Nat) (l : List (Nat × Nat)) : (s.setTargets src bank stream l).emc = s.emc := rfl
@[simp] theorem State.setTargets_eng (src bank stream : Nat) (l : List (Nat × Nat)) : (s.setTargets src bank stream l).eng = s.eng := rfl
@[simp] theorem State.setTargets_nonce (src bank stream : Nat) (l : List (Nat × Nat)) : (s.setTargets src bank stream l).nonce = s.nonce := rfl
@[simp] theorem State.setTargets_scr (src bank stream : Nat) (l : List (Nat × Nat)) : (s.setTargets src bank stream l).scr = s.scr := rfl
@[simp] theorem State.setTargets_cfg (src bank stream : Nat) (l : List (Nat × Nat)) : (s.setTargets src bank stream l).cfg = s.cfg := rfl
@[simp] theorem State.setTargets_lane (src bank stream : Nat) (l : List (Nat × Nat)) : (s.setTargets src bank stream l).lane = s.lane := rfl
@[simp] theorem State.setTargets_host (src bank stream : Nat) (l : List (Nat × Nat)) : (s.setTargets src bank stream l).host = s.host := rfl

/-! ### State.sweep -/

@[simp] theorem State.sweep_pending : (s.sweep).pending = s.pending := rfl
@[simp] theorem State.sweep_now : (s.sweep).now = s.now := rfl
@[simp] theorem State.sweep_epoch : (s.sweep).epoch = s.epoch := rfl
@[simp] theorem State.sweep_fresh : (s.sweep).fresh = s.fresh := rfl
@[simp] theorem State.sweep_regs : (s.sweep).regs = s.regs := rfl
@[simp] theorem State.sweep_logs : (s.sweep).logs = s.logs := rfl
@[simp] theorem State.sweep_agenda : (s.sweep).agenda = s.agenda := rfl
@[simp] theorem State.sweep_seen : (s.sweep).seen = s.seen := rfl
@[simp] theorem State.sweep_fuse : (s.sweep).fuse = s.fuse := rfl
@[simp] theorem State.sweep_fab : (s.sweep).fab = s.fab := rfl
@[simp] theorem State.sweep_noc : (s.sweep).noc = { s.noc with reqs := s.noc.reqs.filter (fun r => !r.finished) } := rfl
@[simp] theorem State.sweep_sch : (s.sweep).sch = s.sch := rfl
@[simp] theorem State.sweep_clk : (s.sweep).clk = s.clk := rfl
@[simp] theorem State.sweep_pwr : (s.sweep).pwr = s.pwr := rfl
@[simp] theorem State.sweep_stk : (s.sweep).stk = s.stk := rfl
@[simp] theorem State.sweep_pin : (s.sweep).pin = s.pin := rfl
@[simp] theorem State.sweep_brd : (s.sweep).brd = s.brd := rfl
@[simp] theorem State.sweep_cache : (s.sweep).cache = s.cache := rfl
@[simp] theorem State.sweep_scrub : (s.sweep).scrub = s.scrub := rfl
@[simp] theorem State.sweep_emc : (s.sweep).emc = s.emc := rfl
@[simp] theorem State.sweep_eng : (s.sweep).eng = s.eng := rfl
@[simp] theorem State.sweep_nonce : (s.sweep).nonce = s.nonce := rfl
@[simp] theorem State.sweep_scr : (s.sweep).scr = s.scr := rfl
@[simp] theorem State.sweep_cfg : (s.sweep).cfg = s.cfg := rfl
@[simp] theorem State.sweep_lane : (s.sweep).lane = s.lane := rfl
@[simp] theorem State.sweep_host : (s.sweep).host = s.host := rfl

/-! ### State.respond -/

@[simp] theorem State.respond_pending (id p : Nat) (x : Answer) : (s.respond id p x).pending = s.pending := rfl
@[simp] theorem State.respond_now (id p : Nat) (x : Answer) : (s.respond id p x).now = s.now := rfl
@[simp] theorem State.respond_epoch (id p : Nat) (x : Answer) : (s.respond id p x).epoch = s.epoch := rfl
@[simp] theorem State.respond_fresh (id p : Nat) (x : Answer) : (s.respond id p x).fresh = s.fresh := rfl
@[simp] theorem State.respond_regs (id p : Nat) (x : Answer) : (s.respond id p x).regs = s.regs := rfl
@[simp] theorem State.respond_logs (id p : Nat) (x : Answer) : (s.respond id p x).logs = s.logs := rfl
@[simp] theorem State.respond_agenda (id p : Nat) (x : Answer) : (s.respond id p x).agenda = s.agenda := rfl
@[simp] theorem State.respond_seen (id p : Nat) (x : Answer) : (s.respond id p x).seen = s.seen := rfl
@[simp] theorem State.respond_fuse (id p : Nat) (x : Answer) : (s.respond id p x).fuse = s.fuse := rfl
@[simp] theorem State.respond_fab (id p : Nat) (x : Answer) : (s.respond id p x).fab = s.fab := rfl
@[simp] theorem State.respond_sch (id p : Nat) (x : Answer) : (s.respond id p x).sch = s.sch := rfl
@[simp] theorem State.respond_clk (id p : Nat) (x : Answer) : (s.respond id p x).clk = s.clk := rfl
@[simp] theorem State.respond_pwr (id p : Nat) (x : Answer) : (s.respond id p x).pwr = s.pwr := rfl
@[simp] theorem State.respond_stk (id p : Nat) (x : Answer) : (s.respond id p x).stk = s.stk := rfl
@[simp] theorem State.respond_pin (id p : Nat) (x : Answer) : (s.respond id p x).pin = s.pin := rfl
@[simp] theorem State.respond_brd (id p : Nat) (x : Answer) : (s.respond id p x).brd = s.brd := rfl
@[simp] theorem State.respond_cache (id p : Nat) (x : Answer) : (s.respond id p x).cache = s.cache := rfl
@[simp] theorem State.respond_scrub (id p : Nat) (x : Answer) : (s.respond id p x).scrub = s.scrub := rfl
@[simp] theorem State.respond_emc (id p : Nat) (x : Answer) : (s.respond id p x).emc = s.emc := rfl
@[simp] theorem State.respond_eng (id p : Nat) (x : Answer) : (s.respond id p x).eng = s.eng := rfl
@[simp] theorem State.respond_nonce (id p : Nat) (x : Answer) : (s.respond id p x).nonce = s.nonce := rfl
@[simp] theorem State.respond_scr (id p : Nat) (x : Answer) : (s.respond id p x).scr = s.scr := rfl
@[simp] theorem State.respond_cfg (id p : Nat) (x : Answer) : (s.respond id p x).cfg = s.cfg := rfl
@[simp] theorem State.respond_lane (id p : Nat) (x : Answer) : (s.respond id p x).lane = s.lane := rfl
@[simp] theorem State.respond_host (id p : Nat) (x : Answer) : (s.respond id p x).host = s.host := rfl

/-! ### State.deliver -/

@[simp] theorem State.deliver_pending (d : Delivered) : (s.deliver d).pending = s.pending := rfl
@[simp] theorem State.deliver_now (d : Delivered) : (s.deliver d).now = s.now := rfl
@[simp] theorem State.deliver_epoch (d : Delivered) : (s.deliver d).epoch = s.epoch := rfl
@[simp] theorem State.deliver_fresh (d : Delivered) : (s.deliver d).fresh = s.fresh := rfl
@[simp] theorem State.deliver_regs (d : Delivered) : (s.deliver d).regs = s.regs := rfl
@[simp] theorem State.deliver_logs (d : Delivered) : (s.deliver d).logs = s.logs := rfl
@[simp] theorem State.deliver_agenda (d : Delivered) : (s.deliver d).agenda = s.agenda := rfl
@[simp] theorem State.deliver_seen (d : Delivered) : (s.deliver d).seen = s.seen := rfl
@[simp] theorem State.deliver_fuse (d : Delivered) : (s.deliver d).fuse = s.fuse := rfl
@[simp] theorem State.deliver_fab (d : Delivered) : (s.deliver d).fab = s.fab := rfl
@[simp] theorem State.deliver_noc (d : Delivered) : (s.deliver d).noc = { s.noc with inbox := s.noc.inbox ++ [d] } := rfl
@[simp] theorem State.deliver_sch (d : Delivered) : (s.deliver d).sch = s.sch := rfl
@[simp] theorem State.deliver_clk (d : Delivered) : (s.deliver d).clk = s.clk := rfl
@[simp] theorem State.deliver_pwr (d : Delivered) : (s.deliver d).pwr = s.pwr := rfl
@[simp] theorem State.deliver_stk (d : Delivered) : (s.deliver d).stk = s.stk := rfl
@[simp] theorem State.deliver_pin (d : Delivered) : (s.deliver d).pin = s.pin := rfl
@[simp] theorem State.deliver_brd (d : Delivered) : (s.deliver d).brd = s.brd := rfl
@[simp] theorem State.deliver_cache (d : Delivered) : (s.deliver d).cache = s.cache := rfl
@[simp] theorem State.deliver_scrub (d : Delivered) : (s.deliver d).scrub = s.scrub := rfl
@[simp] theorem State.deliver_emc (d : Delivered) : (s.deliver d).emc = s.emc := rfl
@[simp] theorem State.deliver_eng (d : Delivered) : (s.deliver d).eng = s.eng := rfl
@[simp] theorem State.deliver_nonce (d : Delivered) : (s.deliver d).nonce = s.nonce := rfl
@[simp] theorem State.deliver_scr (d : Delivered) : (s.deliver d).scr = s.scr := rfl
@[simp] theorem State.deliver_cfg (d : Delivered) : (s.deliver d).cfg = s.cfg := rfl
@[simp] theorem State.deliver_lane (d : Delivered) : (s.deliver d).lane = s.lane := rfl
@[simp] theorem State.deliver_host (d : Delivered) : (s.deliver d).host = s.host := rfl

/-! ### State.setRec -/

@[simp] theorem State.setRec_pending (i : Nat) (x : TallyRec) : (s.setRec i x).pending = s.pending := rfl
@[simp] theorem State.setRec_now (i : Nat) (x : TallyRec) : (s.setRec i x).now = s.now := rfl
@[simp] theorem State.setRec_epoch (i : Nat) (x : TallyRec) : (s.setRec i x).epoch = s.epoch := rfl
@[simp] theorem State.setRec_fresh (i : Nat) (x : TallyRec) : (s.setRec i x).fresh = s.fresh := rfl
@[simp] theorem State.setRec_regs (i : Nat) (x : TallyRec) : (s.setRec i x).regs = s.regs := rfl
@[simp] theorem State.setRec_logs (i : Nat) (x : TallyRec) : (s.setRec i x).logs = s.logs := rfl
@[simp] theorem State.setRec_agenda (i : Nat) (x : TallyRec) : (s.setRec i x).agenda = s.agenda := rfl
@[simp] theorem State.setRec_seen (i : Nat) (x : TallyRec) : (s.setRec i x).seen = s.seen := rfl
@[simp] theorem State.setRec_fuse (i : Nat) (x : TallyRec) : (s.setRec i x).fuse = s.fuse := rfl
@[simp] theorem State.setRec_fab (i : Nat) (x : TallyRec) : (s.setRec i x).fab = s.fab := rfl
@[simp] theorem State.setRec_noc (i : Nat) (x : TallyRec) : (s.setRec i x).noc = s.noc := rfl
@[simp] theorem State.setRec_sch (i : Nat) (x : TallyRec) : (s.setRec i x).sch = { s.sch with recs := tput (fun _ => recZero) s.sch.recs i x } := rfl
@[simp] theorem State.setRec_clk (i : Nat) (x : TallyRec) : (s.setRec i x).clk = s.clk := rfl
@[simp] theorem State.setRec_pwr (i : Nat) (x : TallyRec) : (s.setRec i x).pwr = s.pwr := rfl
@[simp] theorem State.setRec_stk (i : Nat) (x : TallyRec) : (s.setRec i x).stk = s.stk := rfl
@[simp] theorem State.setRec_pin (i : Nat) (x : TallyRec) : (s.setRec i x).pin = s.pin := rfl
@[simp] theorem State.setRec_brd (i : Nat) (x : TallyRec) : (s.setRec i x).brd = s.brd := rfl
@[simp] theorem State.setRec_cache (i : Nat) (x : TallyRec) : (s.setRec i x).cache = s.cache := rfl
@[simp] theorem State.setRec_scrub (i : Nat) (x : TallyRec) : (s.setRec i x).scrub = s.scrub := rfl
@[simp] theorem State.setRec_emc (i : Nat) (x : TallyRec) : (s.setRec i x).emc = s.emc := rfl
@[simp] theorem State.setRec_eng (i : Nat) (x : TallyRec) : (s.setRec i x).eng = s.eng := rfl
@[simp] theorem State.setRec_nonce (i : Nat) (x : TallyRec) : (s.setRec i x).nonce = s.nonce := rfl
@[simp] theorem State.setRec_scr (i : Nat) (x : TallyRec) : (s.setRec i x).scr = s.scr := rfl
@[simp] theorem State.setRec_cfg (i : Nat) (x : TallyRec) : (s.setRec i x).cfg = s.cfg := rfl
@[simp] theorem State.setRec_lane (i : Nat) (x : TallyRec) : (s.setRec i x).lane = s.lane := rfl
@[simp] theorem State.setRec_host (i : Nat) (x : TallyRec) : (s.setRec i x).host = s.host := rfl

/-! ### State.setSreg -/

@[simp] theorem State.setSreg_pending (r : Nat) (x : SchRegion) : (s.setSreg r x).pending = s.pending := rfl
@[simp] theorem State.setSreg_now (r : Nat) (x : SchRegion) : (s.setSreg r x).now = s.now := rfl
@[simp] theorem State.setSreg_epoch (r : Nat) (x : SchRegion) : (s.setSreg r x).epoch = s.epoch := rfl
@[simp] theorem State.setSreg_fresh (r : Nat) (x : SchRegion) : (s.setSreg r x).fresh = s.fresh := rfl
@[simp] theorem State.setSreg_regs (r : Nat) (x : SchRegion) : (s.setSreg r x).regs = s.regs := rfl
@[simp] theorem State.setSreg_logs (r : Nat) (x : SchRegion) : (s.setSreg r x).logs = s.logs := rfl
@[simp] theorem State.setSreg_agenda (r : Nat) (x : SchRegion) : (s.setSreg r x).agenda = s.agenda := rfl
@[simp] theorem State.setSreg_seen (r : Nat) (x : SchRegion) : (s.setSreg r x).seen = s.seen := rfl
@[simp] theorem State.setSreg_fuse (r : Nat) (x : SchRegion) : (s.setSreg r x).fuse = s.fuse := rfl
@[simp] theorem State.setSreg_fab (r : Nat) (x : SchRegion) : (s.setSreg r x).fab = s.fab := rfl
@[simp] theorem State.setSreg_noc (r : Nat) (x : SchRegion) : (s.setSreg r x).noc = s.noc := rfl
@[simp] theorem State.setSreg_sch (r : Nat) (x : SchRegion) : (s.setSreg r x).sch = { s.sch with region := tput (fun _ => SchRegion.idle) s.sch.region r x } := rfl
@[simp] theorem State.setSreg_clk (r : Nat) (x : SchRegion) : (s.setSreg r x).clk = s.clk := rfl
@[simp] theorem State.setSreg_pwr (r : Nat) (x : SchRegion) : (s.setSreg r x).pwr = s.pwr := rfl
@[simp] theorem State.setSreg_stk (r : Nat) (x : SchRegion) : (s.setSreg r x).stk = s.stk := rfl
@[simp] theorem State.setSreg_pin (r : Nat) (x : SchRegion) : (s.setSreg r x).pin = s.pin := rfl
@[simp] theorem State.setSreg_brd (r : Nat) (x : SchRegion) : (s.setSreg r x).brd = s.brd := rfl
@[simp] theorem State.setSreg_cache (r : Nat) (x : SchRegion) : (s.setSreg r x).cache = s.cache := rfl
@[simp] theorem State.setSreg_scrub (r : Nat) (x : SchRegion) : (s.setSreg r x).scrub = s.scrub := rfl
@[simp] theorem State.setSreg_emc (r : Nat) (x : SchRegion) : (s.setSreg r x).emc = s.emc := rfl
@[simp] theorem State.setSreg_eng (r : Nat) (x : SchRegion) : (s.setSreg r x).eng = s.eng := rfl
@[simp] theorem State.setSreg_nonce (r : Nat) (x : SchRegion) : (s.setSreg r x).nonce = s.nonce := rfl
@[simp] theorem State.setSreg_scr (r : Nat) (x : SchRegion) : (s.setSreg r x).scr = s.scr := rfl
@[simp] theorem State.setSreg_cfg (r : Nat) (x : SchRegion) : (s.setSreg r x).cfg = s.cfg := rfl
@[simp] theorem State.setSreg_lane (r : Nat) (x : SchRegion) : (s.setSreg r x).lane = s.lane := rfl
@[simp] theorem State.setSreg_host (r : Nat) (x : SchRegion) : (s.setSreg r x).host = s.host := rfl

/-! ### State.setTokens -/

@[simp] theorem State.setTokens_pending (src : Nat) (l : List Token) : (s.setTokens src l).pending = s.pending := rfl
@[simp] theorem State.setTokens_now (src : Nat) (l : List Token) : (s.setTokens src l).now = s.now := rfl
@[simp] theorem State.setTokens_epoch (src : Nat) (l : List Token) : (s.setTokens src l).epoch = s.epoch := rfl
@[simp] theorem State.setTokens_fresh (src : Nat) (l : List Token) : (s.setTokens src l).fresh = s.fresh := rfl
@[simp] theorem State.setTokens_regs (src : Nat) (l : List Token) : (s.setTokens src l).regs = s.regs := rfl
@[simp] theorem State.setTokens_logs (src : Nat) (l : List Token) : (s.setTokens src l).logs = s.logs := rfl
@[simp] theorem State.setTokens_agenda (src : Nat) (l : List Token) : (s.setTokens src l).agenda = s.agenda := rfl
@[simp] theorem State.setTokens_seen (src : Nat) (l : List Token) : (s.setTokens src l).seen = s.seen := rfl
@[simp] theorem State.setTokens_fuse (src : Nat) (l : List Token) : (s.setTokens src l).fuse = s.fuse := rfl
@[simp] theorem State.setTokens_fab (src : Nat) (l : List Token) : (s.setTokens src l).fab = s.fab := rfl
@[simp] theorem State.setTokens_noc (src : Nat) (l : List Token) : (s.setTokens src l).noc = s.noc := rfl
@[simp] theorem State.setTokens_clk (src : Nat) (l : List Token) : (s.setTokens src l).clk = s.clk := rfl
@[simp] theorem State.setTokens_pwr (src : Nat) (l : List Token) : (s.setTokens src l).pwr = s.pwr := rfl
@[simp] theorem State.setTokens_stk (src : Nat) (l : List Token) : (s.setTokens src l).stk = s.stk := rfl
@[simp] theorem State.setTokens_pin (src : Nat) (l : List Token) : (s.setTokens src l).pin = s.pin := rfl
@[simp] theorem State.setTokens_brd (src : Nat) (l : List Token) : (s.setTokens src l).brd = s.brd := rfl
@[simp] theorem State.setTokens_cache (src : Nat) (l : List Token) : (s.setTokens src l).cache = s.cache := rfl
@[simp] theorem State.setTokens_scrub (src : Nat) (l : List Token) : (s.setTokens src l).scrub = s.scrub := rfl
@[simp] theorem State.setTokens_emc (src : Nat) (l : List Token) : (s.setTokens src l).emc = s.emc := rfl
@[simp] theorem State.setTokens_eng (src : Nat) (l : List Token) : (s.setTokens src l).eng = s.eng := rfl
@[simp] theorem State.setTokens_nonce (src : Nat) (l : List Token) : (s.setTokens src l).nonce = s.nonce := rfl
@[simp] theorem State.setTokens_scr (src : Nat) (l : List Token) : (s.setTokens src l).scr = s.scr := rfl
@[simp] theorem State.setTokens_cfg (src : Nat) (l : List Token) : (s.setTokens src l).cfg = s.cfg := rfl
@[simp] theorem State.setTokens_lane (src : Nat) (l : List Token) : (s.setTokens src l).lane = s.lane := rfl
@[simp] theorem State.setTokens_host (src : Nat) (l : List Token) : (s.setTokens src l).host = s.host := rfl

/-! ### State.setRegion -/

@[simp] theorem State.setRegion_pending (r : Nat) (x : Region) : (s.setRegion r x).pending = s.pending := rfl
@[simp] theorem State.setRegion_now (r : Nat) (x : Region) : (s.setRegion r x).now = s.now := rfl
@[simp] theorem State.setRegion_epoch (r : Nat) (x : Region) : (s.setRegion r x).epoch = s.epoch := rfl
@[simp] theorem State.setRegion_fresh (r : Nat) (x : Region) : (s.setRegion r x).fresh = s.fresh := rfl
@[simp] theorem State.setRegion_regs (r : Nat) (x : Region) : (s.setRegion r x).regs = s.regs := rfl
@[simp] theorem State.setRegion_logs (r : Nat) (x : Region) : (s.setRegion r x).logs = s.logs := rfl
@[simp] theorem State.setRegion_agenda (r : Nat) (x : Region) : (s.setRegion r x).agenda = s.agenda := rfl
@[simp] theorem State.setRegion_seen (r : Nat) (x : Region) : (s.setRegion r x).seen = s.seen := rfl
@[simp] theorem State.setRegion_fuse (r : Nat) (x : Region) : (s.setRegion r x).fuse = s.fuse := rfl
@[simp] theorem State.setRegion_noc (r : Nat) (x : Region) : (s.setRegion r x).noc = s.noc := rfl
@[simp] theorem State.setRegion_sch (r : Nat) (x : Region) : (s.setRegion r x).sch = s.sch := rfl
@[simp] theorem State.setRegion_clk (r : Nat) (x : Region) : (s.setRegion r x).clk = s.clk := rfl
@[simp] theorem State.setRegion_pwr (r : Nat) (x : Region) : (s.setRegion r x).pwr = s.pwr := rfl
@[simp] theorem State.setRegion_stk (r : Nat) (x : Region) : (s.setRegion r x).stk = s.stk := rfl
@[simp] theorem State.setRegion_pin (r : Nat) (x : Region) : (s.setRegion r x).pin = s.pin := rfl
@[simp] theorem State.setRegion_brd (r : Nat) (x : Region) : (s.setRegion r x).brd = s.brd := rfl
@[simp] theorem State.setRegion_cache (r : Nat) (x : Region) : (s.setRegion r x).cache = s.cache := rfl
@[simp] theorem State.setRegion_scrub (r : Nat) (x : Region) : (s.setRegion r x).scrub = s.scrub := rfl
@[simp] theorem State.setRegion_emc (r : Nat) (x : Region) : (s.setRegion r x).emc = s.emc := rfl
@[simp] theorem State.setRegion_eng (r : Nat) (x : Region) : (s.setRegion r x).eng = s.eng := rfl
@[simp] theorem State.setRegion_nonce (r : Nat) (x : Region) : (s.setRegion r x).nonce = s.nonce := rfl
@[simp] theorem State.setRegion_scr (r : Nat) (x : Region) : (s.setRegion r x).scr = s.scr := rfl
@[simp] theorem State.setRegion_cfg (r : Nat) (x : Region) : (s.setRegion r x).cfg = s.cfg := rfl
@[simp] theorem State.setRegion_lane (r : Nat) (x : Region) : (s.setRegion r x).lane = s.lane := rfl
@[simp] theorem State.setRegion_host (r : Nat) (x : Region) : (s.setRegion r x).host = s.host := rfl

/-! ### State.setEngine -/

@[simp] theorem State.setEngine_pending (n : Nat) (e : Eng) : (s.setEngine n e).pending = s.pending := rfl
@[simp] theorem State.setEngine_now (n : Nat) (e : Eng) : (s.setEngine n e).now = s.now := rfl
@[simp] theorem State.setEngine_epoch (n : Nat) (e : Eng) : (s.setEngine n e).epoch = s.epoch := rfl
@[simp] theorem State.setEngine_fresh (n : Nat) (e : Eng) : (s.setEngine n e).fresh = s.fresh := rfl
@[simp] theorem State.setEngine_regs (n : Nat) (e : Eng) : (s.setEngine n e).regs = s.regs := rfl
@[simp] theorem State.setEngine_logs (n : Nat) (e : Eng) : (s.setEngine n e).logs = s.logs := rfl
@[simp] theorem State.setEngine_agenda (n : Nat) (e : Eng) : (s.setEngine n e).agenda = s.agenda := rfl
@[simp] theorem State.setEngine_seen (n : Nat) (e : Eng) : (s.setEngine n e).seen = s.seen := rfl
@[simp] theorem State.setEngine_fuse (n : Nat) (e : Eng) : (s.setEngine n e).fuse = s.fuse := rfl
@[simp] theorem State.setEngine_fab (n : Nat) (e : Eng) : (s.setEngine n e).fab = s.fab := rfl
@[simp] theorem State.setEngine_noc (n : Nat) (e : Eng) : (s.setEngine n e).noc = s.noc := rfl
@[simp] theorem State.setEngine_sch (n : Nat) (e : Eng) : (s.setEngine n e).sch = s.sch := rfl
@[simp] theorem State.setEngine_clk (n : Nat) (e : Eng) : (s.setEngine n e).clk = s.clk := rfl
@[simp] theorem State.setEngine_pwr (n : Nat) (e : Eng) : (s.setEngine n e).pwr = s.pwr := rfl
@[simp] theorem State.setEngine_stk (n : Nat) (e : Eng) : (s.setEngine n e).stk = s.stk := rfl
@[simp] theorem State.setEngine_pin (n : Nat) (e : Eng) : (s.setEngine n e).pin = s.pin := rfl
@[simp] theorem State.setEngine_brd (n : Nat) (e : Eng) : (s.setEngine n e).brd = s.brd := rfl
@[simp] theorem State.setEngine_cache (n : Nat) (e : Eng) : (s.setEngine n e).cache = s.cache := rfl
@[simp] theorem State.setEngine_scrub (n : Nat) (e : Eng) : (s.setEngine n e).scrub = s.scrub := rfl
@[simp] theorem State.setEngine_emc (n : Nat) (e : Eng) : (s.setEngine n e).emc = s.emc := rfl
@[simp] theorem State.setEngine_eng (n : Nat) (e : Eng) : (s.setEngine n e).eng = tput (fun _ => Eng.idle) s.eng n e := rfl
@[simp] theorem State.setEngine_nonce (n : Nat) (e : Eng) : (s.setEngine n e).nonce = s.nonce := rfl
@[simp] theorem State.setEngine_scr (n : Nat) (e : Eng) : (s.setEngine n e).scr = s.scr := rfl
@[simp] theorem State.setEngine_cfg (n : Nat) (e : Eng) : (s.setEngine n e).cfg = s.cfg := rfl
@[simp] theorem State.setEngine_lane (n : Nat) (e : Eng) : (s.setEngine n e).lane = s.lane := rfl
@[simp] theorem State.setEngine_host (n : Nat) (e : Eng) : (s.setEngine n e).host = s.host := rfl

end Sys2Proof.Machine
end

