-- ==== Sys2Proof/Laws/Table.lean ====
section
/-!
SUPPORT. The laws of sparse tables: a read after a write, and the canonical form.
-/
namespace Sys2Proof.Machine

variable {α : Type}

/-- Every key of the table lies above `k`. -/
def above (k : Nat) (t : Table α) : Prop := ∀ p ∈ t, k < p.1

theorem tsorted_cons (p : Nat × α) (t : Table α) : tsorted (p :: t) = true ↔ above p.1 t ∧ tsorted t = true := by
  induction t generalizing p with
  | nil => simp [tsorted, above]
  | cons q t ih =>
    obtain ⟨k, v⟩ := p
    obtain ⟨k', v'⟩ := q
    simp only [tsorted, Bool.and_eq_true, decide_eq_true_eq, above, List.forall_mem_cons]
    constructor
    · rintro ⟨h, ht⟩
      refine ⟨⟨h, fun x hx => ?_⟩, ht⟩
      exact Nat.lt_trans h (((ih (k', v')).1 ht).1 x hx)
    · rintro ⟨⟨h, -⟩, ht⟩
      exact ⟨h, ht⟩

theorem tsorted_filter (f : Nat × α → Bool) (t : Table α) (h : tsorted t = true) : tsorted (t.filter f) = true := by
  induction t with
  | nil => rfl
  | cons p t ih =>
    rw [tsorted_cons] at h
    by_cases hp : f p = true
    · rw [List.filter_cons_of_pos hp, tsorted_cons]
      exact ⟨fun x hx => h.1 x (List.mem_filter.1 hx).1, ih h.2⟩
    · rw [List.filter_cons_of_neg hp]
      exact ih h.2

theorem mem_tinsOrd (k : Nat) (v : α) (t : Table α) (x : Nat × α) : x ∈ tinsOrd k v t ↔ x = (k, v) ∨ x ∈ t := by
  induction t with
  | nil => simp [tinsOrd]
  | cons p t ih =>
    obtain ⟨k', v'⟩ := p
    unfold tinsOrd
    split
    · simp
    · rw [List.mem_cons, ih, List.mem_cons]
      exact or_left_comm

theorem tsorted_tinsOrd (k : Nat) (v : α) (t : Table α) (h : tsorted t = true) (hk : ∀ p ∈ t, p.1 ≠ k) :
    tsorted (tinsOrd k v t) = true := by
  induction t with
  | nil => rfl
  | cons p t ih =>
    obtain ⟨k', v'⟩ := p
    have h' := (tsorted_cons _ _).1 h
    have hne : k' ≠ k := hk _ (List.mem_cons_self ..)
    unfold tinsOrd
    split
    · rename_i hlt
      rw [tsorted_cons]
      refine ⟨fun x hx => ?_, h⟩
      rcases List.mem_cons.1 hx with rfl | hx
      · exact hlt
      · exact Nat.lt_trans hlt (h'.1 x hx)
    · rename_i hlt
      rw [tsorted_cons]
      refine ⟨fun x hx => ?_, ih h'.2 (fun p hp => hk p (List.mem_cons_of_mem _ hp))⟩
      rcases (mem_tinsOrd _ _ _ _).1 hx with rfl | hx
      · show k' < k
        omega
      · exact h'.1 x hx

/-- `tdel` and `tins` keep rising keys. -/
theorem tsorted_tdel (t : Table α) (k : Nat) (h : tsorted t = true) : tsorted (tdel t k) = true := tsorted_filter _ _ h

theorem tsorted_tins (t : Table α) (k : Nat) (v : α) (h : tsorted t = true) : tsorted (tins t k v) = true :=
  tsorted_tinsOrd k v _ (tsorted_tdel t k h) (fun p hp => by simpa [tdel] using (List.mem_filter.1 hp).2)

theorem twf_iff [DecidableEq α] (d : Nat → α) (t : Table α) :
    twf d t = true ↔ tsorted t = true ∧ ∀ p ∈ t, p.2 ≠ d p.1 := by simp [twf]

theorem twf_filter [DecidableEq α] (d : Nat → α) (f : Nat × α → Bool) (t : Table α) (h : twf d t = true) : twf d (t.filter f) = true := by
  rw [twf_iff] at *
  exact ⟨tsorted_filter _ _ h.1, fun p hp => h.2 p (List.mem_filter.1 hp).1⟩

/-- A write keeps the canonical form. -/
theorem twf_tput [DecidableEq α] (d : Nat → α) (t : Table α) (k : Nat) (v : α) (h : twf d t = true) : twf d (tput d t k v) = true := by
  unfold tput
  split
  · exact twf_filter _ _ _ h
  · rename_i hv
    rw [twf_iff] at *
    refine ⟨tsorted_tins _ _ _ h.1, fun p hp => ?_⟩
    rcases (mem_tinsOrd _ _ _ _).1 hp with rfl | hp
    · exact hv
    · exact h.2 p (List.mem_filter.1 hp).1

/-! ### Reads after writes -/

theorem tfind_tdel_same (t : Table α) (k : Nat) : tfind (tdel t k) k = none := by
  induction t with
  | nil => rfl
  | cons p t ih =>
    obtain ⟨k', v'⟩ := p
    by_cases h : k' = k
    · subst h; simpa [tdel] using ih
    · have : tdel ((k', v') :: t) k = (k', v') :: tdel t k := by simp [tdel, h]
      rw [this, tfind, if_neg (Ne.symm h), ih]

theorem tfind_tdel_ne (t : Table α) {k j : Nat} (h : j ≠ k) : tfind (tdel t k) j = tfind t j := by
  induction t with
  | nil => rfl
  | cons p t ih =>
    obtain ⟨k', v'⟩ := p
    by_cases hk : k' = k
    · subst hk
      have : tdel ((k', v') :: t) k' = tdel t k' := by simp [tdel]
      rw [this, ih, tfind, if_neg h]
    · have : tdel ((k', v') :: t) k = (k', v') :: tdel t k := by simp [tdel, hk]
      rw [this, tfind, tfind, ih]

theorem tfind_tinsOrd_same (t : Table α) (k : Nat) (v : α) (h : tfind t k = none) : tfind (tinsOrd k v t) k = some v := by
  induction t with
  | nil => simp [tinsOrd, tfind]
  | cons p t ih =>
    obtain ⟨k', v'⟩ := p
    unfold tfind at h
    split at h
    · cases h
    · rename_i hne
      unfold tinsOrd
      split
      · simp [tfind]
      · rw [tfind, if_neg hne]
        exact ih h

theorem tfind_tinsOrd_ne (t : Table α) {k j : Nat} (v : α) (h : j ≠ k) : tfind (tinsOrd k v t) j = tfind t j := by
  induction t with
  | nil => simp [tinsOrd, tfind, h]
  | cons p t ih =>
    obtain ⟨k', v'⟩ := p
    unfold tinsOrd
    split
    · simp [tfind, h]
    · rw [tfind, tfind, ih]

@[simp] theorem tfind_tins_same (t : Table α) (k : Nat) (v : α) : tfind (tins t k v) k = some v :=
  tfind_tinsOrd_same _ _ _ (tfind_tdel_same _ _)

theorem tfind_tins_ne (t : Table α) {k j : Nat} (v : α) (h : j ≠ k) : tfind (tins t k v) j = tfind t j := by
  rw [tins, tfind_tinsOrd_ne _ _ h, tfind_tdel_ne _ h]

/-- The key written reads as the value written. -/
@[simp] theorem tget_tput_same [DecidableEq α] (d : Nat → α) (t : Table α) (k : Nat) (v : α) : tget d (tput d t k v) k = v := by
  by_cases h : v = d k
  · subst h; simp only [tput, if_true, tget, tfind_tdel_same]
  · simp only [tput, if_neg h, tget, tfind_tins_same]

/-- Every other key reads as before. -/
theorem tget_tput_ne [DecidableEq α] (d : Nat → α) (t : Table α) {k j : Nat} (v : α) (h : j ≠ k) : tget d (tput d t k v) j = tget d t j := by
  by_cases hv : v = d k
  · simp only [tput, if_pos hv, tget, tfind_tdel_ne _ h]
  · simp only [tput, if_neg hv, tget, tfind_tins_ne _ _ h]

end Sys2Proof.Machine
end

