-- ==== Sys2Proof/Laws/Reg.lean ====
section
/-!
SUPPORT. The laws of registers and their fields: a read after a write, the other registers, and the canonical form.
-/
namespace Sys2Proof.Machine

@[simp] theorem State.reg_setReg_same (s : State) (a : Nat) (w : Word32) : (s.setReg a w).reg a = w := by
  simp [State.reg]

theorem State.reg_setReg_ne (s : State) {a b : Nat} (w : Word32) (h : b ≠ a) : (s.setReg a w).reg b = s.reg b := by
  simp [State.reg, tget_tput_ne _ _ _ h]

theorem State.reg_setFld_ne (s : State) {a b : Nat} (f : Field) (v : Nat) (h : b ≠ a) : (s.setFld a f v).reg b = s.reg b :=
  s.reg_setReg_ne _ h

@[simp] theorem State.reg_setFld_same (s : State) (a : Nat) (f : Field) (v : Nat) : (s.setFld a f v).reg a = fieldPut (s.reg a) f v :=
  s.reg_setReg_same _ _

theorem State.fld_setFld_ne (s : State) {a b : Nat} (f g : Field) (v : Nat) (h : b ≠ a) : (s.setFld a f v).fld b g = s.fld b g := by
  simp [State.fld, s.reg_setFld_ne f v h]

/-- A register update keeps the registers canonical. -/
theorem State.regsWf_setReg (s : State) (a : Nat) (w : Word32) (h : s.regsWf = true) : (s.setReg a w).regsWf = true :=
  twf_tput _ _ _ _ h

theorem State.regsWf_setFld (s : State) (a : Nat) (f : Field) (v : Nat) (h : s.regsWf = true) : (s.setFld a f v).regsWf = true :=
  s.regsWf_setReg _ _ h

theorem State.regsWf_bump (s : State) (a : Nat) (f : Field) (n : Nat) (h : s.regsWf = true) : (s.bump a f n).regsWf = true :=
  s.regsWf_setFld _ _ _ h

theorem State.regsWf_bumpWrap (s : State) (a : Nat) (f : Field) (n : Nat) (h : s.regsWf = true) : (s.bumpWrap a f n).regsWf = true :=
  s.regsWf_setFld _ _ _ h

theorem State.regsWf_setReg48 (s : State) (lo hi v : Nat) (h : s.regsWf = true) : (s.setReg48 lo hi v).regsWf = true :=
  State.regsWf_setReg _ _ _ (s.regsWf_setReg _ _ h)

/-! ### Fields -/

/-- A mask of `n` bits from bit `i`, bit by bit. -/
theorem testBit_span (n i k : Nat) : ((2 ^ n - 1) * 2 ^ i).testBit k = decide (i ≤ k ∧ k < i + n) := by
  rw [Nat.testBit_mul_two_pow, Nat.testBit_two_pow_sub_one]
  by_cases h : i ≤ k
  · simp [h]; omega
  · simp [h]

theorem testBit_place (n i v k : Nat) : (v % 2 ^ n * 2 ^ i).testBit k = (decide (i ≤ k ∧ k < i + n) && v.testBit (k - i)) := by
  rw [Nat.testBit_mul_two_pow, Nat.testBit_mod_two_pow]
  by_cases h : i ≤ k
  · by_cases h2 : k - i < n
    · have : k < i + n := by omega
      simp [h, h2, this]
    · have : ¬ k < i + n := by omega
      simp [h, h2, this]
  · simp [h]

theorem fieldPut_getLsbD (w : Word32) (f : Field) (v k : Nat) (hk : k < 32) :
    (fieldPut w f v).getLsbD k = if f.lo ≤ k ∧ k < f.lo + f.width then v.testBit (k - f.lo) else w.getLsbD k := by
  simp only [fieldPut, Field.mask, BitVec.getLsbD_or, BitVec.getLsbD_and, BitVec.getLsbD_not, BitVec.getLsbD_ofNat, hk, decide_true,
    Bool.true_and, testBit_span, testBit_place]
  by_cases h : f.lo ≤ k ∧ k < f.lo + f.width <;> simp [h]

theorem fieldGet_testBit (w : Word32) (f : Field) (k : Nat) :
    (fieldGet w f).testBit k = (decide (k < f.width) && w.getLsbD (f.lo + k)) := by
  rw [fieldGet, Nat.testBit_mod_two_pow, Nat.testBit_div_two_pow, BitVec.testBit_toNat, Nat.add_comm]

/-- A field holds what was put into it, cut to its width. -/
theorem fieldGet_put_same (w : Word32) (f : Field) (v : Nat) (h : f.lo + f.width ≤ 32) : fieldGet (fieldPut w f v) f = v % 2 ^ f.width := by
  apply Nat.eq_of_testBit_eq
  intro k
  rw [fieldGet_testBit, Nat.testBit_mod_two_pow]
  by_cases hk : k < f.width
  · rw [fieldPut_getLsbD _ _ _ _ (by omega), if_pos (by omega)]
    simp
  · simp [hk]

/-- A field that shares no bit with `f` keeps its value. -/
theorem fieldGet_put_ne (w : Word32) (f g : Field) (v : Nat) (hg : g.lo + g.width ≤ 32)
    (h : g.lo + g.width ≤ f.lo ∨ f.lo + f.width ≤ g.lo) : fieldGet (fieldPut w f v) g = fieldGet w g := by
  apply Nat.eq_of_testBit_eq
  intro k
  rw [fieldGet_testBit, fieldGet_testBit]
  by_cases hk : k < g.width
  · rw [fieldPut_getLsbD _ _ _ _ (by omega), if_neg (by omega)]
  · simp [hk]

/-- The field of a register that has been set. -/
theorem State.fld_setFld_same (s : State) (a : Nat) (f : Field) (v : Nat) (h : f.lo + f.width ≤ 32) :
    (s.setFld a f v).fld a f = v % 2 ^ f.width := by
  rw [State.fld, s.reg_setFld_same, fieldGet_put_same _ _ _ h]

theorem State.fld_setFld_other (s : State) (a : Nat) (f g : Field) (v : Nat) (hg : g.lo + g.width ≤ 32)
    (h : g.lo + g.width ≤ f.lo ∨ f.lo + f.width ≤ g.lo) : (s.setFld a f v).fld a g = s.fld a g := by
  rw [State.fld, State.fld, s.reg_setFld_same, fieldGet_put_ne _ _ _ _ hg h]

end Sys2Proof.Machine
end

