-- ==== Sys2Proof/Laws/Memory.lean ====
section
/-!
SUPPORT. The laws of the memories: every operation that writes a word keeps the canonical form of its memory, a word written is read back, and
every other word reads as before.
-/
namespace Sys2Proof.Machine

/-! ### Scratch banks -/

theorem Scr.wf_iff (x : Scr) :
    x.wf = true ↔ tsorted x.mem = true ∧ ∀ p ∈ x.mem, ¬ (x.zeroed.contains (p.1 / 32768) = true ∧ p.2 = encodeWord 0) := by
  simp only [Scr.wf, Bool.and_eq_true, List.all_eq_true, Bool.not_eq_true', Bool.and_eq_false_iff, decide_eq_false_iff_not]
  refine and_congr_right fun _ => forall_congr' fun p => forall_congr' fun _ => ?_
  cases x.zeroed.contains (p.1 / 32768) <;> simp

theorem State.scrWf_setScr (s : State) (b w : Nat) (v : Word72) (hb : w < 32768) (h : s.scr.wf = true) : (s.setScr b w v).scr.wf = true := by
  rw [Scr.wf_iff] at *
  have key : (b * 32768 + w) / 32768 = b := by omega
  unfold State.setScr scrKey
  simp only
  split
  · exact ⟨tsorted_tdel _ _ h.1, fun p hp => h.2 p (List.mem_filter.1 hp).1⟩
  · rename_i hz
    refine ⟨tsorted_tins _ _ _ h.1, fun p hp => ?_⟩
    rcases (mem_tinsOrd _ _ _ _).1 hp with rfl | hp
    · simpa [key] using hz
    · exact h.2 p (List.mem_filter.1 hp).1

/-! ### Stacked cache, external memory, image store -/

theorem State.cacheWf_setCacheWord (s : State) (line i : Nat) (v : Word72) (h : twf (fun _ => 0) s.cache.mem = true) :
    twf (fun _ => 0) (s.setCacheWord line i v).cache.mem = true := twf_tput _ _ _ _ h

theorem State.cacheWord_setCacheWord_same (s : State) (line i : Nat) (v : Word72) : (s.setCacheWord line i v).cacheWord line i = v := by
  simp [State.cacheWord, State.setCacheWord]

theorem State.cacheWord_setCacheWord_ne (s : State) {line i l j : Nat} (v : Word72) (h : 32 * l + j ≠ 32 * line + i) :
    (s.setCacheWord line i v).cacheWord l j = s.cacheWord l j := by
  simp [State.cacheWord, State.setCacheWord, tget_tput_ne _ _ _ h]

theorem State.emcWf_setDram (s : State) (c w : Nat) (v : BitVec 80) (h : twf (fun _ => 0) s.emc.mem = true) :
    twf (fun _ => 0) (s.setDram c w v).emc.mem = true := twf_tput _ _ _ _ h

theorem State.dram_setDram_same (s : State) (c w : Nat) (v : BitVec 80) : (s.setDram c w v).dram c w = v := by
  simp [State.dram, State.setDram]

theorem State.dram_setDram_ne (s : State) {c w d x : Nat} (v : BitVec 80) (h : dramKey d x ≠ dramKey c w) :
    (s.setDram c w v).dram d x = s.dram d x := by
  simp [State.dram, State.setDram, tget_tput_ne _ _ _ h]

/-! ### Deck RAM and the local RAM of an engine -/

theorem State.ramWf_setRam (s : State) (r k row : Nat) (w : Word72) (h : tsorted s.fab.ram = true) : tsorted (s.setRam r k row w).fab.ram = true :=
  tsorted_tins _ _ _ h

theorem State.ramRow_setRam_same (s : State) (r k row : Nat) (w : Word72) : (s.setRam r k row w).ramRow r k row = some w := by
  simp [State.ramRow, State.setRam]

theorem State.ramRow_setRam_ne (s : State) {r k row r' k' row' : Nat} (w : Word72) (h : ramKey r' k' row' ≠ ramKey r k row) :
    (s.setRam r k row w).ramRow r' k' row' = s.ramRow r' k' row' := by
  simp [State.ramRow, State.setRam, tfind_tins_ne _ _ h]

theorem State.lram_setLram (s : State) (n w : Nat) (v : Word72) (h : tsorted (s.engine n).ram = true) :
    tsorted ((s.setLram n w v).engine n).ram = true := by
  simpa [State.setLram, State.mapEngine, State.engine] using tsorted_tins _ _ _ h

/-! ### The memories of the reset state -/

theorem reset_regsWf : State.reset.regsWf = true := rfl
theorem reset_memWf : State.reset.memWf = true := rfl
theorem reset_wf : State.reset.wf = true := rfl

end Sys2Proof.Machine
end

