-- ==== Sys2Proof/Laws/Noc.lean ====
section
/-!
SUPPORT. What the shared operations of the network interfaces can do: which parts of the state they touch, said once for each.
-/
namespace Sys2Proof.Machine

/-- A part's answer at its target touches the list of requests only. -/
theorem State.respond_eq (s : State) (id p : Nat) (x : Answer) : ∃ l, s.respond id p x = s.setReqs l := ⟨_, rfl⟩

/-- A write that is taken touches the requests and the record of when the control nodes last acted: the network's part of the state. -/
theorem State.takeControl_eq (s : State) (src off : Nat) : ∃ x, s.takeControl src off = { s with noc := x } := by
  unfold State.takeControl
  split
  · exact ⟨_, rfl⟩
  · exact ⟨s.noc, rfl⟩

/-- The state in which a register write acts is the one that time has brought, but for the network's part. -/
theorem Acts.eq {s a : State} {t src off : Nat} (h : Acts s t src off a) : ∃ x, a = { s.advance t with noc := x } := by
  obtain ⟨x, hx⟩ := (s.advance t).takeControl_eq src off
  exact ⟨x, h.2.trans hx⟩

/-- A write that nothing stops has its effect on the state in which it is taken. -/
theorem State.ctlWrite_of_not_stops {s : State} {src off : Nat} (h : s.writeStops src off = false) (f : State → State) :
    s.ctlWrite src off f = f (s.takeControl src off) := by
  obtain ⟨h1, h2⟩ := Bool.or_eq_false_iff.1 h
  simp [State.ctlWrite, h1, h2]

/-- A register write that is not stopped has its effect. -/
theorem Acts.ctlWrite {s a : State} {t src off : Nat} (h : Acts s t src off a) (f : State → State) :
    (s.advance t).ctlWrite src off f = f a := h.2 ▸ State.ctlWrite_of_not_stops h.1 f

theorem HostActs.ctlWrite {s a : State} {t src off : Nat} (h : HostActs s t src off a) (f : State → State) :
    (s.hostAdvance t).ctlWrite src off f = f a := h.2 ▸ State.ctlWrite_of_not_stops h.1 f

theorem BoardActs.ctlWrite {s a : State} {t src off : Nat} (h : BoardActs s t src off a) (f : State → State) :
    (s.boardAdvance t).ctlWrite src off f = f a := h.2 ▸ State.ctlWrite_of_not_stops h.1 f

theorem State.keepsRegs_refl (s : State) (l : List Nat) : s.keepsRegs s l := fun _ _ => rfl

theorem State.keepsRegs_of_eq {s u : State} (h : u.regs = s.regs) (l : List Nat) : s.keepsRegs u l := fun o _ => by
  simp [State.reg, h]

theorem State.keepsRegs_setReg (s : State) {a : Nat} (w : Word32) {l : List Nat} (h : a ∈ l) : s.keepsRegs (s.setReg a w) l :=
  fun _ ho => s.reg_setReg_ne w (fun e => ho (e ▸ h))

theorem State.keepsRegs_setFld (s : State) {a : Nat} (f : Field) (v : Nat) {l : List Nat} (h : a ∈ l) : s.keepsRegs (s.setFld a f v) l :=
  s.keepsRegs_setReg _ h

theorem State.keepsRegs_trans {a b c : State} {l : List Nat} (h : a.keepsRegs b l) (k : b.keepsRegs c l) : a.keepsRegs c l :=
  fun o ho => (k o ho).trans (h o ho)

theorem State.keepsMem_refl (s : State) : s.keepsMem s := ⟨rfl, rfl, rfl, rfl, rfl, rfl, fun _ => rfl⟩

theorem State.keepsMem_trans {a b c : State} (h : a.keepsMem b) (k : b.keepsMem c) : a.keepsMem c :=
  ⟨k.1.trans h.1, k.2.1.trans h.2.1, k.2.2.1.trans h.2.2.1, k.2.2.2.1.trans h.2.2.2.1, k.2.2.2.2.1.trans h.2.2.2.2.1,
   k.2.2.2.2.2.1.trans h.2.2.2.2.2.1, fun n => (k.2.2.2.2.2.2 n).trans (h.2.2.2.2.2.2 n)⟩

/-- An update that leaves the six memories and the engines alone keeps every memory. -/
theorem State.keepsMem_of_eq {a u : State} (h : u.scr = a.scr) (h2 : u.cache = a.cache) (h3 : u.emc = a.emc) (h4 : u.cfg = a.cfg)
    (h5 : u.fab.ram = a.fab.ram) (h6 : u.eng = a.eng) : a.keepsMem u :=
  ⟨by rw [h], by rw [h], by rw [h2], by rw [h3], by rw [h4], h5, fun n => by simp [State.engine, h6]⟩

theorem State.keepsMem_setReg (s : State) (a : Nat) (w : Word32) : s.keepsMem (s.setReg a w) := ⟨rfl, rfl, rfl, rfl, rfl, rfl, fun _ => rfl⟩
theorem State.keepsMem_setFld (s : State) (a : Nat) (f : Field) (v : Nat) : s.keepsMem (s.setFld a f v) := s.keepsMem_setReg _ _

/-- A part that is answered has that answer, wherever its request is listed. -/
theorem State.respond_answered (s : State) (id p : Nat) (x : Answer) : (s.respond id p x).answered id p x := by
  intro q hq hid y hy
  have hm := (List.mem_filter.1 hq).1
  obtain ⟨r, -, rfl⟩ := List.mem_map.1 hm
  by_cases h : r.id = id
  · simp only [h, if_true] at hy ⊢
    rw [List.getElem?_modify_eq] at hy
    obtain ⟨z, -, rfl⟩ := Option.map_eq_some_iff.1 hy
    exact ⟨rfl, rfl⟩
  · simp only [h, if_false] at hid

end Sys2Proof.Machine
end

