-- ==== Sys2Proof/WellFormed.lean ====
section
/-!
DEFINITION. Well-formed commands: operands in the ranges that the spec gives what they name. A request part (`id`, `p`), a time, a tag and the
bytes of a frame may be any.
-/
namespace Sys2Proof

/-- An initiator number (R256). -/
def isInit (n : Nat) : Bool := decide (n < 256)
/-- A region (R15). -/
def isRegion (n : Nat) : Bool := decide (n < 128)
/-- A rod, with its engine, router and slice (R14). -/
def isRod (n : Nat) : Bool := decide (n < 64)
/-- A lane (R16). -/
def isLane (n : Nat) : Bool := decide (n < 48)
/-- A register word (R32). -/
def isWord (n : Nat) : Bool := decide (n < 2 ^ 32)
/-- A template (R151). -/
def isTemplate (n : Nat) : Bool := decide (n < 4096)
/-- A handle (R147). -/
def isHandle (n : Nat) : Bool := decide (n < 2 ^ 28)
/-- A 64-bit value. -/
def isDouble (n : Nat) : Bool := decide (n < 2 ^ 64)
/-- A mask of four bits. -/
def isMask4 (n : Nat) : Bool := decide (n < 16)
/-- A stream (R283), or another three-bit field. -/
def isStream (n : Nat) : Bool := decide (n < 8)
/-- A two-bit field: a state bank, a link direction, an Aethene port, a store slot, a token slot. -/
def isQuarter (n : Nat) : Bool := decide (n < 4)
/-- A four-bit code. -/
def isCode (n : Nat) : Bool := decide (n < 16)
/-- A clock gate (R444). -/
def isGate (n : Nat) : Bool := decide (n < 84)
/-- A host queue (R390). -/
def isQueue (n : Nat) : Bool := decide (n < 64)
/-- A serial unit (R430). -/
def isUnit (n : Nat) : Bool := decide (n < 8)
/-- An address range (R348), a die (R461), or a word of the key stage (R351). -/
def isRange (n : Nat) : Bool := decide (n < 8)
/-- A key of a set: data, tweak, MAC (R348). -/
def isKey (n : Nat) : Bool := decide (n < 3)
/-- One of sixteen: a way, a key slot, a DMA channel, a window, a trigger channel, a device. -/
def isSlot16 (n : Nat) : Bool := decide (n < 16)
/-- One of two: a port, a bank of route tables, a cause. -/
def isFlag (n : Nat) : Bool := decide (n < 2)
/-- A power domain (R449). -/
def isDomain (n : Nat) : Bool := decide (n < 212)
/-- A scratch bank (R235). -/
def isScratch (n : Nat) : Bool := decide (n < 96)
/-- A deck RAM block (R36). -/
def isBlock (n : Nat) : Bool := decide (n < 48)
/-- An address of a deck RAM port (R51). -/
def isPortAddr (n : Nat) : Bool := decide (n < 2 ^ 15)
/-- A byte, or a SEQ of a link (R264). -/
def isByte (n : Nat) : Bool := decide (n < 256)
/-- The length of a request (R257). -/
def isLen (n : Nat) : Bool := decide (1 ≤ n ∧ n ≤ 256)
/-- The 128 bits of a lane word (R360). -/
def isWide (n : Nat) : Bool := decide (n < 2 ^ 128)
/-- The side bits of a lane word (R360). -/
def isHalf (n : Nat) : Bool := decide (n < 2 ^ 16)
/-- A dword of the configuration space (R382). -/
def isCfgDword (n : Nat) : Bool := decide (n < 1024)
/-- An index of a ring (R390). -/
def isRing (n : Nat) : Bool := decide (n < 4096)
/-- A flex pin (R408). -/
def isPin (n : Nat) : Bool := decide (n < 320)
/-- A crossbar input (R412). -/
def isInput (n : Nat) : Bool := decide (n < 2112)
/-- A word of pins (R418). -/
def isPinWord (n : Nat) : Bool := decide (n < 10)
/-- An input of a router: its links N, E, S and W, then its six local ports by code (R251, R252). -/
def isRouterInput (n : Nat) : Bool := decide (n < 10)
/-- A reference source (R433). -/
def isSource (n : Nat) : Bool := decide (n < 3)
/-- An ingress source (R155). -/
def isIngress (n : Nat) : Bool := decide (n < 270)
/-- A via of a group (R19). -/
def isVia (n : Nat) : Bool := decide (n < 68)
/-- A via group identifier (R18). -/
def isGroupId (g : Nat) : Bool := decide (g < 2 ^ 22)
/-- One reading for each temperature sensor (R486). -/
def isSixtyFour (l : List Nat) : Bool := l.length == 64
/-- One supply for each pin bank (R408). -/
def isBanks (l : List Nat) : Bool := l.length == 8
/-- The data of a deck RAM port write (R48). -/
def isDataOpt (w : Option Nat) : Bool := w.all (fun v => decide (v < 2 ^ 72))
/-- Byte enables and value of a configuration write. -/
def isCfgWrite (w : Option (Nat × Nat)) : Bool := w.all (fun p => decide (p.1 < 16 ∧ p.2 < 2 ^ 32))

/-- Whether a command is well-formed. -/
def Instr.wf (i : Instr) : Bool :=
  match i with
  | .controlRegisterWrite _ _ _ _ => true
  | .nocRequestAccept _ src stream code _ len _ _ _ => isInit src && isStream stream && isCode code && isLen len
  | .interfaceSelfAnswer _ _ => true
  | .uclkWrite _ src r k v => isInit src && isRegion r && isQuarter k && isWord v
  | .uclkApply _ r k => isRegion r && isQuarter k
  | .deckRamWindowAccess _ _ _ => true
  | .deckRamWindowRowServe _ r k port => isRegion r && isBlock k && isFlag port
  | .deckRamWindowTimeout _ _ _ => true
  | .deckRamPortAccess _ r k port a w => isRegion r && isBlock k && isFlag port && isPortAddr a && isDataOpt w
  | .planePtrWrite _ src r v => isInit src && isRegion r && isWord v
  | .planeCtlRelease _ src r v => isInit src && isRegion r && isWord v
  | .planeCtlIsolate _ src r v => isInit src && isRegion r && isWord v
  | .planeCtlSetSched _ src r v => isInit src && isRegion r && isWord v
  | .planeCtlSetDirect _ src r v => isInit src && isRegion r && isWord v
  | .planeRequestAtBeam _ r => isRegion r
  | .switch _ r => isRegion r
  | .regionRelease _ r => isRegion r
  | .regionIsolation _ r => isRegion r
  | .strobeFire _ r k => isRegion r && isQuarter k
  | .bankDiscard _ src r mask => isInit src && isRegion r && isMask4 mask
  | .bankXferSave _ src r b => isInit src && isRegion r && isQuarter b
  | .bankXferRestore _ src r b => isInit src && isRegion r && isQuarter b
  | .bankXferDone _ r => isRegion r
  | .nocResponseArrival _ _ _ => true
  | .parkedResponseDelivery _ r => isRegion r
  | .loadGo _ src v => isInit src && isWord v
  | .loadVerifyGo _ src v => isInit src && isWord v
  | .loadCancel _ src v => isInit src && isWord v
  | .sequencerStepPhase _ trained failed => isMask4 trained && isMask4 failed
  | .sequencerServiceTurn _ => true
  | .loadSourceResponse _ _ _ => true
  | .settingsRecordWrite _ => true
  | .cfgBootSelWrite _ src v => isInit src && isWord v
  | .storeRead _ src slot => isInit src && isQuarter slot
  | .storeWrite _ src slot => isInit src && isQuarter slot
  | .goldenUnlockWrite _ src => isInit src
  | .tallyCreate _ _ _ => true
  | .tpToken _ r handle slot value _ => isRegion r && isHandle handle && isQuarter slot && isDouble value
  | .tokenMatch _ _ => true
  | .recordFetchDone _ src => isIngress src
  | .schedulerDecision _ => true
  | .dispatchAtBeam _ r => isRegion r
  | .taskDone _ r => isRegion r
  | .tallySpillAckWrite _ src n outcome => isInit src && isRod n && isCode outcome
  | .tallyCancelWrite _ src handle => isInit src && isHandle handle
  | .cancelEvaluate _ => true
  | .tallyRegionQuiesceWrite _ src r _ => isInit src && isRegion r
  | .schedulerIsolation _ r => isRegion r
  | .templateEnable _ src tm v => isInit src && isTemplate tm && isWord v
  | .templateDisable _ src tm v => isInit src && isTemplate tm && isWord v
  | .specCommitAtRegion _ r => isRegion r
  | .commitBufferRelease _ r => isRegion r
  | .specWindowExpiry _ r => isRegion r
  | .squashSwitch _ r => isRegion r
  | .xqPost _ n => isRod n
  | .xqWait _ n => isRod n
  | .waitEnd _ n => isRod n
  | .xqDone _ n => isRod n
  | .engineDoneReport _ n => isRod n
  | .xqCancel _ n => isRod n
  | .xqPsel _ n => isRod n
  | .pselResult _ n => isRod n
  | .xqSacq _ n => isRod n
  | .xqSrel _ n => isRod n
  | .xqPtest _ n => isRod n
  | .xqLd64 _ n => isRod n
  | .xqSd64 _ n => isRod n
  | .engineInstruction _ n => isRod n
  | .engineLoad _ n => isRod n
  | .engineLoadResponse _ n _ _ => isRod n
  | .engineStore _ n => isRod n
  | .engineAmo _ n => isRod n
  | .engineFence _ n => isRod n
  | .engineFenceI _ n => isRod n
  | .instructionFetchLine _ n _ _ _ => isRod n
  | .engineInterrupt _ n => isRod n
  | .engineTimerExpiry _ n => isRod n
  | .engineReset _ src n v => isInit src && isRod n && isWord v
  | .engineRun _ src n => isInit src && isRod n
  | .engineHalt _ src n => isInit src && isRod n
  | .engMboxInWrite _ src n v => isInit src && isRod n && isWord v
  | .engMboxOutWrite _ src n v => isInit src && isRod n && isWord v
  | .mboxNonce _ => true
  | .mboxUnlockGolden _ => true
  | .scrHandoverWrite _ src b v => isInit src && isScratch b && isWord v
  | .handoverEvaluate _ b => isScratch b
  | .drainMarkerArrival _ _ _ => true
  | .scratchClearDone _ b => isScratch b
  | .handoverTimeout _ b => isScratch b
  | .scratchAccess _ _ _ port => isFlag port
  | .scratchCorrectedWriteback _ b => isScratch b
  | .flitArrival _ n p _ _ => isRod n && isRouterInput p
  | .linkNak _ n p q => isRod n && isRouterInput p && isByte q
  | .linkAck _ n p q => isRod n && isRouterInput p && isByte q
  | .linkAckSend _ n p => isRod n && isRouterInput p
  | .bucketLeak _ n p => isRod n && isQuarter p
  | .linkDeath _ n p _ => isRod n && isQuarter p
  | .nocLinkRetireWrite _ src n p => isInit src && isRod n && isQuarter p
  | .nocRecompute _ src => isInit src
  | .nocFlip _ src => isInit src
  | .flipComplete _ => true
  | .nocLimitWrite _ src _ v => isInit src && isWord v
  | .nocRtWrite _ src n b d _ v => isInit src && isRod n && isFlag b && isRod d && isWord v
  | .targetLimitTimeout _ _ _ => true
  | .initiatorTimeout _ _ => true
  | .statSnap _ src => isInit src
  | .fenceAccept _ src stream _ => isInit src && isStream stream
  | .fencePacketAtTarget _ _ _ => true
  | .fenceComplete _ _ => true
  | .writeFailureAckArrival _ _ _ => true
  | .cacheRequest _ _ _ => true
  | .cacheFillResponse _ _ _ => true
  | .cacheCorrectedWriteback _ n w => isRod n && isSlot16 w
  | .cacheCmdFlush _ src v => isInit src && isWord v
  | .cacheCmdFlushInv _ src v => isInit src && isWord v
  | .cacheCmdSetuse _ src v => isInit src && isWord v
  | .scrubGo _ src kind => isInit src && isQuarter kind
  | .scrubCancel _ src kind => isInit src && isQuarter kind
  | .scrubRequestSend _ => true
  | .scrubRequestAtTarget _ _ _ => true
  | .scrubAnswer _ _ _ => true
  | .remapSetMove _ n => isRod n
  | .cacheFillMode _ => true
  | .fillEnd _ => true
  | .emcTrain _ src c v => isInit src && isQuarter c && isWord v
  | .emcMap _ src v => isInit src && isWord v
  | .emcRequest _ _ _ => true
  | .forwardAnswer _ _ _ => true
  | .dramReadComplete _ _ _ => true
  | .emcFillGo _ src => isInit src
  | .emcFillCancel _ src => isInit src
  | .xtsRangeEnable _ src j v => isInit src && isRange j && isWord v
  | .xtsRangeDisable _ src j v => isInit src && isRange j && isWord v
  | .xtsKeyStageWrite _ src q v => isInit src && isRange q && isWord v
  | .xtsKeyLoadCur _ src key idx => isInit src && isKey key && isSlot16 idx
  | .xtsKeyLoadNew _ src key idx => isInit src && isKey key && isSlot16 idx
  | .xtsKeyLoadSlot _ src key idx => isInit src && isKey key && isSlot16 idx
  | .xtsKeyLoadLink _ src key idx => isInit src && isKey key && isSlot16 idx
  | .xtsRotGo _ src j => isInit src && isRange j
  | .laneEnable _ src l v => isInit src && isLane l && isWord v
  | .laneDisable _ src l v => isInit src && isLane l && isWord v
  | .laneCalDone _ l => isLane l
  | .laneProfGo _ src l p => isInit src && isLane l && isQuarter p
  | .lprofReq _ l sel => isLane l && isQuarter sel
  | .profDone _ l => isLane l
  | .laneRealign _ src l p => isInit src && isLane l && isQuarter p
  | .laneSlip _ src l p => isInit src && isLane l && isQuarter p
  | .signalDetect _ l => isLane l
  | .signalLoss _ l => isLane l
  | .rxLock _ l => isLane l
  | .rxLockLost _ l => isLane l
  | .laneRxWord _ l _ _ _ data side err => isLane l && isWide data && isHalf side && isHalf err
  | .forwardStop _ l => isLane l
  | .laneTxRetimed _ l => isLane l
  | .laneTxAccept _ l data side => isLane l && isWide data && isHalf side
  | .laneTxSlot _ l _ _ => isLane l
  | .substitutionAccept _ l _ _ data side => isLane l && isWide data && isHalf side
  | .captureEnable _ src l v => isInit src && isLane l && isWord v
  | .captureWrite _ l => isLane l
  | .hostConfigRequest _ d w => isCfgDword d && isCfgWrite w
  | .bar0Read _ _ _ _ => true
  | .bar0Write _ _ _ _ => true
  | .bar2Read _ _ _ _ => true
  | .bar2Write _ _ _ _ => true
  | .bar4TableWrite _ _ v => isWord v
  | .sqTailDoorbell _ q v => isQueue q && isWord v
  | .cqHeadDoorbell _ q v => isQueue q && isWord v
  | .descriptorFetchResponse _ q idx status _ => isQueue q && isRing idx && isStream status
  | .descNop _ q => isQueue q
  | .descCopy _ q => isQueue q
  | .descRegseq _ q => isQueue q
  | .descToken _ q => isQueue q
  | .descCancel _ q => isQueue q
  | .descCreate _ q => isQueue q
  | .descFence _ q => isQueue q
  | .legacyNop _ q => isQueue q
  | .legacyCopy _ q => isQueue q
  | .legacyRegwr _ q => isQueue q
  | .legacyFence _ q => isQueue q
  | .copyComplete _ d => isSlot16 d
  | .regseqPollTimeout _ q => isQueue q
  | .completionWrite _ q => isQueue q
  | .blockIrqEdge _ i => isSlot16 i
  | .hostQueueEnable _ src q v => isInit src && isQueue q && isWord v
  | .hostQueueDisable _ src q v => isInit src && isQueue q && isWord v
  | .queueDrained _ q => isQueue q
  | .hostRetrain _ src v => isInit src && isWord v
  | .hostLinkDown _ => true
  | .perstAssert _ => true
  | .perstRelease _ => true
  | .hostWinEnable _ src k v => isInit src && isSlot16 k && isWord v
  | .hostWinBaseWrite _ src k v => isInit src && isSlot16 k && isWord v
  | .pinOwnWrite _ src p v => isInit src && isPin p && isWord v
  | .pinFuncWrite _ src p v => isInit src && isPin p && isWord v
  | .pinElecWrite _ src p v => isInit src && isPin p && isWord v
  | .pinDriveSwitch _ p => isPin p
  | .pinIselWrite _ src i v => isInit src && isInput i && isWord v
  | .pinOutWrite _ src w v => isInit src && isPinWord w && isWord v
  | .pinOeWrite _ src w v => isInit src && isPinWord w && isWord v
  | .triggerInputEdge _ c _ => isSlot16 c
  | .triggerFire _ src c v => isInit src && isSlot16 c && isWord v
  | .trigTsPop _ _ _ => true
  | .trigArm _ src c v => isInit src && isSlot16 c && isWord v
  | .armTimeReached _ c => isSlot16 c
  | .pulseEnd _ c => isSlot16 c
  | .uartDataWrite _ src u v => isInit src && isUnit u && isWord v
  | .uartDataRead _ _ _ => true
  | .uartRxByte _ u b _ _ => isUnit u && isByte b
  | .uartTxByteDone _ u => isUnit u
  | .spiDataWrite _ src u v => isInit src && isUnit u && isWord v
  | .spiTransferEnd _ u rx => isUnit u && isWord rx
  | .i2cCmd _ src u v => isInit src && isUnit u && isWord v
  | .i2cCommandEnd _ u _ _ rdata => isUnit u && isByte rdata
  | .clockTrip _ cause => isFlag cause
  | .fallbackStart _ => true
  | .autoReturn _ => true
  | .referenceReady _ k => isSource k
  | .clkSrcGo _ src sel => isInit src && isQuarter sel
  | .sourceSwitchLock _ _ cause => isFlag cause
  | .intEnWrite _ src v => isInit src && isWord v
  | .clkGateRequest _ src g _ => isInit src && isGate g
  | .gateIdle _ g => isGate g
  | .gateTimeout _ g => isGate g
  | .clkUngate _ src g _ => isInit src && isGate g
  | .pwrDomOffWrite _ src d v => isInit src && isDomain d && isWord v
  | .domainDraining _ d => isDomain d
  | .domainOff _ d => isDomain d
  | .pwrDomOnWrite _ src d v => isInit src && isDomain d && isWord v
  | .domainOn _ d => isDomain d
  | .powerOnReset _ => true
  | .deviceReset _ src v => isInit src && isWord v
  | .warmReset _ src v => isInit src && isWord v
  | .warmResetRelease _ => true
  | .dieResetAssert _ src k => isInit src && isRange k
  | .dieResetRelease _ k _ => isRange k
  | .rodResetWrite _ src n v => isInit src && isRod n && isWord v
  | .rodResetMinRelease _ n => isRod n
  | .modeQuiesce _ src v => isInit src && isWord v
  | .modeResume _ src v => isInit src && isWord v
  | .modeStandby _ src v _ => isInit src && isWord v
  | .modeWake _ src v => isInit src && isWord v
  | .pwrgoodRise _ => true
  | .powerUpEnd _ vio _ _ => isBanks vio
  | .pwrgoodFall _ => true
  | .powerFailIntervalEnd _ => true
  | .railMonitorTrip _ => true
  | .thermalTrip _ => true
  | .sweepStart _ => true
  | .stackCheckNow _ src v => isInit src && isWord v
  | .groupObservationEnd _ g _ => isGroupId g
  | .pauseEnd _ g => isGroupId g
  | .deferredPauseStart _ g => isGroupId g
  | .fuseBlow _ g v => isGroupId g && isVia v
  | .wearSample _ temps => isSixtyFour temps
  | .ledgerRecordWrite _ _ => true
  | .stackSave _ src v _ => isInit src && isWord v
  | .alinkPortUp _ p ver => isQuarter p && isFlag ver
  | .alinkPortLost _ p => isQuarter p
  | .alinkRetryLimit _ p => isQuarter p
  | .alinkDataFrame _ p _ _ _ => isQuarter p
  | .alinkNak _ p _ => isQuarter p
  | .alinkIdle _ p _ => isQuarter p
  | .beacon _ p _ => isQuarter p
  | .beaconSend _ p => isQuarter p
  | .deviceSettle _ => true
  | .portAbsentTimeout _ p => isQuarter p
  | .foreignTimeout _ p => isQuarter p
  | .delivery _ _ _ _ _ => true
  | .alinkRtWrite _ src b d v => isInit src && isFlag b && isSlot16 d && isWord v
  | .pairArm _ src port => isInit src && isQuarter port
  | .pairReady _ p _ => isQuarter p
  | .pairedRunEntry _ _ => true
  | .pairWindowEnd _ => true
  | .pairSig _ p _ => isQuarter p
  | .pairLinkTimeout _ => true
  | .pairHalt _ p _ => isQuarter p
  | .alinkPairLeaveWrite _ src => isInit src
  | .pairLeave _ p _ _ => isQuarter p
  | .pairLeaveEnd _ => true
  | .engineSelectAtBeam _ r => isRegion r
  | .hostLinkUp _ gen width => isStream gen && isQuarter width
  | .dmaHostReadCompletion _ d status _ => isSlot16 d && isStream status
  | .laneHoldoverEnd _ => true
  | .referenceReadyLoss _ k => isSource k
  | .uartCtsChange _ u _ => isUnit u

end Sys2Proof
end

