-- ==== Sys2Proof/Tests/Slice0.lean ====
section
/-!
SUPPORT. Tests: for each obligation with hypotheses, states and commands that meet the hypotheses of each of its clauses, at the boundaries of
their ranges where there are some; the refusals of WellFormed; and worked examples of the spec.
-/
namespace Sys2Proof.Tests
open Sys2Proof Sys2Proof.Machine

set_option maxRecDepth 20000
set_option Elab.async false

/-! ### States for the tests -/

/-- The reset state of a device with serial number 7 on a 2 × 2 board. -/
def base : State :=
  { State.reset with
    fuse := { (default : Fuses) with serial := 7 }
    brd := { State.reset.brd with straps := ⟨0, 1, 1, true⟩, best := (0, 7) } }

/-- The base state with some registers set. -/
def w (l : List (Nat × Nat)) (s : State := base) : State := l.foldl (fun s p => s.setReg p.1 (BitVec.ofNat 32 p.2)) s

/-- The reset state in a mode, at a time after POWER-UP. -/
def inMode (m : Nat) (l : List (Nat × Nat) := []) : State := { w l (w [(Reg.DEV_STATUS, m)]) with epoch := some 0, now := 1200 }

/-- Fields set; a region changed; request `r` outstanding; responses delivered. -/
def put (l : List (Nat × Field × Nat)) (s : State) : State := l.foldl (fun s p => s.setFld p.1 p.2.1 p.2.2) s
def onRegion (r : Nat) (f : Region → Region) (s : State) : State := s.setRegion r (f (s.region r))
def withReq (r : Request) (s : State) : State := { s with noc := { s.noc with reqs := [r], nextId := r.id + 1 } }
def withInbox (l : List Delivered) (s : State) : State := { s with noc := { s.noc with inbox := l } }

/-- A part that has arrived, the request 3 that it is of, and the response to it. -/
def aPart (router port addr len : Nat) : Part := ⟨router, port, addr, len, 0, 0, some 0, false, none, false, false, false, false⟩
def aReq (src : Nat) (kind : ReqKind) (addr len : Nat) (data : List Byte) (q : Part) : Request :=
  ⟨3, src, 0, 0, kind, addr, len, data, [], none, 0, 0, 0, some 0, [], none, [q], false, true, [], [], none⟩
def aResp (src : Nat) (kind : ReqKind) (tag addr code : Nat) (bytes : List Byte) : Delivered :=
  ⟨3, src, 0, 0, kind, tag, addr, bytes.length, code, bytes, []⟩

/-- The command answers a next state. -/
def Completes (c : Instr) (s : State) : Prop := ∃ u, exec c s = .next u

theorem runs {c : Instr} {s : State} {P : State → Prop} (h : ∃ u, exec c s = .next u ∧ P u) : Completes c s := h.imp fun _ x => x.1

theorem ofSome {α : Type} {o : Option α} {v : α} {P : α → Prop} (e : o = some v) (h : P v) : ∀ k, o = some k → P k :=
  fun _ hk => Option.some.inj (e.symm.trans hk) ▸ h

theorem runEq {c : Instr} {s a : State} (h : exec c s = .next a) : ∃ u, exec c s = .next u ∧ u = a := ⟨a, h, rfl⟩

theorem okOf {x : Except Nat (List Piece)} {v : List Piece}
    (h : (match x with | .ok y => decide (y = v) | .error _ => false) = true) : x = .ok v := by
  split at h
  · rw [of_decide_eq_true h]
  · cases h
theorem errOf {x : Except Nat (List Piece)} {c : Nat} (h : (match x with | .ok _ => false | .error y => y == c) = true) : x = .error c := by
  split at h
  · cases h
  · rw [eq_of_beq h]

/-! ### Chapter 02 -/

def clocked (x : Nat) : State := let s := inMode 6; { s with fab := { s.fab with uclk := [(511, ⟨true, 3, 4⟩)], uclkNew := [(511, [(⟨true, 0, 0⟩, x)])] } }
/-- Region 127 runs plane 0, which configures block 47 in plain mode, 9 bits wide; row 511 holds ones. -/
def deckRun : State :=
  let s := (inMode 6).setRstate 127 rsRunning
  { s with fab := { s.fab with frames := [(frameKey 127 0 62, List.replicate 4032 0 ++ [1, 0] ++ List.replicate 39 0 ++ [1])], ram := [(ramKey 127 47 511, 0xFFFFFFFFFFFFFFFFFF)] } }
def isOpen : Gate → Bool
  | .open_ => true
  | _ => false
theorem gateOpen {g : Gate} (h : isOpen g = true) : g = .open_ := by cases g <;> first | rfl | cases h
def winPart : Part := aPart 63 portUREG (deckBase + 127 * 0x40000 + 0x2FFF8) 8
def winReq (k : ReqKind) : Request := aReq 0 k winPart.addr 8 (List.replicate 8 0xA5) winPart
def winAcc : WinAcc := ⟨127, 3, 0, 0, [47 * 512 + 511], [], [], [], false⟩
def winAcc2 : WinAcc := { winAcc with todo := [47 * 512 + 511, 46 * 512] }
def winState (l : List WinAcc) (k : ReqKind := .write) : State :=
  let s := withReq (winReq k) { inMode 6 with now := 100002, epoch := some 0 }
  { s with fab := { s.fab with win := l, ram := [(ramKey 127 47 511, 0xAAFFFFFFFFFFFFFFFF)] } }


theorem witness_UserClockSettingIsWrittenThenApplied (h : Obligations.UserClockSettingIsWrittenThenApplied) :
    Completes (.uclkWrite 1200 0 63 3 0xFFFFFFFF) (inMode 6) ∧
    Completes (.uclkWrite 1200 0 64 0 0) (inMode 6) ∧
    Completes (.uclkApply 1200 127 3) (clocked 1164) :=
  ⟨runs (h.1 _ _ _ _ _ _ _ ⟨(by decide), rfl⟩),
   runs (h.1 _ _ _ _ _ _ _ ⟨(by decide), rfl⟩),
   runs (h.2 _ _ _ _ _ _ _ _ rfl rfl rfl (by decide))⟩

theorem witness_UserClockEdgeFollowsPhaseAndDivisor (h : Obligations.UserClockEdgeFollowsPhaseAndDivisor) :
    ((UClk.edgeAt ⟨true, 3, 4⟩ (UClk.nextEdge ⟨true, 3, 4⟩ 0) = true)) :=
  (h _ _ rfl).1

theorem witness_DeckRamPortReadsAndWritesItsRow (h : Obligations.DeckRamPortReadsAndWritesItsRow) :
    Completes (.deckRamPortAccess 1200 127 47 0 4095 none) (deckRun) ∧
    Completes (.deckRamPortAccess 1200 127 47 0 4095 (some 0)) (deckRun) :=
  ⟨by refine runs (h.1 _ _ _ 127 47 0 4095 511 0xFFFFFFFFFFFFFFFFFF (8, 9) rfl ?_ ?_ ?_ ?_ ?_ ?_ ?_) <;> decide +kernel,
   by refine runs (h.2 _ _ _ 127 47 0 4095 511 0 (8, 9) rfl ?_ ?_ ?_ ?_ ?_ ?_) <;> decide +kernel⟩

theorem witness_DeckRamWindowServesRowsAndTimesOut (h : Obligations.DeckRamWindowServesRowsAndTimesOut) :
    Completes (.deckRamWindowAccess 100002 3 0) (winState []) ∧
    Completes (.deckRamWindowRowServe 100002 127 47 0) (winState [winAcc]) ∧
    Completes (.deckRamWindowRowServe 100002 127 47 0) (winState [winAcc2] .read) ∧
    Completes (.deckRamWindowTimeout 100002 3 0) (winState [winAcc]) :=
  ⟨by refine runs (h.1 _ _ _ _ _ (winReq .write) winPart rfl ?_ ?_ ?_ ?_ (gateOpen (by decide +kernel))) <;> decide +kernel,
   by refine runs (h.2.1 _ _ _ 47 0 24575 winAcc (winReq .write) winPart rfl ?_ ?_ ?_ ?_ ?_ ?_ ?_ ?_ ?_) <;> decide +kernel,
   by refine runs (h.2.2.1 _ _ _ 47 0 24575 winAcc2 (winReq .read) winPart 0xAAFFFFFFFFFFFFFFFF rfl ?_ ?_ ?_ ?_ ?_ ?_ ?_ ?_ ?_ ?_ ?_) <;> decide +kernel,
   runs (h.2.2.2 _ _ _ _ _ winAcc rfl (by decide +kernel) (by decide +kernel))⟩

/-! ### Chapter 03 -/

/-- Region 127 in a state, with plane 7 in a state, and one request on its way to the beam. -/
def regionAt (st ps : Nat) (l : List SwReq) : State :=
  onRegion 127 (fun x => { x with reqs := l }) (((inMode 6).setRstate 127 st).setPstate 127 7 ps)
def ptrTo (e p b : Nat) : SwReq := ⟨1200, e, .reg, .ptr (some p) (some b) false⟩
def onPlane7 (st ps : Nat) (a : SwAct) : State := (regionAt st ps [⟨1194, 1200, .reg, a⟩]).setPtrs 127 7 3
def strobed (st : Nat) : State :=
  put [(Reg.PLANE_CTL 127, Fld.PLANE_CTL_STROBE_EN, 1), (Reg.PLANE_STROBE 127 3, Fld.PLANE_STROBE_EN, 1),
    (Reg.PLANE_STROBE 127 3, Fld.PLANE_STROBE_MOVE_BANK, 1), (Reg.PLANE_STROBE 127 3, Fld.PLANE_STROBE_BANK, 2),
    (Reg.PLANE_STROBE 127 3, Fld.PLANE_STROBE_SRC_NUM, 3)] (regionAt st 1 [])
def schedRegion : State := put [(Reg.PLANE_CTL 127, Fld.PLANE_CTL_SCHED, 1)] (regionAt rsRunning 1 [])
def staleRegion : State := put [(Reg.PLANE_STATUS 127, Fld.PLANE_STATUS_STALE, 1)] (regionAt rsIsolated 1 [])
/-- Bank 3 of region 127 is LIVE, something is parked for it, and it is owed an answer. -/
def bankAt (owed : Bool) : State :=
  let s := (((inMode 6).setRstate 127 rsRunning).setBstate 127 3 1).setParked 127 3 [⟨[1], 0, 0, 0, 1⟩]
  if owed then withReq (aReq (srcRegion 127) .read 0 8 [] (aPart 0 portAUX ctlBase 8)) s else s
def owedBank : State :=
  let s := bankAt false
  withReq { aReq (srcRegion 127) .read 0 8 [] (aPart 0 portAUX ctlBase 8) with bank := 3 } s
/-- A write has come to its edge in a region whose bank 3 is in a state; the bound bank is 0. -/
def dueWrite (bs : Nat) (x : SwAct) : State := onRegion 127 (fun y => { y with reqs := [⟨1194, 1200, .reg, x⟩] }) ((bankAt false).setBstate 127 3 bs)
def discarding (bs m : Nat) : State := dueWrite bs (.discard m)
def transferring (dir : Bool) : State := dueWrite 1 (.xferGo 3 dir)
def switching : State := onRegion 127 (fun x => { x with cyc := some ⟨1200, false, none, false, none⟩ }) ((regionAt 1 1 []).setPtrs 127 7 3)
def saved : State := onRegion 127 (fun x => { x with xfer := some ⟨3, false, true, none, []⟩ }) ((inMode 6).setBstate 127 3 2)
def parkedRun : State := ((((inMode 6).setRstate 127 rsRunning).setPtrs 127 0 3)).setParked 127 3 [⟨[1], 0, 0, 7, 1⟩]


theorem witness_PlaneWritesSendRequestsToTheBeam (h : Obligations.PlaneWritesSendRequestsToTheBeam) :
    Completes (.planePtrWrite 1205 0 127 0x4037) (inMode 6) ∧
    Completes (.planePtrWrite 1200 0 0 0x3000) (inMode 6) ∧
    Completes (.planeCtlRelease 1200 0 127 0x100) (inMode 6) ∧
    Completes (.planeCtlIsolate 1200 0 127 2) (inMode 6) ∧
    Completes (.planeCtlSetSched 1200 0 127 4) (inMode 6) ∧
    Completes (.planeCtlSetDirect 1200 0 127 0) (inMode 6) ∧
    Completes (.planeCtlSetDirect 1200 0 127 1) (inMode 6) :=
  ⟨runs (h.1 _ _ _ _ _ _ _ ⟨(by decide), rfl⟩ rfl),
   runs (h.1 _ _ _ _ _ _ _ ⟨(by decide), rfl⟩ rfl),
   runs ((h.2 _ _ _ _ _ _ _ ⟨(by decide), rfl⟩ rfl).1 (by decide)),
   runs ((h.2 _ _ _ _ _ _ _ ⟨(by decide), rfl⟩ rfl).2.1 (by decide)),
   runs ((h.2 _ _ _ _ _ _ _ ⟨(by decide), rfl⟩ rfl).2.2.1 (by decide)),
   runs ((h.2 _ _ _ _ _ _ _ ⟨(by decide), rfl⟩ rfl).2.2.2.1 (by decide)),
   runs ((h.2 (inMode 6) _ 1200 0 127 1 _ ⟨(by decide), rfl⟩ rfl).2.2.2.2 _ 8 (by simp) (by decide) (by decide))⟩

theorem witness_BeamRequestsActAtTheirEdge (h : Obligations.BeamRequestsActAtTheirEdge) :
    Completes (.planeRequestAtBeam 1200 127) (regionAt rsRunning 1 [ptrTo 1201 7 3]) ∧
    Completes (.switch 1200 127) (regionAt rsRunning 1 [ptrTo 1200 7 3]) ∧
    ((((switching).endCycle 127 1200).bstate 127 3 = 1 ∧ ((switching).endCycle 127 1200).rstate 127 = 2)) ∧
    Completes (.regionRelease 1200 127) (onPlane7 rsIsolated 1 .release) ∧
    Completes (.regionIsolation 1200 127) (onPlane7 rsRunning 1 .isolate) ∧
    Completes (.strobeFire 1200 127 3) (strobed rsRunning) ∧
    Completes (.strobeFire 1200 127 3) (strobed rsIsolated) :=
  ⟨runs (h.1 _ _ _ _ _ _ _ _ rfl rfl (by decide) (by decide)),
   runs (h.2.1 _ _ _ _ _ _ _ _ rfl rfl (by decide) (by decide) (by decide) (by decide) (.inl (by decide)) (by decide) (by decide)),
   ⟨(h.2.2.1 switching 127 1200 _ rfl (by decide) rfl (by decide)).1 (.inl (by decide)), (h.2.2.1 switching 127 1200 _ rfl (by decide) rfl (by decide)).2.1 rfl⟩,
   runs (h.2.2.2.1 _ _ _ _ _ _ rfl rfl (by decide) (by decide) (by decide)),
   runs (h.2.2.2.2.1 _ _ _ _ _ _ rfl rfl (by decide) (by decide) (by decide) (by decide) (by decide) (by decide)),
   runs (h.2.2.2.2.2.1 _ _ _ _ _ rfl (by decide) (by decide) (by decide)),
   runs (h.2.2.2.2.2.2 _ _ _ _ _ rfl (by decide) (by decide) (by decide))⟩

theorem witness_BeamRequestsAreRefusedByCode (h : Obligations.BeamRequestsAreRefusedByCode) :
    (schedRegion.reqCheck 127 ⟨0, 6, .reg, .release⟩ = 5) ∧
    ((regionAt rsRunning 2 []).reqCheck 127 ⟨0, 6, .reg, .ptr (some 7) (some 3) true⟩ = 3) ∧
    ((regionAt rsRunning 0 []).reqCheck 127 ⟨0, 6, .reg, .ptr (some 7) (some 3) true⟩ = 2) ∧
    (((regionAt rsRunning 1 []).setBstate 127 3 2).reqCheck 127 ⟨0, 6, .reg, .ptr (some 7) (some 3) true⟩ = 4) ∧
    ((regionAt rsRunning 1 []).reqCheck 127 ⟨0, 6, .reg, .ptr (some 7) (some 3) true⟩ = 0) ∧
    (staleRegion.reqCheck 127 ⟨0, 6, .reg, .release⟩ = 8) :=
  ⟨((h schedRegion 127 0 6 7 3 false (by decide) (by decide)).1 (by decide)).2.1,
   ((h (regionAt rsRunning 2 []) 127 0 6 7 3 true (by decide) (by decide)).2.1 (by decide) (by decide)).1 (by decide),
   ((h (regionAt rsRunning 0 []) 127 0 6 7 3 true (by decide) (by decide)).2.1 (by decide) (by decide)).2.1 (by decide),
   ((h ((regionAt rsRunning 1 []).setBstate 127 3 2) 127 0 6 7 3 true (by decide) (by decide)).2.1 (by decide) (by decide)).2.2.1 (by decide) (by decide),
   ((h (regionAt rsRunning 1 []) 127 0 6 7 3 true (by decide) (by decide)).2.1 (by decide) (by decide)).2.2.2.1 (by decide) (by decide),
   (h staleRegion 127 0 6 7 3 true (by decide) (by decide)).2.2 (by decide) (by decide) (by decide) (by decide)⟩

theorem witness_BanksAreDiscardedAndTransferred (h : Obligations.BanksAreDiscardedAndTransferred) :
    Completes (.bankDiscard 1200 0 127 0xF) (bankAt true) ∧
    (((discarding 1 8).runLater (.beamWrites 127)).bstate 127 3 = 0) ∧
    (((discarding 2 8).runLater (.beamWrites 127)).bstate 127 3 = 2) ∧
    (((discarding 1 7).runLater (.beamWrites 127)).bstate 127 3 = 1) ∧
    Completes (.bankXferSave 1200 0 127 3) (owedBank) ∧
    Completes (.bankXferRestore 1200 0 127 3) (bankAt false) ∧
    (((transferring false).runLater (.beamWrites 127)).bstate 127 3 = 2) ∧
    (((transferring true).runLater (.beamWrites 127)).bstate 127 3 = 2) ∧
    Completes (.bankXferDone 1200 127) (saved) ∧
    Completes (.parkedResponseDelivery 1200 127) (parkedRun) :=
  ⟨runs (h.1 _ _ _ _ _ _ _ ⟨(by decide), rfl⟩ rfl),
   ((h.2.1 (discarding 1 8) 127 3 _ _ _ (by decide) (by decide) (by decide) rfl).1 (by decide) (by decide) (by decide)).1,
   ((h.2.1 (discarding 2 8) 127 3 _ _ _ (by decide) (by decide) (by decide) rfl).2 (.inr (.inr (by decide)))).1.trans (by decide),
   ((h.2.1 (discarding 1 7) 127 3 _ _ _ (by decide) (by decide) (by decide) rfl).2 (.inl (by decide))).1.trans (by decide),
   runs ((h.2.2.1 _ _ _ _ _ _ _ ⟨(by decide), rfl⟩ rfl).1),
   runs ((h.2.2.1 _ _ _ _ _ _ _ ⟨(by decide), rfl⟩ rfl).2),
   (h.2.2.2.1 (transferring false) _ 127 3 _ _ _ (by decide) (by decide) (by decide) rfl rfl (by decide) (by decide) (by decide) (by decide)).1,
   (h.2.2.2.1 (transferring true) _ 127 3 _ _ _ (by decide) (by decide) (by decide) rfl rfl (by decide) (by decide) (by decide) (by decide)).1,
   runs (h.2.2.2.2.1 _ _ _ _ _ _ rfl (by decide) rfl (by decide)),
   runs (h.2.2.2.2.2 _ _ _ _ _ rfl (by decide) (by decide) (by decide) rfl (by decide))⟩

/-! ### Chapter 04 -/

def aLoad (stage : Nat) (asked : Bool) (raw : List Byte) : Load := ⟨false, 0, none, 0x10000000000, 256, raw, asked, stage, 0, 0, 0, none, [], 0, false, false⟩
def loads4 (l : Load) (box : List Delivered) : State := let s := withInbox box (inMode 6); { s with cfg := { s.cfg with load := some l } }
def stored (off len : Nat) : State := put [(Reg.CFG_STORE_OFFSET, Fld.CFG_STORE_OFFSET_OFFSET, off), (Reg.CFG_STORE_LEN, Fld.CFG_STORE_LEN_LEN, len)] (inMode 6)
def unlockBlock (i : Nat) : Delivered := aResp 0 .read tagFirmware (128 * 5 + 128 * i) 0 (List.replicate 128 0)
def unlocking : State :=
  let s := put [(Reg.ENG_MBOX_DB 0, Fld.ENG_MBOX_DB_IN, 1), (Reg.ENG_STATUS 0, Fld.ENG_STATUS_STATE, esRunning)] (w [(Reg.ENG_MBOX_IN 0, 0x2000005)] (inMode 6))
  withInbox [unlockBlock 0, unlockBlock 1] { s with nonce := some 9 }


theorem witness_LoadsStartReadApplyAndCancel (h : Obligations.LoadsStartReadApplyAndCancel) :
    Completes (.loadGo 1200 0 0x301) (inMode 9) ∧
    Completes (.loadVerifyGo 1200 0 0) (inMode 5) ∧
    Completes (.loadGo 1200 0 0) (loads4 (aLoad 1 false []) []) ∧
    Completes (.loadVerifyGo 1200 0 0) (inMode 1) ∧
    Completes (.loadCancel 1200 0 0) (loads4 (aLoad 1 false [7]) []) ∧
    Completes (.loadCancel 1200 0 0) (loads4 { aLoad 8 false [7] with opened := true, boot := 1, slot := some 3 } []) ∧
    Completes (.loadCancel 1200 0 0) (loads4 (aLoad 9 false [7]) []) ∧
    Completes (.loadCancel 1200 0 0) (inMode 6) ∧
    Completes (.loadSourceResponse 1200 0 0) (loads4 (aLoad 1 true (List.replicate 128 0)) [aResp srcLoader .read tagLoad 0 0 (List.replicate 127 0)]) ∧
    Completes (.loadSourceResponse 1200 0 0) (loads4 { aLoad 4 true [7] with opened := true } [aResp srcLoader .read tagLoad 0 4 []]) ∧
    Completes (.settingsRecordWrite 1200) (loads4 (aLoad 9 false []) []) :=
  ⟨by refine runs ((h.1 _ _ _ _ _ ⟨(by decide +kernel), rfl⟩ (by decide) ?_ ?_ ?_ ?_).1 (by decide)) <;> decide +kernel,
   by refine runs ((h.1 _ _ _ _ _ ⟨(by decide +kernel), rfl⟩ (by decide) ?_ ?_ ?_ ?_).2) <;> decide +kernel,
   runs (h.2.1 (loads4 (aLoad 1 false []) []) _ 1200 0 0 _ ⟨(by decide +kernel), rfl⟩ (by decide) (by decide) (.inl rfl) (.inl rfl)),
   runs (h.2.1 (inMode 1) _ 1200 0 0 _ ⟨(by decide +kernel), rfl⟩ (by decide) (by decide) (.inr (by decide +kernel)) (.inr (.inl (by decide +kernel)))),
   runs (h.2.2.1 _ _ _ _ _ _ ⟨(by decide), rfl⟩ (by decide) rfl (by decide)),
   runs (h.2.2.1 _ _ _ _ _ _ ⟨(by decide), rfl⟩ (by decide) rfl (by decide)),
   runs (h.2.2.2.1 _ _ _ _ _ ⟨(by decide), rfl⟩ (by decide) (.inr ⟨_, rfl, rfl⟩)),
   runs (h.2.2.2.1 _ _ _ _ _ ⟨(by decide), rfl⟩ (by decide) (.inl rfl)),
   runs (h.2.2.2.2.1 _ _ _ _ _ _ _ rfl rfl (by decide) (by decide) rfl (by decide) ⟨(by decide +kernel), (by decide +kernel), (by decide +kernel)⟩ (by decide) (by decide) (by decide) (by decide) (by decide) (by decide)),
   runs (h.2.2.2.2.2.1 _ _ _ _ _ _ _ rfl rfl (by decide) (.inl (by decide)) rfl (by decide) (by decide)),
   runs (h.2.2.2.2.2.2 _ _ _ _ _ rfl (by decide) rfl (by decide) (by decide) (by decide) rfl)⟩

theorem witness_ImageStoreCommandsAreTaken (h : Obligations.ImageStoreCommandsAreTaken) :
    Completes (.cfgBootSelWrite 1200 0 0xFFFFFFFF) (inMode 6) ∧
    Completes (.storeRead 1200 0 3) (stored 8191 1) ∧
    Completes (.storeWrite 1200 0 1) (stored 0 8192) ∧
    Completes (.goldenUnlockWrite 1200 0) (inMode 6) ∧
    Completes (.goldenUnlockWrite 1200 1) (inMode 6) ∧
    Completes (.mboxUnlockGolden 1200) (unlocking) :=
  ⟨runs (h.1 _ _ _ _ _ ⟨(by decide), rfl⟩),
   by refine runs ((h.2.1 _ _ _ _ _ 8191 1 ⟨(by decide +kernel), rfl⟩ ?_ ?_ ?_ (by decide) (by decide)).1) <;> decide +kernel,
   by refine runs ((h.2.1 _ _ _ _ _ 0 8192 ⟨(by decide +kernel), rfl⟩ ?_ ?_ ?_ (by decide) (by decide)).2 (by decide) (by decide +kernel) (by decide +kernel)) <;> decide +kernel,
   runs (h.2.2.1 _ _ _ ⟨(by decide), rfl⟩),
   runs (h.2.2.2.1 _ _ _ _ ⟨(by decide), rfl⟩ (by decide)),
   by refine runs (h.2.2.2.2 _ _ _ 5 _ 9 (unlockBlock 0) (unlockBlock 1) rfl ?_ ?_ ?_ ?_ ?_ ?_ ?_ rfl) <;> decide +kernel⟩

/-! ### Chapters 05 and 06 -/

/-- The scheduler and the matching store run; template 4095 is enabled for plane 7 of region 127, which it may use alone. -/
def tallies (l : List (Nat × TallyRec)) : State :=
  let s := put [(Reg.TALLY_CTL, Fld.TALLY_CTL_EN, 1), (Reg.TALLY_STATUS, Fld.TALLY_STATUS_STORE_READY, 1),
    (Reg.TALLY_TMPL_CTL 4095, Fld.TALLY_TMPL_CTL_EN, 1), (Reg.TALLY_TMPL_CTL 4095, Fld.TALLY_TMPL_CTL_PLANE, 7),
    (Reg.TALLY_TMPL_CTL 4095, Fld.TALLY_TMPL_CTL_NOPS, 3), (Reg.PLANE_CTL 127, Fld.PLANE_CTL_SCHED, 1),
    (Reg.PWR_DOM_STATUS 127, Fld.PWR_DOM_STATUS_STATE, dsOn)] (w [(Reg.TALLY_TMPL_TARGETS 4095 3, 0x80000000)] (inMode 6))
  let s := (((s.setRstate 127 rsRunning).setPstate 127 7 1).setPtrs 127 7 3).setBstate 127 3 1
  { s with sch := { s.sch with recs := l } }
def aRec (st : Nat) : TallyRec := { recZero with state := st, template := 4095, gen := 255, unit := 127, bank := 3, placed := true }
/-- A token for record 1048575, generation 255, waits in queue 191, which is that of region 127. -/
def aToken (h : Nat) : Token := ⟨h, 3, 5, false⟩
def queued (h : Nat) (s : State) : State := s.setTokens 191 [aToken h]
def fetching : State := let s := queued 0xFFFFFFF (tallies [(0xFFFFF, aRec 1)]); { s with sch := { s.sch with fetch := [(191, 88)] } }
def fillsDue : State := let s := tallies [(0xFFFFF, { aRec 1 with full := 7 })]; { s with sch := { s.sch with fills := [(0xFFFFF, 100, 191, aToken 0xFFFFFFF)] } }
def fetches16 : State :=
  let s := queued 0xFFFFFFF (tallies [(0xFFFFF, aRec 1)])
  { s with sch := { s.sch with fetch := (List.range 16).map (fun i => (i, 88)) } }
def onSreg (f : SchRegion → SchRegion) (s : State) : State := s.mapSreg 127 f
def aDisp : Dispatch := ⟨1188, 0xFFFFF, 7, 3, true, false, false, none, false⟩
def boundRun : State := onSreg (fun y => { y with bound := some 0xFFFFF }) (tallies [(0xFFFFF, aRec 3)])
def creating : State :=
  withReq (aReq 0 .read (ctlBase + 0x167FF8) 8 [] (aPart 0 portAUX (ctlBase + 0x167FF8) 8)) (tallies [])
def aJob : SpillJob := ⟨127, 0xFFFFF, 3, 7, false⟩
def spilling : State := let s := tallies [(0xFFFFF, aRec 5)]; { s with sch := { s.sch with jobs := [(63, aJob)] } }
def cancelling (h : Nat) : State :=
  let s := tallies [(0xFFFFF, aRec 1)]
  { s with sch := { s.sch with cancels := [⟨.reg, h, 1200⟩] } }
def ending : State := tallies [(0xFFFFF, aRec 3)]
def quiet : State := put [(Reg.TALLY_REGION 127, Fld.TALLY_REGION_QUIESCE, 1)] (tallies [])
def isolating : State := onSreg (fun y => { y with isoAt := some 1200 }) quiet
/-- Template 4095 not yet enabled. -/
def tmplOff (tgt : Nat) : State := put [(Reg.TALLY_TMPL_CTL 4095, Fld.TALLY_TMPL_CTL_EN, 0)] (w [(Reg.TALLY_TMPL_TARGETS 4095 3, tgt)] (tallies []))
def specRec : TallyRec := { aRec 7 with specLate := true, specE1 := 2 ^ 48 - 10 }
def late : State := put [(Reg.TALLY_TMPL_CTL 4095, Fld.TALLY_TMPL_CTL_SPEC_CTL, 0x81)] (tallies [(0xFFFFF, specRec)])
def committing : State := onSreg (fun y => { y with commitAt := some 1200, tpSpec := true, buf := [.token (aToken 1)] }) boundRun
def draining : State := onSreg (fun y => { y with draining := true, buf := [.token (aToken 1)] }) boundRun
def squashing : State := onSreg (fun y => { y with squash := some ⟨1182, 1200, 2⟩, tpSpec := true }) (tallies [(0xFFFFF, aRec 1)])


theorem witness_TalliesAreCreatedAndFilledByTokens (h : Obligations.TalliesAreCreatedAndFilledByTokens) :
    Completes (.tallyCreate 1200 3 0) (creating) ∧
    Completes (.tpToken 1200 127 0xFFFFFFF 3 5 true) (tallies []) ∧
    Completes (.tokenMatch 1200 false) (queued 0xFFFFFFF (tallies [(0xFFFFF, aRec 1)])) ∧
    (((fillsDue.runLater .fills).trec 0xFFFFF).full = 15) ∧
    Completes (.tokenMatch 1200 true) (queued 0xFFFFFFF (tallies [(0xFFFFF, aRec 1)])) ∧
    Completes (.tokenMatch 1200 true) (fetches16) ∧
    Completes (.recordFetchDone 1200 191) (fetching) ∧
    Completes (.tokenMatch 1200 false) (queued 0xFFFFF00 (tallies [(0xFFFFF, aRec 1)])) :=
  ⟨runs (h.1 _ _ _ _ _ 4095 0 _ _ rfl rfl (by decide) (by decide) (by decide) (by decide) (by decide) (by decide) (by decide) (by decide +kernel)),
   runs (h.2.1 _ _ _ _ _ _ _ _ rfl (by decide) (by decide) (by decide) (by decide) (by decide)),
   runs (h.2.2.1 _ _ _ 191 0xFFFFF _ _ rfl (by decide) (by decide) (by decide +kernel) rfl (by decide) rfl (by decide) (by decide) (by decide) (by decide) (by decide)),
   (h.2.2.2.1 fillsDue _ 0xFFFFF 191 (aToken 0xFFFFFFF) rfl (by decide) (by decide) (by decide)).1,
   runs ((h.2.2.2.2.1 _ _ _ 191 rfl (by decide) (by decide) (by decide +kernel)).1 (by decide)),
   runs ((h.2.2.2.2.1 _ _ _ 191 rfl (by decide) (by decide) (by decide +kernel)).2 (by decide)),
   runs (h.2.2.2.2.2.1 _ _ _ 191 0xFFFFF 88 _ _ rfl (by decide) (by decide) rfl (by decide) rfl (by decide) (by decide) (by decide) (by decide) (by decide)),
   runs (h.2.2.2.2.2.2 _ _ _ 191 _ _ rfl (by decide) (by decide) (by decide +kernel) rfl (by decide))⟩

theorem witness_TalliesAreDispatchedAndDone (h : Obligations.TalliesAreDispatchedAndDone) :
    Completes (.schedulerDecision 1200) (tallies [(0xFFFFF, aRec 2)]) ∧
    Completes (.dispatchAtBeam 1200 127) (onSreg (fun y => { y with disp := some aDisp }) (tallies [(0xFFFFF, aRec 3)])) ∧
    Completes (.taskDone 1200 127) (boundRun) ∧
    (((ending.runLater (.taskEnd 127 0xFFFFFFF)).trec 0xFFFFF).gen = 0) :=
  ⟨runs (h.1 _ _ _ 127 0xFFFFF 0 _ rfl rfl (by decide) (by decide) (by decide) (by decide) (by decide) (by decide) (by decide) (by decide +kernel) (by decide +kernel) (by decide) (by decide) (by decide +kernel)),
   runs (h.2.1 _ _ _ 127 _ rfl rfl (by decide) (by decide)),
   runs (h.2.2.1 _ _ _ 127 0xFFFFF rfl (by decide) (by decide) (by decide) (by decide) (by decide)),
   (h.2.2.2 ending _ 127 0xFFFFFFF 0xFFFFF rfl rfl (by decide) (by decide) (by decide)).2.1⟩

theorem witness_SpillsCancelsQuiesceAndTemplates (h : Obligations.SpillsCancelsQuiesceAndTemplates) :
    Completes (.tallySpillAckWrite 1200 0 63 0) (spilling) ∧
    (((spilling.runLater (.spillEnd aJob 0)).trec 0xFFFFF).state = 6) ∧
    Completes (.tallyCancelWrite 1200 0 0xFFFFFFF) (tallies []) ∧
    Completes (.cancelEvaluate 1200) (cancelling 0xFFFFFFF) ∧
    Completes (.cancelEvaluate 1200) (cancelling 0xFFFFF00) ∧
    Completes (.tallyRegionQuiesceWrite 1200 0 127 true) (tallies []) ∧
    (((quiet.runLater (.quiesce 127)).sreg 127).isoAt = some 1218) ∧
    Completes (.schedulerIsolation 1200 127) (isolating) ∧
    Completes (.templateEnable 1200 0 4095 0) (tmplOff 0x80000000) ∧
    Completes (.templateEnable 1200 0 4095 0) (tmplOff 0) ∧
    Completes (.templateDisable 1200 0 4095 0) (tallies []) :=
  ⟨runs (h.1 _ _ _ _ _ _ aJob ⟨(by decide), rfl⟩ (by decide) (by decide)),
   (h.2.1 spilling _ aJob rfl rfl (by decide)).1,
   runs (h.2.2.1 _ _ _ _ _ ⟨(by decide), rfl⟩),
   runs ((h.2.2.2.1 _ _ _ 0xFFFFFFF 1200 _ rfl (by decide) (by decide) (by decide) rfl).1 (by decide) (by decide) (by decide) (by decide)),
   runs ((h.2.2.2.1 _ _ _ 0xFFFFF00 1200 _ rfl (by decide) (by decide) (by decide) rfl).2 (by decide)),
   runs (h.2.2.2.2.1 _ _ _ _ _ true ⟨(by decide), rfl⟩ (by decide)),
   (h.2.2.2.2.2.1 quiet 127 (by decide) (by decide) (by decide) (by decide) (by decide) (by decide)).1,
   runs (h.2.2.2.2.2.2.1 _ _ _ _ 1200 rfl (by decide) (by decide) (by decide) (by decide) (by decide) (by decide) (by decide)),
   runs ((h.2.2.2.2.2.2.2.1 _ _ _ _ _ 4095 0 ⟨(by decide), rfl⟩ (by decide) (by decide) rfl).1 (by decide +kernel)),
   runs ((h.2.2.2.2.2.2.2.1 _ _ _ _ _ 4095 0 ⟨(by decide), rfl⟩ (by decide) (by decide) rfl).2 (by decide +kernel)),
   runs (h.2.2.2.2.2.2.2.2 _ _ _ _ _ _ ⟨(by decide), rfl⟩)⟩

theorem witness_SpeculationCommitsOrIsSquashed (h : Obligations.SpeculationCommitsOrIsSquashed) :
    Completes (.specCommitAtRegion 1200 127) (committing) ∧
    Completes (.commitBufferRelease 1200 127) (draining) ∧
    Completes (.specWindowExpiry 1200 127) (late) ∧
    Completes (.squashSwitch 1200 127) (squashing) :=
  ⟨runs (h.1 _ _ _ _ 1200 0xFFFFF rfl (by decide) (by decide) (by decide) (by decide) (by decide) (by decide)),
   runs (h.2.1 _ _ _ _ _ _ rfl (by decide) rfl (by decide)),
   runs (h.2.2.1 _ _ _ _ 0xFFFFF rfl (by decide) (by decide) (by decide +kernel) (by decide)),
   runs (h.2.2.2 _ _ _ _ _ rfl rfl (by decide) (by decide) (by decide) (by decide) (by decide))⟩

/-! ### Chapter 07 -/

def aWord : Word72 := encodeWord 0x1122334455667788
/-- Engine 63 runs and is about to issue the word `i` at 0x1000 of its RAM; its word at byte address 64 holds 0x1122334455667788. -/
def engRun (i : Nat) (x : List (Nat × Word32)) (f : Eng → Eng := id) : State :=
  let s := put [(Reg.ENG_STATUS 63, Fld.ENG_STATUS_STATE, esRunning), (Reg.PWR_DOM_STATUS (128 + 63), Fld.PWR_DOM_STATUS_STATE, dsOn)]
    (w [(Reg.ENG_CTL 63, 1)] (inMode 6))
  s.mapEngine 63 (fun e => f { e with
    pc := 0x1000, x := x, ram := [(8, aWord), (512, encodeWord (BitVec.ofNat 64 i))] })
def xqRun (i : Xq) (x : List (Nat × Word32)) (f : Eng → Eng := id) : State := engRun i.encode.toNat x f
def engAt (f : Eng → Eng) : State := engRun 0x13 [] f
def issuing (s : State) (t n w len : Nat) (i : Rv) : Bool :=
  match (s.engAdvance t n).toIssue n with
  | .instr b v l j => decide (b = s.engAdvance t n) && v == w && l == len && decide (j = i)
  | _ => false
theorem toIssue_of_issuing {s : State} {t n w len : Nat} {i : Rv} (h : issuing s t n w len i = true) :
    (s.engAdvance t n).toIssue n = .instr (s.engAdvance t n) w len i := by
  unfold issuing at h
  split at h
  · next b v l j e =>
    simp only [Bool.and_eq_true, decide_eq_true_eq, beq_iff_eq] at h
    obtain ⟨⟨⟨rfl, rfl⟩, rfl⟩, rfl⟩ := h
    exact e
  · cases h
theorem issues {s : State} {t n len : Nat} {i : Rv} (w : Nat) (h : issuing s t n w len i = true)
    (p : ((s.engAdvance t n).engine n).poisonedUse i = none) : Issues s t n (s.engAdvance t n) len i :=
  ⟨⟨w, toIssue_of_issuing h⟩, p⟩
def engDelivered (tag : Nat) (b : List Byte) : Delivered := ⟨3, 63, 0, 0, .read, tag, 0x40000000, b.length, 0, b, []⟩
def failedLoad : Delivered := { engDelivered tagEngLoad [] with code := 4 }
def awaitsFail : State := withInbox [failedLoad] (engAt (fun x => { x with busy := .load 31 2 0x40000000 }))
def awaits (tag : Nat) (b : List Byte) (e : EngBusy) : State := withInbox [engDelivered tag b] (engAt (fun x => { x with busy := e }))
def doneSent : State :=
  let s := engAt (fun e => { e with done := some (1188, 0xFFFFF) })
  { s with sch := { s.sch with recs := [(0xFFFFF, { recZero with state := 3, unit := 63, engine := true, placed := true })] } }
def pselBack : State := let s := engAt (fun e => { e with psel := some (31, 1200) }); { s with fab := { s.fab with psel := [(63, (1200, 3))] } }
def selecting : State :=
  (onRegion 127 (fun x => { x with reqs := [⟨1194, 1200, .engine 63 1215, .ptr (some 7) (some 3) false⟩] }) (((inMode 6).setRstate 127 rsRunning).setPstate 127 7 1))
def interrupted : State :=
  put [(Reg.ENG_MSIP 63, Fld.ENG_MSIP_PEND, 1), (Reg.ENG_STATUS 63, Fld.ENG_STATUS_PRIV, 0)]
    (engAt (fun e => e.setCsr csrMie 8))
def mail (v db : Nat) : State := put [(Reg.ENG_MBOX_DB 63, Fld.ENG_MBOX_DB_IN, db)] (w [(Reg.ENG_MBOX_IN 63, v)] (inMode 6))
/-- Engine 63 is about to issue an xq.post, and its queue is full. -/
def postFull : State := (xqRun (.post 10 11 12) []).setTokens 63 (List.replicate 64 ⟨0, 0, 0, false⟩)
def firmware : State :=
  put [(Reg.ENG_MBOX_DB 0, Fld.ENG_MBOX_DB_IN, 1), (Reg.ENG_STATUS 0, Fld.ENG_STATUS_STATE, esRunning)] (w [(Reg.ENG_MBOX_IN 0, 0x1FFFFFF)] (inMode 6))


theorem witness_EngineBaseInstructionsExecute (h : Obligations.EngineBaseInstructionsExecute) :
    Completes (.engineInstruction 1200 63) (engRun 0x00208FB3 [(1, 0xFFFFFFFF), (2, 1)]) ∧
    Completes (.engineInstruction 1200 63) (engRun 0x00208033 [(1, 0xFFFFFFFF), (2, 2)]) ∧
    Completes (.engineInstruction 1200 63) (engRun 0x008000EF []) ∧
    Completes (.engineInstruction 1200 63) (engRun 0x00000073 []) ∧
    Completes (.engineInstruction 1200 63) (engRun 0 []) ∧
    Completes (.engineInstruction 1200 63) (engRun 0x00208FB3 [(1, 7)] (fun e => { e with marks := 4 })) :=
  ⟨runs (h.1 _ _ _ _ 4 31 1 2 .add (issues 0x00208FB3 (by decide +kernel) (by decide +kernel))),
   runs (h.1 _ _ _ _ 4 0 1 2 .add (issues 0x00208033 (by decide +kernel) (by decide +kernel))),
   runs (h.2.1 _ _ _ _ 4 1 8 (issues 0x008000EF (by decide +kernel) (by decide +kernel))),
   runs (h.2.2.1 _ _ _ _ 4 (issues 0x00000073 (by decide +kernel) (by decide +kernel))),
   runs (h.2.2.2.1 _ _ _ _ 2 (issues 0 (by decide +kernel) (by decide +kernel))),
   runs (h.2.2.2.2 _ _ _ _ 0x00208FB3 4 2 (.aluReg .add 31 1 2) (toIssue_of_issuing (by decide +kernel)) (by decide) (by decide +kernel))⟩

theorem witness_EngineMemoryInstructionsExecute (h : Obligations.EngineMemoryInstructionsExecute) :
    Completes (.engineLoad 1200 63) (engRun 0x04002283 []) ∧
    Completes (.engineLoad 1200 63) (engRun 0x04404283 [] (fun e => { e with ram := [(8, aWord ^^^ 3#72), (512, encodeWord 0x04404283)] })) ∧
    Completes (.engineLoad 1200 63) (engRun 0x0000A283 [(1, 0x40000000)]) ∧
    Completes (.engineLoadResponse 1200 63 3 0) (awaits tagEngLoad [1, 2, 3, 0x80] (.load 31 2 0x40000000)) ∧
    Completes (.engineLoadResponse 1200 63 3 0) (awaitsFail) ∧
    Completes (.engineStore 1200 63) (engRun 0x04202023 [(2, 0xDEADBEEF)]) ∧
    Completes (.engineStore 1200 63) (engRun 0x0020A023 [(1, 0x40000000), (2, 0xDEADBEEF)]) ∧
    Completes (.engineAmo 1200 63) (engRun 0x1000A2AF [(1, 64)]) ∧
    Completes (.engineAmo 1200 63) (engRun 0x1820A2AF [(1, 64), (2, 5)] (fun e => { e with resv := some 64 })) ∧
    Completes (.engineAmo 1200 63) (engRun 0x1820A2AF [(1, 64), (2, 5)]) ∧
    Completes (.engineAmo 1200 63) (engRun 0x0020A2AF [(1, 64), (2, 5)]) ∧
    Completes (.engineFence 1200 63) (engRun 0x0FF0000F []) ∧
    Completes (.engineFenceI 1200 63) (engRun 0x0000100F [] (fun e => { e with icache := [(0x40000000, [1], 0)] })) ∧
    Completes (.instructionFetchLine 1200 63 3 0 false) (awaits (tagFetch 0xFFFFFFC0) (List.replicate 64 7) .idle) :=
  ⟨by refine runs (h.1 _ _ _ _ 4 2 5 0 64 64 aWord (issues 0x04002283 (by decide +kernel) (by decide +kernel)) (by decide) ?_ ?_ ?_ ?_) <;> decide +kernel,
   by refine runs (h.1 _ _ _ _ 4 4 5 0 68 68 (aWord ^^^ 3#72) (issues 0x04404283 (by decide +kernel) (by decide +kernel)) (by decide) ?_ ?_ ?_ ?_) <;> decide +kernel,
   by refine runs (h.2.1 _ _ _ _ 4 2 5 1 ctlBase 0 (issues 0x0000A283 (by decide +kernel) (by decide +kernel)) (by decide) ?_ ?_ ?_ ?_) <;> decide +kernel,
   runs ((h.2.2.1 _ _ _ _ _ _ 31 2 0x40000000 _ rfl (by decide +kernel) rfl (by decide) (by decide +kernel) (by decide)).1 (by decide)),
   runs ((h.2.2.1 _ _ _ _ _ _ 31 2 0x40000000 failedLoad rfl (by decide +kernel) rfl (by decide) (by decide +kernel) (by decide)).2 (by decide)),
   by refine runs (h.2.2.2.1 _ _ _ _ 4 2 0 2 64 64 (issues 0x04202023 (by decide +kernel) (by decide +kernel)) (by decide) ?_ ?_ ?_) <;> decide +kernel,
   by refine runs (h.2.2.2.2.1 _ _ _ _ 4 2 1 2 ctlBase 0 (issues 0x0020A023 (by decide +kernel) (by decide +kernel)) (by decide) ?_ ?_ ?_ ?_ ?_) <;> decide +kernel,
   by refine runs (h.2.2.2.2.2.1 _ _ _ _ 4 5 1 64 aWord (issues 0x1000A2AF (by decide +kernel) (by decide +kernel)) ?_ ?_ ?_ ?_ ?_) <;> decide +kernel,
   by refine runs (h.2.2.2.2.2.2.1 _ _ _ _ 4 5 1 2 64 aWord (issues 0x1820A2AF (by decide +kernel) (by decide +kernel)) ?_ ?_ ?_ ?_) <;> decide +kernel,
   by refine runs (h.2.2.2.2.2.2.1 _ _ _ _ 4 5 1 2 64 aWord (issues 0x1820A2AF (by decide +kernel) (by decide +kernel)) ?_ ?_ ?_ ?_) <;> decide +kernel,
   by refine runs (h.2.2.2.2.2.2.2.1 _ _ _ _ 4 0 5 1 2 64 aWord (issues 0x0020A2AF (by decide +kernel) (by decide +kernel)) ?_ ?_ ?_ ?_ ?_) <;> decide +kernel,
   runs (h.2.2.2.2.2.2.2.2.1 _ _ _ _ 4 (issues 0x0FF0000F (by decide +kernel) (by decide +kernel)) (by decide +kernel) ⟨(by decide +kernel), (by decide +kernel), (by decide +kernel)⟩),
   runs (h.2.2.2.2.2.2.2.2.2.1 _ _ _ _ 4 (issues 0x0000100F (by decide +kernel) (by decide +kernel))),
   runs (h.2.2.2.2.2.2.2.2.2.2 _ _ _ _ _ _ 0xFFFFFFC0 _ rfl (by decide +kernel) rfl (by decide) (by decide) (by decide +kernel))⟩

theorem witness_XqtallyInstructionsExecute (h : Obligations.XqtallyInstructionsExecute) :
    Completes (.xqPost 1200 63) (engRun 0x60B5000B [(10, 0xFFFFFFFF), (11, 1), (12, 2)] (fun e => { e with marks := 0x1000 })) ∧
    Completes (.xqWait 1200 63) (xqRun (.wait 31 1 2 7) [(1, 0xFFFFFFFF), (2, 9)]) ∧
    Completes (.waitEnd 1200 63) (engAt (fun e => { e with busy := .wait 2 0xFFFFFFF 0 31 1200 })) ∧
    Completes (.xqDone 1200 63) (xqRun (.done 31) [] (fun e => e.setCsr csrXqtask 0x8FFFFFFF)) ∧
    Completes (.engineDoneReport 1200 63) (doneSent) ∧
    Completes (.xqCancel 1200 63) (xqRun (.cancel 31 1) [(1, 0xFFFFFFFF)]) ∧
    Completes (.xqPsel 1200 63) (xqRun (.psel 0 1) [(1, 0x00010037)]) ∧
    Completes (.pselResult 1200 63) (pselBack) ∧
    Completes (.engineSelectAtBeam 1200 127) (selecting) ∧
    Completes (.xqSacq 1200 63) (xqRun (.sacq 31 1) [(1, 95)]) ∧
    Completes (.xqSrel 1200 63) (xqRun (.srel 31 1 2) [(1, 95), (2, 0x1FF)]) :=
  ⟨runs (h.1 _ _ _ _ 4 10 11 12 (issues 0x60B5000B (by decide +kernel) (by decide +kernel)) (by decide +kernel)),
   runs (h.2.1 _ _ _ _ 4 31 1 2 7 (issues (Xq.encode (.wait 31 1 2 7)).toNat (by decide +kernel) (by decide +kernel)) (by decide +kernel)),
   by refine runs (h.2.2.1 _ _ _ _ 2 0xFFFFFFF 0 31 1200 1 0xFFFFFFF none rfl ?_ ?_ ?_ ?_) <;> decide +kernel,
   runs (h.2.2.2.1 _ _ _ _ 4 31 (issues (Xq.encode (.done 31)).toNat (by decide +kernel) (by decide +kernel)) (by decide +kernel)),
   by refine runs (h.2.2.2.2.1 _ _ _ _ _ _ rfl rfl ?_ ?_ ?_ ?_) <;> decide +kernel,
   runs (h.2.2.2.2.2.1 _ _ _ _ 4 31 1 (issues (Xq.encode (.cancel 31 1)).toNat (by decide +kernel) (by decide +kernel))),
   runs (h.2.2.2.2.2.2.1 _ _ _ _ 4 _ _ 0 1 (issues (Xq.encode (.psel 0 1)).toNat (by decide +kernel) (by decide +kernel)) rfl rfl),
   by refine runs (h.2.2.2.2.2.2.2.1 _ _ _ _ 3 31 1200 rfl ?_ ?_ ?_ ?_) <;> decide +kernel,
   runs (h.2.2.2.2.2.2.2.2.1 _ _ _ 63 1215 _ 1194 1200 7 3 rfl (by decide +kernel) (by decide +kernel) (by decide) (by decide) (by decide +kernel) (.inl (by decide +kernel)) (by decide +kernel) (by decide +kernel)),
   runs (h.2.2.2.2.2.2.2.2.2.1 _ _ _ _ 4 _ 31 1 (issues (Xq.encode (.sacq 31 1)).toNat (by decide +kernel) (by decide +kernel)) rfl (by decide +kernel)),
   runs (h.2.2.2.2.2.2.2.2.2.2 _ _ _ _ 4 _ _ 31 1 2 (issues (Xq.encode (.srel 31 1 2)).toNat (by decide +kernel) (by decide +kernel)) rfl rfl (by decide +kernel))⟩

theorem witness_XqtallyMemoryInstructionsExecute (h : Obligations.XqtallyMemoryInstructionsExecute) :
    Completes (.xqPtest 1200 63) (xqRun (.ptest 31 0 71) []) ∧
    Completes (.xqLd64 1200 63) (xqRun (.ld64 30 0 64) []) ∧
    Completes (.xqSd64 1200 63) (xqRun (.sd64 0 30 64) [(30, 1), (31, 2)]) :=
  ⟨by refine runs (h.1 _ _ _ _ 4 64 64 31 0 71 aWord (issues (Xq.encode (.ptest 31 0 71)).toNat (by decide +kernel) (by decide +kernel)) (by decide) ?_ ?_ ?_ ?_) <;> decide +kernel,
   runs (h.2.1 _ _ _ _ 4 64 64 30 0 64 aWord (issues (Xq.encode (.ld64 30 0 64)).toNat (by decide +kernel) (by decide +kernel)) (by decide) (by decide +kernel) (by decide) (by decide +kernel) (by decide +kernel) (by decide) (by decide +kernel) (by decide +kernel)),
   runs (h.2.2 _ _ _ _ 4 64 64 0 30 64 (issues (Xq.encode (.sd64 0 30 64)).toNat (by decide +kernel) (by decide +kernel)) (by decide +kernel) (by decide) (by decide +kernel) (by decide +kernel))⟩

theorem witness_EnginesTakeInterruptsControlAndMail (h : Obligations.EnginesTakeInterruptsControlAndMail) :
    Completes (.engineInterrupt 1200 63) (interrupted) ∧
    Completes (.engineTimerExpiry 1200 63) (w [(Reg.ENG_TIMECMP_LO 63, 100), (Reg.ENG_TIMECMP_HI 63, 0)] (inMode 6)) ∧
    Completes (.engineReset 1200 0 63 0) (engAt id) ∧
    Completes (.engineRun 1200 0 63) (engAt id) ∧
    Completes (.engineHalt 1200 0 63) (engAt id) ∧
    Completes (.engineHalt 1200 0 63) (postFull) ∧
    Completes (.engineRun 1200 1 0) (inMode 6) ∧
    Completes (.engMboxInWrite 1200 0 63 0xFFFFFFFF) (mail 0 0) ∧
    Completes (.engMboxInWrite 1200 0 63 0xFFFFFFFF) (mail 0 1) ∧
    Completes (.engMboxOutWrite 1200 0 63 0xFFFFFFFF) (mail 0 0) ∧
    Completes (.mboxNonce 1200) (firmware) :=
  ⟨runs (h.1 _ _ _ _ 3 rfl (by decide +kernel) (by decide +kernel) (.inl (by decide +kernel)) (by decide +kernel)),
   runs (h.2.1 _ _ _ _ rfl (by decide +kernel) (by decide +kernel)),
   runs (h.2.2.1 _ _ _ _ _ _ ⟨(by decide +kernel), rfl⟩ (.inl (by decide)) (by decide)),
   by refine runs (h.2.2.2.1 _ _ _ _ _ ⟨(by decide +kernel), rfl⟩ (.inl (by decide)) (by decide) ?_ ?_ ?_ ?_) <;> decide +kernel,
   by refine runs ((h.2.2.2.2.1 _ _ _ _ _ ⟨(by decide +kernel), rfl⟩ (.inl (by decide)) (by decide) ?_ ?_ ?_).1 (by decide +kernel)) <;> decide +kernel,
   by refine runs ((h.2.2.2.2.1 _ _ _ _ _ ⟨(by decide +kernel), rfl⟩ (.inl (by decide)) (by decide) ?_ ?_ ?_).2 (by decide +kernel)) <;> decide +kernel,
   runs (runEq (h.2.2.2.2.2.1 (inMode 6) _ 1200 1 0 (.engineRun 1200 1 0) ⟨(by decide +kernel), rfl⟩ (by decide) (by decide))),
   runs ((h.2.2.2.2.2.2.1 _ _ _ _ _ _ ⟨(by decide +kernel), rfl⟩).1 (by decide +kernel)),
   runs ((h.2.2.2.2.2.2.1 _ _ _ _ _ _ ⟨(by decide +kernel), rfl⟩).2 (by decide +kernel)),
   runs (h.2.2.2.2.2.2.2.1 _ _ _ _ _ _ ⟨(by decide +kernel), rfl⟩),
   runs (h.2.2.2.2.2.2.2.2 _ _ _ 0xFFFFFF rfl (by decide +kernel))⟩

/-! ### Chapter 08 -/

/-- Scratch bank 95 has an owner; a handover of it is asked for or under way. -/
def bank95 (own : Nat) (f : Scr → Scr := id) : State :=
  let s := put [(Reg.SCR_OWN 95, Fld.SCR_OWN_OWNER, own)] (inMode 6)
  { s with scr := f s.scr }
def asking (own by_ new : Nat) (clear : Bool := false) : State := bank95 own (fun x => { x with asks := [⟨95, by_, none, new, clear, 1200⟩] })
def handover (left : List (Nat × Nat)) (clearAt : Option Nat) : Handover := ⟨0x7F, 0xFF, false, 0, none, left, none, clearAt⟩
def handing (h : Handover) : State :=
  put [(Reg.SCR_OWN 95, Fld.SCR_OWN_STATE, 1)] (bank95 0x7F (fun x => { x with hov := [(95, h)], mem := [(scrKey 94 0, 1), (scrKey 95 0, 1)] }))
def lastWord : Nat := scrBase + 95 * 0x40000 + 0x3FFF8
def bankReq (src : Nat) (kind : ReqKind) (data : List Byte) (s : State) : State :=
  withReq (aReq src kind lastWord 8 data { aPart 31 portSCR lastWord 8 with arrivedAt := none }) s
def owned : State := bank95 0x7F (fun x => { x with mem := [(scrKey 95 32767, encodeWord 5)] })
def onPortQ : Part := aPart 31 portSCR lastWord 8
def onPortR (kind : ReqKind) (data : List Byte) : Request := aReq 63 kind lastWord 8 data onPortQ
def onPort (kind : ReqKind) (data : List Byte) (w : Word72) : State :=
  withReq (onPortR kind data) (bank95 0x7F (fun x => { x with mem := [(scrKey 94 32767, 1), (scrKey 95 32767, w)], wait := [(95, [⟨3, 0, 0, 0, [], false⟩])] }))
def moving : State := bank95 0x7F (fun x => { x with hov := [(95, handover [(0, 0)] none)] })
def writingBack : State := bank95 0x7F (fun x => { x with mem := [(scrKey 95 32767, 0)], back := [(scrKey 95 32767, 5)] })
def gateBank (own cfg : Nat) : State := w [(Reg.SCR_OWN 95, own), (Reg.SCR_CFG 95, cfg)] (inMode 6)


theorem witness_ScratchBanksChangeOwner (h : Obligations.ScratchBanksChangeOwner) :
    Completes (.scrHandoverWrite 1200 0xC0 95 0x1FF) (bank95 1) ∧
    Completes (.handoverEvaluate 1200 95) (asking 0 0x40 0xFF) :=
  ⟨runs (h.1 _ _ _ _ _ _ ⟨(by decide +kernel), rfl⟩),
   runs ((h.2.1 _ _ _ _ 0x40 0xFF 1200 false rfl rfl (by decide) (by decide) (by decide)).1 (by decide +kernel) rfl (.inl (by decide +kernel)))⟩

theorem witness_ScratchBanksChangeOwner_2 (h : Obligations.ScratchBanksChangeOwner) :
    Completes (.handoverEvaluate 1200 95) (asking 0 0x40 0xFF true) ∧
    Completes (.handoverEvaluate 1200 95) (asking 0x7F 0x40 0x7F true) :=
  ⟨runs ((h.2.1 _ _ _ _ 0x40 0xFF 1200 true rfl rfl (by decide) (by decide) (by decide)).2.1 (by decide +kernel) rfl (by decide +kernel)),
   runs ((h.2.1 _ _ _ _ 0x40 0x7F 1200 true rfl rfl (by decide) (by decide) (by decide)).2.2.1 (by decide +kernel) ⟨(by decide +kernel), (by decide +kernel), (by decide +kernel)⟩ (by decide +kernel) (.inl rfl))⟩

theorem witness_ScratchBanksChangeOwner_3 (h : Obligations.ScratchBanksChangeOwner) :
    Completes (.handoverEvaluate 1200 95) (asking 0x7F 0x41 0xFF) :=
  runs ((h.2.1 _ _ _ _ 0x41 0xFF 1200 false rfl rfl (by decide) (by decide) (by decide)).2.2.2 (by decide +kernel))

theorem witness_ScratchBanksChangeOwner_4 (h : Obligations.ScratchBanksChangeOwner) :
    Completes (.drainMarkerArrival 1200 3 0) (bankReq 63 .marker [] (handing (handover [(0, 0)] none))) ∧
    Completes (.scratchClearDone 6144 95) (handing (handover [] (some 0))) ∧
    Completes (.handoverTimeout 786432 95) (handing (handover [(0, 0)] none)) :=
  ⟨runs (h.2.2.1 _ _ _ _ _ 95 _ _ _ rfl rfl rfl rfl (by decide) rfl (by decide +kernel) rfl rfl rfl rfl rfl (by decide +kernel) (by decide)),
   runs (h.2.2.2.1 _ _ _ _ 0 _ rfl rfl rfl (by decide +kernel) rfl (by decide)),
   runs (h.2.2.2.2 _ _ _ _ _ rfl rfl rfl rfl (by decide +kernel) rfl (by decide +kernel))⟩

theorem witness_ScratchAccessesObeyTheOwner (h : Obligations.ScratchAccessesObeyTheOwner) :
    Completes (.scratchAccess 1200 3 0 1) (bankReq 63 .read [] owned) ∧
    Completes (.scratchAccess 1200 3 0 1) (bankReq 191 .write [1, 2, 3, 4, 5, 6, 7, 8] moving) ∧
    Completes (.scratchAccess 1200 3 0 1) (bankReq 62 .read [] owned) ∧
    (((onPort .read [] (encodeWord 5)).runLater (.scratchEdge 95)).waitAt 95 = []) ∧
    (((onPort .write [1, 2, 3, 4, 5, 6, 7, 8] 7).runLater (.scratchEdge 95)).waitAt 95 = []) ∧
    Completes (.scratchCorrectedWriteback 1200 95) (writingBack) :=
  ⟨runs ((h.1 _ _ _ _ _ 1 95 _ _ rfl rfl (by decide +kernel) (by decide +kernel) (by decide) rfl (.inl rfl)).1 true (by decide +kernel)),
   runs ((h.1 _ _ _ _ _ 1 95 _ _ rfl rfl (by decide +kernel) (by decide +kernel) (by decide) rfl (.inr rfl)).2.1 (by decide +kernel)),
   runs ((h.1 _ _ _ _ _ 1 95 _ _ rfl rfl (by decide +kernel) (by decide +kernel) (by decide) rfl (.inl rfl)).2.2 (by decide +kernel) (by decide +kernel)),
   ((h.2.1 (onPort .read [] (encodeWord 5)) _ 3 0 95 0x3FFF8 0 (onPortR .read []) onPortQ rfl (by decide) (by decide +kernel) (by decide +kernel) (by decide +kernel) (by decide +kernel) (by decide) (by decide +kernel) (by decide +kernel) (by decide +kernel) (by decide +kernel) (by decide +kernel) (by decide +kernel)).1 (encodeWord 5) (by decide +kernel) (by decide +kernel) (by decide +kernel)).2.1,
   ((h.2.1 (onPort .write [1, 2, 3, 4, 5, 6, 7, 8] 7) _ 3 0 95 0x3FFF8 0 (onPortR .write [1, 2, 3, 4, 5, 6, 7, 8]) onPortQ rfl (by decide) (by decide +kernel) (by decide +kernel) (by decide +kernel) (by decide +kernel) (by decide) (by decide +kernel) (by decide +kernel) (by decide +kernel) (by decide +kernel) (by decide +kernel) (by decide +kernel)).2 (by decide +kernel)).2.1,
   by refine runs (h.2.2 _ _ _ _ (scrKey 95 32767) 5 rfl ?_ ?_ ?_ ?_) <;> decide +kernel⟩

theorem witness_ScratchGateAdmitsOwnerAndGrantee (h : Obligations.ScratchGateAdmitsOwnerAndGrantee) :
    ((∃ o, (gateBank 0xFF 0).scrGate 95 0xBF 3 7 = .serve o)) ∧
    ((gateBank 0x7F 0).scrGate 95 0xBF 3 7 ≠ .hold) :=
  ⟨(h _ 95 0xBF 3 7 (by decide +kernel)).1.2 (.inl ⟨(by decide +kernel), (by decide +kernel), (by decide +kernel)⟩),
   (h _ 95 0xBF 3 7 (by decide +kernel)).2⟩

/-! ### Chapters 09 and 10 -/

/-- A clean flit with this header and an empty payload. -/
def aFlit (h : BitVec 128) : Flit := { (default : Flit) with vc := 0, segs := encodeSeg h false false :: List.replicate 8 (encodeSeg 0 false false) }
def eastward : BitVec 128 := 0x200000000000000000000
def onTx (f : LinkTx → LinkTx) : State := let s := inMode 6; s.setLtx 63 3 (f (s.ltx 63 3))
def onRx (f : LinkRx → LinkRx) : State := let s := inMode 6; s.setLrx 63 3 (f (s.lrx 63 3))
/-- A flit whose second segment has an uncorrectable error. -/
def twoBad : Flit := { aFlit 0 with segs := (aFlit 0).segs.set 1 (encodeSeg 0 false false ^^^ 3#137) }
def leaking : State := put [(Reg.NOC_LINK_POLICY, Fld.NOC_LINK_POLICY_LEAK, 1), (Reg.NOC_LINK 63 3, Fld.NOC_LINK_BUCKET, 1)] (inMode 6)
def nocSt (l : List (Nat × Field × Nat)) : State := put l (inMode 6)
def flipping : State := nocSt [(Reg.NOC_STATUS, Fld.NOC_STATUS_FLIP_STATE, 1)]
def limits (i g : Nat) : State := w [(Reg.NOC_INIT_LIMIT, i), (Reg.NOC_TGT_LIMIT, g)] (inMode 6)
/-- The route of router 0 to router 31 is valid. -/
def routed : State :=
  put [(Reg.NOC_RT_HI 0 0 31, Fld.NOC_RT_HI_VALID, 1)] (inMode 6)
def req0 (kind : ReqKind) (q : Part) : Request := aReq 0xC0 kind lastWord 8 [] q
def unanswered : State := withReq { aReq 0xC0 .read 0 8 [] (aPart 0 portAUX 0 8) with parts := [], self := some 3, acceptedAt := 1188, injAt := none } (inMode 6)
def waiting : State := withReq (req0 .read (aPart 31 portSCR lastWord 8)) (w [(Reg.NOC_INIT_LIMIT, 1100), (Reg.NOC_TGT_LIMIT, 50)] (inMode 6))
def wrote : State := (inMode 6).setTargets 0xC0 0 7 [(31, portSCR), (0, portAUX)]
def fencing (ret : Bool) : State :=
  withReq { aReq 0xC0 .fence 0 0 [] (aPart 31 portSCR 0 0) with
    parts := [{ aPart 31 portSCR 0 0 with performed := ret, returned := ret }] } (inMode 6)
def aWerr : LogPend := ⟨99, 0xC0, 0x1C4C0, [(Reg.DEV_WERR_ADDR_LO, 8), (Reg.DEV_WERR_ADDR_HI, 1)], none, false, 1200, false, false⟩
def werrLogged (v : Nat) : State := { put [(Reg.DEV_WERR_LOG, logValid, v)] (inMode 6) with logs := [(Reg.DEV_WERR_LOG, aWerr)] }
def failing : State :=
  withReq (aReq 0xC0 .write lastWord 8 [] { aPart 31 portSCR lastWord 8 with performed := true, answer := some (codeAnswer 4) }) (inMode 6)


theorem witness_LinksCarryRetryRetireAndDie (h : Obligations.LinksCarryRetryRetireAndDie) :
    Completes (.flitArrival 1200 63 3 (aFlit eastward) none) (inMode 6) ∧
    Completes (.flitArrival 1200 63 9 (aFlit 0x500000000) none) (inMode 6) ∧
    Completes (.flitArrival 1200 63 3 twoBad none) (inMode 6) ∧
    Completes (.flitArrival 1200 63 3 (aFlit 0x500000000) none) (onRx (fun x => { x with nakSent := true })) ∧
    Completes (.linkNak 1200 63 3 7) (onTx (fun x => { x with replay := [(6, aFlit 0, 0), (7, aFlit 0, 5)] })) ∧
    Completes (.linkAck 1200 63 3 7) (onTx (fun x => { x with replay := [(6, aFlit 0, 0), (7, aFlit 0, 0), (8, aFlit 0, 0)] })) ∧
    Completes (.linkAckSend 1200 63 3) (onRx (fun x => { x with sinceAck := 16 })) ∧
    Completes (.bucketLeak 1200 63 3) (leaking) ∧
    Completes (.linkDeath 1200 63 3 []) (onTx (fun x => { x with replay := [(7, aFlit 0, 64)] })) ∧
    Completes (.nocLinkRetireWrite 1200 0 63 3) (inMode 6) :=
  ⟨by refine runs (h.1 _ _ _ _ _ 1 0 0 0 false _ (aFlit eastward) _ (aFlit eastward).segs rfl (by decide) ?_ ?_ ?_ ?_ ?_ ?_ ?_ ?_ ?_ rfl) <;> decide +kernel,
   runs (h.2.1 _ _ _ _ _ 0 true _ (aFlit 0x500000000) (aFlit 0x500000000).segs none rfl (by decide +kernel) (by decide +kernel) (.inr ⟨(by decide +kernel), (by decide +kernel), (by decide +kernel)⟩)),
   runs (h.2.1 _ _ _ _ _ 0 false _ twoBad twoBad.segs none rfl (by decide +kernel) (by decide +kernel) (.inl ⟨.inl (by decide +kernel), rfl⟩)),
   by refine runs (h.2.2.1 _ _ _ _ _ 0 true _ (aFlit 0x500000000) (aFlit 0x500000000).segs none rfl ?_ ?_ ?_ ?_ ?_) <;> decide +kernel,
   runs (h.2.2.2.1 _ _ _ _ _ _ rfl (by decide) (by decide +kernel)),
   runs (h.2.2.2.2.1 _ _ _ _ _ _ (7, aFlit 0, 0) [(8, aFlit 0, 0)] rfl (by decide +kernel) (by decide)),
   runs (h.2.2.2.2.2.1 _ _ _ _ _ rfl (.inl (by decide))),
   runs (h.2.2.2.2.2.2.1 _ _ _ _ _ 1 1 rfl (by decide) (by decide) (by decide) (by decide) (by decide)),
   runs (h.2.2.2.2.2.2.2.1 _ _ _ _ _ [] rfl (by decide) (by decide) ⟨_, .head _, (by decide)⟩ (by decide)),
   runs (h.2.2.2.2.2.2.2.2 _ _ _ _ _ _ ⟨(by decide), rfl⟩ (by decide) (by decide) (by decide))⟩

theorem witness_RoutesEpochsAndLimitsChange (h : Obligations.RoutesEpochsAndLimitsChange) :
    Completes (.nocRecompute 1200 0) (inMode 6) ∧
    Completes (.nocRecompute 1200 0) (nocSt [(Reg.NOC_STATUS, Fld.NOC_STATUS_RECOMP_BUSY, 1)]) ∧
    Completes (.nocFlip 1200 0) (inMode 6) ∧
    Completes (.nocFlip 1200 0) (flipping) ∧
    Completes (.flipComplete 1200) (flipping) ∧
    Completes (.nocLimitWrite 1200 0 true 1124) (limits 2000 100) ∧
    Completes (.nocLimitWrite 1200 0 true 1123) (limits 2000 100) ∧
    Completes (.nocLimitWrite 1200 0 false 976) (limits 2000 100) ∧
    Completes (.nocRtWrite 1200 0 63 1 63 true 0xFFFFFFFF) (inMode 6) ∧
    Completes (.nocRtWrite 1200 0 63 0 63 true 0xFFFFFFFF) (inMode 6) ∧
    Completes (.nocRtWrite 1200 0 63 1 63 false 0xFFFFFFFF) (inMode 6) ∧
    Completes (.statSnap 1200 0) (inMode 6) :=
  ⟨runs ((h.1 _ _ _ _ ⟨(by decide), rfl⟩).1 (by decide)),
   runs ((h.1 _ _ _ _ ⟨(by decide), rfl⟩).2.1 (by decide)),
   runs ((h.1 _ _ _ _ ⟨(by decide), rfl⟩).2.2.1 (by decide)),
   runs ((h.1 _ _ _ _ ⟨(by decide), rfl⟩).2.2.2 (by decide)),
   runs (h.2.1 _ _ _ rfl (by decide) (by decide) (by decide)),
   runs ((h.2.2.1 _ _ _ _ _ ⟨(by decide), rfl⟩).1 (by decide)),
   runs ((h.2.2.1 _ _ _ _ _ ⟨(by decide), rfl⟩).2 (by decide)),
   runs (h.2.2.2.1 _ _ _ _ _ ⟨(by decide), rfl⟩ (by decide)),
   runs ((h.2.2.2.2.1 _ _ _ _ _ _ _ _ ⟨(by decide), rfl⟩).1 (by decide)),
   runs ((h.2.2.2.2.1 _ _ _ _ _ _ _ _ ⟨(by decide), rfl⟩).2 (by decide)),
   runs (h.2.2.2.2.2.1 _ _ _ _ _ _ _ _ ⟨(by decide), rfl⟩ (by decide)),
   runs (h.2.2.2.2.2.2 _ _ _ _ ⟨(by decide), rfl⟩ (by decide))⟩

theorem witness_RequestsFencesAndTimeLimits (h : Obligations.RequestsFencesAndTimeLimits) :
    Completes (.nocRequestAccept 1206 0 7 0 lastWord 8 [] [] 5) (routed) ∧
    Completes (.nocRequestAccept 1206 0 7 1 lastWord 8 [1, 2, 3, 4, 5, 6, 7, 8] [true] 5) (routed) ∧
    Completes (.nocRequestAccept 1200 0 7 0 0x800000000000 8 [] [] 5) (inMode 6) ∧
    Completes (.nocRequestAccept 1200 0 7 2 lastWord 8 [] [] 5) (inMode 6) ∧
    Completes (.interfaceSelfAnswer 1200 3) (unanswered) ∧
    Completes (.targetLimitTimeout 1200 3 0) (waiting) ∧
    Completes (.initiatorTimeout 13200 3) (waiting) ∧
    Completes (.fenceAccept 1200 0xC0 7 5) (wrote) ∧
    Completes (.fencePacketAtTarget 1200 3 0) (fencing false) ∧
    Completes (.fenceComplete 1200 3) (fencing true) ∧
    Completes (.writeFailureAckArrival 1200 3 0) (failing) ∧
    (((werrLogged 0).runLater (.logTake Reg.DEV_WERR_LOG)).fld Reg.DEV_WERR_LOG logValid = 1) ∧
    (((werrLogged 1).runLater (.logTake Reg.DEV_WERR_LOG)).fld Reg.DEV_WERR_LOG logMore = 1) :=
  ⟨runs (h.1 _ _ _ 0 7 _ _ 5 [] [] [⟨lastWord, 8, 31, portSCR⟩] rfl (by decide) ⟨(by decide +kernel), (by decide +kernel), (by decide +kernel)⟩ (okOf (by decide +kernel)) (by decide +kernel)),
   runs (h.2.1 _ _ _ 0 7 _ _ 5 [1, 2, 3, 4, 5, 6, 7, 8] [true] [⟨lastWord, 8, 31, portSCR⟩] rfl (by decide) (by decide +kernel) (okOf (by decide +kernel))),
   runs (h.2.2.1 _ _ _ 0 7 0 _ _ 5 3 [] [] rfl (by decide) (.inl rfl) (errOf (by decide +kernel))),
   runs (h.2.2.2.1 _ _ _ 0 7 2 _ _ 5 [] [] rfl (by decide) (by decide) (by decide) (by decide)),
   by refine runs (h.2.2.2.2.1 _ _ _ _ 3 _ rfl ⟨(by decide +kernel), (by decide +kernel), (by decide +kernel)⟩ rfl rfl (by decide +kernel) (by decide +kernel) rfl ?_ ?_ ?_ rfl (by decide) rfl) <;> decide +kernel,
   runs (h.2.2.2.2.2.1 _ _ _ _ _ 0 _ _ rfl rfl rfl rfl rfl rfl (by decide +kernel) (by decide +kernel)),
   by refine runs (h.2.2.2.2.2.2.1 _ _ _ _ _ rfl ⟨(by decide +kernel), (by decide +kernel), (by decide +kernel)⟩ rfl rfl (by decide) rfl rfl ?_ ?_ ?_ ?_) <;> decide +kernel,
   by refine runs (h.2.2.2.2.2.2.2.1 _ _ _ _ _ 5 rfl ⟨(by decide +kernel), (by decide +kernel), (by decide +kernel)⟩ (by decide) (by decide) ?_ ?_ ?_) <;> decide +kernel,
   by refine runs (h.2.2.2.2.2.2.2.2.1 _ _ _ _ _ _ _ rfl rfl rfl ?_ ?_ ?_) <;> decide +kernel,
   by refine runs (h.2.2.2.2.2.2.2.2.2.1 _ _ _ _ _ rfl ⟨(by decide +kernel), (by decide +kernel), (by decide +kernel)⟩ rfl rfl rfl ?_ ?_ ?_ rfl (by decide +kernel)) <;> decide +kernel,
   runs (h.2.2.2.2.2.2.2.2.2.2.1 _ _ _ _ _ _ _ (codeAnswer 4) rfl rfl rfl rfl rfl rfl rfl rfl (by decide) (by decide) (by decide) rfl),
   ((h.2.2.2.2.2.2.2.2.2.2.2 (werrLogged 0) _ aWerr rfl (by decide) (by decide) (by decide)).1 (by decide +kernel)).1,
   ((h.2.2.2.2.2.2.2.2.2.2.2 (werrLogged 1) _ aWerr rfl (by decide) (by decide) (by decide)).2 (by decide +kernel)).1⟩

/-! ### Chapter 11 -/

def lastDirect : Nat := cacheBase + 14 * 2 ^ 28 + 0xFFFFFF8
def pl14 : Nat := cacheLine 60 14 16383
def onCache (f : Cache → Cache) (s : State) : State := { s with cache := f s.cache }
/-- Way 14 in a use, its last word clean, with a request for that word. -/
def directPart : Part := aPart 60 portCACHE lastDirect 8
def directReq (kind : ReqKind) : Request := aReq 0xC0 kind lastDirect 8 [1, 2, 3, 4, 5, 6, 7, 8] directPart
/-- A part that has not reached its target; an access in its time. -/
def yet (q : Part) : Part := { q with arrivedAt := none }
def yetReq (r : Request) : Request := { r with parts := r.parts.map yet }
def inTime (s : State) : State := onCache (fun x => { x with acc := [⟨3, 0, 0⟩] }) s
def direct (use : Nat) (r : Request) (slice : Nat := 0) (die : Nat := 0) : State :=
  let s := w [(Reg.CACHE_WAY_CFG 14, use), (Reg.CACHE_SLICE 60, slice), (Reg.RST_DIE 7, die)] (inMode 6)
  withReq r (onCache (fun x => { x with mem := [(32 * pl14 + 31, encodeWord 5)] }) s)
/-- A forward for the word at 0xFFFFF8 reaches slice 63; way 3 may hold its line. -/
def fwdPart : Part := aPart 63 portCACHE 0xFFFFF8 8
def fwdReq (data : List Byte := []) : Request := aReq srcCache .forward 0xFFFFF8 8 data fwdPart
def forward (s : State) (f : Cache → Cache) (r : Request := yetReq fwdReq) : State := withReq r (onCache f s)
def hitLine : CacheTag := ⟨extTag 0xFFFFF8, true, false⟩
def hitting (x : Cache) : Cache :=
  { x with tags := [(cacheLine 63 3 (extSet 0xFFFFF8), (encodeWord hitLine.word, encodeWord hitLine.word))],
           mem := [(32 * cacheLine 63 3 (extSet 0xFFFFF8) + 31, encodeWord 5)] }
def allDirect : State := w ((List.range 16).map (fun i => (Reg.CACHE_WAY_CFG i, 1))) (inMode 6)
def failed : Delivered := { aResp srcCache .read 0 0xFFFF00 4 [] with id := 9 }
def failedFill : State :=
  withInbox [failed]
    (forward (inMode 6) (fun x => { x with fills := [⟨63, extLine 0xFFFF00, 9, [3]⟩] }) fwdReq)
def filled : Delivered := { failed with code := 0, bytes := (List.range 256).map (BitVec.ofNat 8) }
def filledFill : State := { failedFill with noc := { failedFill.noc with inbox := [filled] } }
def cmdBusy (b : Nat) : State := put [(Reg.CACHE_CMD_STATUS, Fld.CACHE_CMD_STATUS_BUSY, b)] (inMode 6)
def lastScrub : Nat := scrBase + 0x17FFF00
def scrubbing (x : Option Scrub) (busy lo len : Nat) : State :=
  { put [(Reg.SCRUB_STATUS, Fld.SCRUB_STATUS_BUSY, busy), (Reg.NOC_RT_HI (initRouter srcScrub) 0 31, Fld.NOC_RT_HI_VALID, 1)]
    (w [(Reg.SCRUB_BASE_LO, lo), (Reg.SCRUB_BASE_HI, 0x90), (Reg.SCRUB_LEN, len)] (inMode 6)) with scrub := x }
/-- Lines to scrub: of bank 95, of way 14, of slice 63, of channel 3. -/
def bankScrubPart : Part := aPart 31 portSCR lastScrub 256
def bankScrub : Request := aReq srcScrub .scrub lastScrub 256 [] bankScrubPart
def scrubAtBank : State :=
  let s := withReq bankScrub (inMode 6)
  { s with scr := { s.scr with zeroed := [95] } }
def scrubAtRow : State :=
  { scrubAtBank with scr := { scrubAtBank.scr with wait := [(95, [⟨3, 0, 2, 1, List.replicate 16 (encodeWord 0), false⟩])] } }
def lineScrubPart : Part := aPart 60 portCACHE (lastDirect - 0xF8) 256
def lineScrub : Request := aReq srcScrub .scrub (lastDirect - 0xF8) 256 [] lineScrubPart
def ownScrubPart : Part := aPart 63 portCACHE (cacheLine 63 3 (extSet 0xFFFFF8)) 256
def ownScrub : Request := { aReq srcScrub .scrub (cacheLine 63 3 (extSet 0xFFFFF8)) 256 [] ownScrubPart with tag := 3 }
def extScrubPart : Part := aPart 63 portAUX 0xFFFF00 256
def extScrub : Request := aReq srcScrub .scrub 0xFFFF00 256 [] extScrubPart
def extScrubbed : State :=
  withReq extScrub (put [(Reg.EMC_STATUS, Fld.EMC_STATUS_MAPPED, 1), (Reg.EMC_CH_STATUS 3, Fld.EMC_CH_STATUS_STATE, 4),
    (Reg.EMC_CH_CFG 3, Fld.EMC_CH_CFG_CAP, 128), (Reg.PWR_DOM_STATUS (domChannel 3), Fld.PWR_DOM_STATUS_STATE, dsOn)] (w [(Reg.EMC_FILLED 0, 0x8000)] (inMode 6)))
def scrubbed (code : Nat) : Delivered := { aResp srcScrub .scrub 1 lastScrub code (List.replicate 24 0) with len := 256 }
def aScrub : Scrub := ⟨1, lastScrub, 1, false, none⟩
def scrubBack (code left : Nat) : State :=
  withInbox [scrubbed code] (scrubbing (some ⟨1, lastScrub, left, false, none⟩) 1 0 0)


theorem witness_CacheServesDirectLinesAndForwards (h : Obligations.CacheServesDirectLinesAndForwards) :
    Completes (.cacheRequest 1200 3 0) (direct 1 (yetReq (directReq .read))) ∧
    (((inTime (direct 1 (directReq .read))).runLater .cacheServe).cache.acc = []) ∧
    (((inTime (direct 1 (directReq .write))).runLater .cacheServe).cache.acc = []) ∧
    Completes (.cacheRequest 1200 3 0) (direct 0 (yetReq (directReq .read))) ∧
    Completes (.cacheRequest 1200 3 0) (direct 1 (yetReq (directReq .write)) 0x4000) ∧
    Completes (.cacheRequest 1200 3 0) (direct 1 (yetReq (directReq .write)) 0 0x40000000) ∧
    (((inTime (forward (inMode 6) hitting fwdReq)).runLater .cacheServe).cache.acc = []) ∧
    (((inTime (forward (inMode 6) hitting (fwdReq [1, 2, 3, 4, 5, 6, 7, 8]))).runLater .cacheServe).cache.acc = []) ∧
    Completes (.cacheRequest 1200 3 0) (forward allDirect id) ∧
    Completes (.cacheRequest 1200 3 0) (forward (inMode 6) id) ∧
    Completes (.cacheFillResponse 1200 9 0) (failedFill) ∧
    Completes (.cacheFillResponse 1200 9 0) (filledFill) :=
  ⟨runs (h.1 _ _ _ 3 0 (yetReq (directReq .read)) (yet directPart) rfl (by decide +kernel) rfl (.inr (.inl rfl)) (by decide +kernel) (by decide +kernel)),
   ((h.2.1 (inTime (direct 1 (directReq .read))) _ 3 0 0 lastDirect 14 60 16383 pl14 (directReq .read) directPart rfl rfl (by decide) (by decide +kernel) rfl rfl (by decide +kernel) rfl (by decide) (by decide) (by decide) rfl (by decide +kernel) (by decide +kernel) (by decide +kernel) (by decide +kernel)).1 (encodeWord 5) rfl (by decide +kernel) (by decide +kernel)).2.1,
   ((h.2.1 (inTime (direct 1 (directReq .write))) _ 3 0 0 lastDirect 14 60 16383 pl14 (directReq .write) directPart rfl rfl (by decide) (by decide +kernel) rfl rfl (by decide +kernel) rfl (by decide) (by decide) (by decide) rfl (by decide +kernel) (by decide +kernel) (by decide +kernel) (by decide +kernel)).2 rfl (by decide +kernel)).2.1,
   runs (h.2.2.1 _ _ _ 3 0 lastDirect 14 60 16383 rDecode (yetReq (directReq .read)) (yet directPart) rfl (by decide +kernel) (by decide +kernel) rfl rfl (.inl rfl) rfl (by decide +kernel) (by decide +kernel) (.inl ⟨(by decide +kernel), rfl⟩)),
   runs (h.2.2.1 _ _ _ 3 0 lastDirect 14 60 16383 rRetired (yetReq (directReq .write)) (yet directPart) rfl (by decide +kernel) (by decide +kernel) rfl rfl (.inr rfl) rfl (by decide +kernel) (by decide +kernel) (.inr (.inr ⟨(by decide +kernel), (by decide +kernel), (by decide +kernel), rfl⟩))),
   runs (h.2.2.1 _ _ _ 3 0 lastDirect 14 60 16383 rReset (yetReq (directReq .write)) (yet directPart) rfl (by decide +kernel) (by decide +kernel) rfl rfl (.inr rfl) rfl (by decide +kernel) (by decide +kernel) (.inr (.inl ⟨(by decide +kernel), (by decide +kernel), (by decide +kernel), rfl⟩))),
   ((h.2.2.2.1 (inTime (forward (inMode 6) hitting fwdReq)) (forward (inMode 6) hitting fwdReq) _ 3 0 0 63 (extSet 0xFFFFF8) 3 (cacheLine 63 3 (extSet 0xFFFFF8)) fwdReq fwdPart rfl rfl (by decide) (by decide +kernel) rfl rfl rfl rfl rfl rfl rfl (by decide +kernel) rfl (by decide) (by decide) rfl (by decide +kernel)).1 (encodeWord 5) rfl (by decide +kernel) (by decide +kernel)).2.2.1,
   ((h.2.2.2.1 (inTime (forward (inMode 6) hitting (fwdReq [1, 2, 3, 4, 5, 6, 7, 8]))) (forward (inMode 6) hitting (fwdReq [1, 2, 3, 4, 5, 6, 7, 8])) _ 3 0 0 63 (extSet 0xFFFFF8) 3 (cacheLine 63 3 (extSet 0xFFFFF8)) (fwdReq [1, 2, 3, 4, 5, 6, 7, 8]) fwdPart rfl rfl (by decide) (by decide +kernel) rfl rfl rfl rfl rfl rfl rfl (by decide +kernel) rfl (by decide) (by decide) rfl (by decide +kernel)).2 (by decide +kernel)).2.2.1,
   runs ((h.2.2.2.2.1 _ _ _ 3 0 63 (extSet 0xFFFFF8) (yetReq fwdReq) (yet fwdPart) rfl (by decide +kernel) (by decide +kernel) rfl rfl rfl rfl rfl rfl rfl rfl (by decide +kernel)).1 (by decide +kernel)),
   runs ((h.2.2.2.2.1 _ _ _ 3 0 63 (extSet 0xFFFFF8) (yetReq fwdReq) (yet fwdPart) rfl (by decide +kernel) (by decide +kernel) rfl rfl rfl rfl rfl rfl rfl rfl (by decide +kernel)).2 (by decide +kernel) ⟨(by decide +kernel), (by decide +kernel), (by decide +kernel)⟩),
   runs ((h.2.2.2.2.2 _ _ _ _ _ 3 failed ⟨63, extLine 0xFFFF00, 9, [3]⟩ fwdReq rfl (by decide +kernel) rfl rfl (by decide +kernel) (by decide +kernel) rfl rfl rfl (by decide +kernel) (by decide +kernel)).1 (by decide +kernel)),
   runs ((h.2.2.2.2.2 _ _ _ _ _ 3 filled ⟨63, extLine 0xFFFF00, 9, [3]⟩ fwdReq rfl (by decide +kernel) rfl rfl (by decide +kernel) (by decide +kernel) rfl rfl rfl (by decide +kernel) (by decide +kernel)).2 (extSet 0xFFFF00) (plruWalk (filledFill.allocWay 63 (extSet 0xFFFF00)) 0 4 1) (cacheLine 63 (plruWalk (filledFill.allocWay 63 (extSet 0xFFFF00)) 0 4 1) (extSet 0xFFFF00)) 31 (storeWord false (wordOfBytes 0 filled.bytes 31)) (encodeWord (CacheTag.word ⟨extTag 0xFFFFF8, true, false⟩)) rfl (by decide +kernel) rfl (by decide +kernel) (by decide +kernel) rfl (by decide +kernel) (by decide) (by decide +kernel) rfl rfl rfl (by decide +kernel) rfl (by decide) (by decide +kernel) (by decide +kernel) rfl)⟩

theorem witness_CacheCommandsFillAndPasses (h : Obligations.CacheCommandsFillAndPasses) :
    Completes (.cacheCmdFlush 1200 0 0) (cmdBusy 1) ∧
    Completes (.cacheCmdFlushInv 1200 0 0) (cmdBusy 1) ∧
    Completes (.cacheCmdSetuse 1200 0 0) (cmdBusy 1) ∧
    Completes (.cacheCmdFlush 1200 0 0) (cmdBusy 0) ∧
    Completes (.cacheCmdFlushInv 1200 0 0) (cmdBusy 0) ∧
    Completes (.cacheCmdSetuse 1200 0 0xE100) (cmdBusy 0) ∧
    Completes (.cacheCmdSetuse 1200 0 0xE100) (direct 1 (directReq .write) 0x4000) ∧
    Completes (.cacheCorrectedWriteback 1200 60 14) (onCache (fun x => { x with back := [(32 * pl14 + 31, 7)] }) (inMode 6)) ∧
    Completes (.remapSetMove 1200 63) (onCache (fun x => { x with remaps := [⟨63, 14, none, 16382, []⟩] }) (inMode 6)) ∧
    Completes (.cacheFillMode 1200) (inMode 2) ∧
    Completes (.fillEnd 2097152) (onCache (fun x => { x with fillAt := some 0 }) (inMode 2)) :=
  ⟨runs ((h.1 _ _ _ _ 0 ⟨(by decide), rfl⟩).1 (by decide) _ (.inl rfl)),
   runs ((h.1 _ _ _ _ 0 ⟨(by decide), rfl⟩).1 (by decide) _ (.inr (.inl rfl))),
   runs ((h.1 _ _ _ _ 0 ⟨(by decide), rfl⟩).1 (by decide) _ (.inr (.inr rfl))),
   runs (((h.1 _ _ _ _ 0 ⟨(by decide), rfl⟩).2 (by decide)).1),
   runs (((h.1 _ _ _ _ 0 ⟨(by decide), rfl⟩).2 (by decide)).2.1),
   runs ((((h.1 _ _ _ _ 0xE100 ⟨(by decide), rfl⟩).2 (by decide)).2.2 14 rfl (by decide) (by decide)).1 (by decide +kernel)),
   runs ((((h.1 _ _ _ _ 0xE100 ⟨(by decide +kernel), rfl⟩).2 (by decide +kernel)).2.2 14 rfl (by decide) (by decide)).2 (by decide +kernel)),
   runs (h.2.1 _ _ _ _ _ (32 * pl14 + 31) 7 rfl (by decide +kernel)),
   runs (h.2.2.1 _ _ _ _ 14 16382 _ rfl rfl (by decide) rfl (by decide +kernel)),
   runs (h.2.2.2.1 _ _ _ rfl rfl rfl rfl),
   runs (h.2.2.2.2 _ _ _ 0 rfl rfl rfl (by decide +kernel))⟩

theorem witness_ScrubPassesRunAndReport (h : Obligations.ScrubPassesRunAndReport) :
    Completes (.scrubGo 1200 0 1) (scrubbing none 1 0 0) ∧
    Completes (.scrubGo 1200 0 1) (scrubbing none 0 0 0) ∧
    Completes (.scrubGo 1200 0 1) (scrubbing none 0 0x017FFF00 1) ∧
    Completes (.scrubGo 1200 0 3) (scrubbing none 0 0 0) ∧
    Completes (.scrubCancel 1200 0 3) (scrubbing (some aScrub) 1 0 0) :=
  ⟨runs ((h.1 _ _ _ _ 1 _ _ ⟨(by decide), rfl⟩ rfl rfl (by decide)).1 (by decide +kernel)),
   runs ((h.1 _ _ _ _ 1 _ _ ⟨(by decide), rfl⟩ rfl rfl (by decide)).2.1 (by decide +kernel) (by decide) (.inr (.inl (by decide +kernel)))),
   runs ((h.1 _ _ _ _ 1 lastScrub 1 ⟨(by decide), rfl⟩ (by decide +kernel) (by decide +kernel) (by decide)).2.2.1 (by decide +kernel) (.inr ⟨(by decide +kernel), (by decide), (by decide +kernel), (by decide +kernel)⟩)),
   runs ((h.1 _ _ _ _ 3 _ _ ⟨(by decide), rfl⟩ rfl rfl (by decide)).2.2.1 (by decide +kernel) (.inl rfl)),
   runs ((h.1 _ _ _ _ 3 _ _ ⟨(by decide), rfl⟩ rfl rfl (by decide)).2.2.2)⟩

theorem witness_ScrubPassesRunAndReport_2 (h : Obligations.ScrubPassesRunAndReport) :
    Completes (.scrubRequestSend 1206) (scrubbing (some aScrub) 1 0 0) ∧
    Completes (.scrubRequestSend 1206) (onCache hitting (scrubbing (some ⟨3, 0, 1, false, none⟩) 1 0 0)) ∧
    Completes (.scrubRequestSend 1206) (scrubbing (some ⟨3, 0, 1, false, none⟩) 1 0 0) :=
  ⟨runs ((h.2.1 _ _ _ 1 lastScrub 0 none rfl ⟨(by decide +kernel), (by decide +kernel), (by decide +kernel)⟩ rfl rfl).1 [⟨lastScrub, 256, 31, portSCR⟩] (by decide) (okOf (by decide +kernel)) (by decide +kernel)),
   runs ((h.2.1 _ _ _ 3 0 0 none rfl ⟨(by decide +kernel), (by decide +kernel), (by decide +kernel)⟩ rfl rfl).2.1 (cacheLine 63 3 (extSet 0xFFFFF8)) rfl (by decide +kernel)),
   runs ((h.2.1 _ _ _ 3 0 0 none rfl ⟨(by decide +kernel), (by decide +kernel), (by decide +kernel)⟩ rfl rfl).2.2 rfl (by decide +kernel) (by decide +kernel))⟩

theorem witness_ScrubPassesRunAndReport_3 (h : Obligations.ScrubPassesRunAndReport) :
    Completes (.scrubRequestAtTarget 1200 3 0) (scrubAtBank) ∧
    Completes (.scrubRequestAtTarget 1200 3 0) (direct 1 lineScrub) ∧
    Completes (.scrubRequestAtTarget 1200 3 0) (withReq ownScrub (onCache hitting (inMode 6))) ∧
    Completes (.scrubRequestAtTarget 1200 3 0) (extScrubbed) :=
  ⟨runs ((h.2.2.1 _ _ _ 3 0 lastScrub (bankScrub) (bankScrubPart) rfl (by decide +kernel) rfl rfl).1 95 rfl (by decide +kernel) (by decide +kernel)),
   by refine runs ((h.2.2.1 _ _ _ 3 0 (lastDirect - 0xF8) lineScrub lineScrubPart rfl (by decide +kernel) rfl (by decide +kernel)).2.1 14 60 16383 pl14 rfl (by decide) ?_ ?_ ?_ (by decide) (by decide) (by decide) ?_ ?_ ?_ ?_) <;> decide +kernel,
   runs ((h.2.2.1 _ _ _ 3 0 (cacheLine 63 3 (extSet 0xFFFFF8)) ownScrub ownScrubPart rfl (by decide +kernel) rfl (by decide +kernel)).2.2.1 hitLine rfl rfl (by decide +kernel) (by decide +kernel) rfl (.inr (by decide +kernel))),
   by refine runs ((h.2.2.1 _ _ _ 3 0 0xFFFF00 extScrub extScrubPart rfl (by decide +kernel) rfl (by decide +kernel)).2.2.2 3 0xFFFF00 (by decide) (by decide) (by decide +kernel) (by decide) ?_ ?_ ?_ ?_ ?_) <;> decide +kernel⟩

theorem witness_ScrubPassesRunAndReport_4 (h : Obligations.ScrubPassesRunAndReport) :
    ((scrubAtRow.runLater (.scratchEdge 95)).waitAt 95 = []) :=
  (h.2.2.2.1 scrubAtRow _ 95 3 0 0x3FF00 (List.replicate 16 (encodeWord 0)) bankScrub bankScrubPart rfl (by decide) (by decide) (by decide +kernel) rfl rfl rfl rfl rfl rfl rfl (by decide +kernel) (by decide +kernel) (by decide +kernel) (by decide +kernel)).2.1

theorem witness_ScrubPassesRunAndReport_5 (h : Obligations.ScrubPassesRunAndReport) :
    Completes (.scrubAnswer 1200 9 0) (scrubBack 4 1) ∧
    Completes (.scrubAnswer 1200 9 0) (scrubBack 0 1) ∧
    Completes (.scrubAnswer 1200 9 0) (scrubBack 0 0) :=
  ⟨runs ((h.2.2.2.2.1 _ _ _ _ _ (scrubbed 4) ⟨1, lastScrub, 1, false, none⟩ rfl (by decide +kernel) rfl rfl (by decide) rfl).1 (by decide +kernel)),
   runs ((h.2.2.2.2.1 _ _ _ _ _ (scrubbed 0) ⟨1, lastScrub, 1, false, none⟩ rfl (by decide +kernel) rfl rfl (by decide) rfl).2 _ _ _ (by decide +kernel) rfl rfl rfl),
   runs (h.2.2.2.2.2 _ _ _ _ _ (scrubbed 0) ⟨1, lastScrub, 0, false, none⟩ rfl (by decide +kernel) rfl rfl rfl (by decide +kernel))⟩

/-! ### Chapter 12 -/

def emcSt (l : List (Nat × Field × Nat)) : State := put l (inMode 6)
def filling (busy mapped cap start count : Nat) : State :=
  emcSt [(Reg.EMC_FILL_STATUS, Fld.EMC_FILL_STATUS_BUSY, busy), (Reg.EMC_STATUS, Fld.EMC_STATUS_MAPPED, mapped), (Reg.EMC_STATUS, Fld.EMC_STATUS_CAPACITY, cap),
    (Reg.EMC_FILL_START, Fld.EMC_FILL_START_GRANULE, start), (Reg.EMC_FILL_COUNT, Fld.EMC_FILL_COUNT_GRANULE, count)]
/-- The last word of granule 15; channel 3 is mapped alone. -/
def extWord : Nat := 0xFFFFF8
def extPart : Part := aPart 63 portAUX extWord 8
def extReq (kind : ReqKind) : Request := aReq 0xC0 kind extWord 8 [1, 2, 3, 4, 5, 6, 7, 8] extPart
def atEmc (kind : ReqKind) (cacheEn filled : Nat) (f : Emc → Emc := id) (range : Nat := 0) : State :=
  let s := put [(Reg.EMC_STATUS, Fld.EMC_STATUS_MAPPED, 1), (Reg.EMC_CTL, Fld.EMC_CTL_CACHE_EN, cacheEn), (Reg.EMC_CH_STATUS 3, Fld.EMC_CH_STATUS_STATE, 4),
    (Reg.EMC_CH_CFG 3, Fld.EMC_CH_CFG_CAP, 128), (Reg.PWR_DOM_STATUS (domChannel 3), Fld.PWR_DOM_STATUS_STATE, dsOn),
    (Reg.XTS_RANGE_CTL 7, Fld.XTS_RANGE_CTL_EN, range), (Reg.XTS_RANGE_BASE 7, Fld.XTS_RANGE_BASE_GRANULE, 15),
    (Reg.XTS_RANGE_LIMIT 7, Fld.XTS_RANGE_LIMIT_GRANULE, 15)] (w [(Reg.EMC_FILLED 0, filled)] (inMode 6))
  withReq (extReq kind) { s with emc := f s.emc }
def dramJob : EmcJob := ⟨3, 0, none, true, false, [(extWord, 8)], noAnswer⟩
def fwdJob : EmcJob := ⟨3, 0, some 9, false, false, [(extWord, 8)], noAnswer⟩
def fromSlice : Delivered := { aResp srcCache .forward 0 extWord 0 [1, 2, 3, 4, 5, 6, 7, 8] with id := 9 }
def keyed : State :=
  let s := put [(Reg.XTS_RANGE_CTL 7, Fld.XTS_RANGE_CTL_EN, 1), (Reg.XTS_RANGE_CTL 7, Fld.XTS_RANGE_CTL_NEW_LOADED, 7),
    (Reg.XTS_RANGE_BASE 7, Fld.XTS_RANGE_BASE_GRANULE, 15)] (w [(Reg.XTS_KEY_STAGE 7, 0x80000001)] (inMode 6))
  { s with emc := { s.emc with keys := [(4 * 15, 5)] } }
def staged : State := w [(Reg.XTS_KEY_STAGE 7, 0x80000001)] (inMode 6)
def authState : State := (atEmc .read 0 0x8000 (fun e => { e with jobs := [dramJob] }) 1).advance 1200
/-- The tag stored for the line, which is zero, does not match its data. -/
theorem authFails : (authState.readProt 3 0xFFFF00 0xFFFF00 (authState.keyFor 7 extWord none).1 (authState.keyFor 7 extWord none).2 0 0xC0).2 = .auth := by
  decide +kernel
theorem pairIs {α β : Type} {p : α × β} {y : β} (h : p.2 = y) : p = (p.1, y) := h ▸ rfl
def alarmArmed : State :=
  put [(Reg.XTS_ALARM, Fld.XTS_ALARM_POLICY, 1), (Reg.XTS_SLOT 15, Fld.XTS_SLOT_LOADED, 7)] keyed


theorem witness_ExternalMemoryIsTrainedMappedAndFilled (h : Obligations.ExternalMemoryIsTrainedMappedAndFilled) :
    Completes (.emcTrain 1200 0 3 0x8000) (emcSt []) ∧
    Completes (.emcTrain 1200 0 3 0x8000) (emcSt [(Reg.EMC_CH_STATUS 3, Fld.EMC_CH_STATUS_STATE, 3)]) ∧
    Completes (.emcTrain 1200 0 3 0x8000) (emcSt [(Reg.EMC_CH_STATUS 3, Fld.EMC_CH_STATUS_STATE, 4)]) ∧
    Completes (.emcMap 1200 0 0) (emcSt []) ∧
    Completes (.emcMap 1200 0 2) (emcSt [(Reg.EMC_CH_STATUS 3, Fld.EMC_CH_STATUS_STATE, 2), (Reg.EMC_CH_STATUS 0, Fld.EMC_CH_STATUS_STATE, 2), (Reg.EMC_CH_CFG 3, Fld.EMC_CH_CFG_CAP, 255), (Reg.EMC_CH_CFG 0, Fld.EMC_CH_CFG_CAP, 255)]) ∧
    Completes (.emcFillGo 1200 0) (filling 1 0 0 0 0) ∧
    Completes (.emcFillGo 1200 0) (filling 0 0 0 0 0) ∧
    Completes (.emcFillGo 1200 0) (filling 0 1 16 1 16) ∧
    Completes (.emcFillGo 1200 0) (filling 0 1 16 0 16) ∧
    Completes (.emcFillCancel 1200 0) (filling 0 1 16 0 16) :=
  ⟨runs ((h.1 _ _ _ _ _ _ ⟨(by decide), rfl⟩).1 (.inl (by decide +kernel))),
   runs ((h.1 _ _ _ _ _ _ ⟨(by decide), rfl⟩).1 (.inr (by decide +kernel))),
   runs ((h.1 _ _ _ _ _ _ ⟨(by decide), rfl⟩).2 (by decide +kernel) (by decide +kernel)),
   runs ((h.2.1 _ _ _ _ 0 ⟨(by decide), rfl⟩).1 (.inr (by decide +kernel))),
   runs ((h.2.1 _ _ _ _ 2 ⟨(by decide), rfl⟩).2 (by decide +kernel) ⟨3, (by decide), (by decide +kernel)⟩),
   runs ((h.2.2 _ _ _ _ _ _ ⟨(by decide), rfl⟩ rfl rfl).1 (by decide +kernel)),
   runs ((h.2.2 _ _ _ _ _ _ ⟨(by decide), rfl⟩ rfl rfl).2.1 (by decide +kernel) (by decide +kernel)),
   runs ((h.2.2 _ _ _ _ _ _ ⟨(by decide), rfl⟩ rfl rfl).2.2.1 (by decide +kernel) (by decide +kernel) (.inr (by decide +kernel))),
   runs ((h.2.2 _ _ _ _ 0 16 ⟨(by decide), rfl⟩ (by decide +kernel) (by decide +kernel)).2.2.2.1 (by decide +kernel) (by decide +kernel) (by decide) (by decide +kernel)),
   runs ((h.2.2 _ _ _ _ _ _ ⟨(by decide), rfl⟩ rfl rfl).2.2.2.2)⟩

theorem witness_ExternalRequestsAreServed (h : Obligations.ExternalRequestsAreServed) :
    Completes (.emcRequest 1200 3 0) (atEmc .read 0 0) ∧
    Completes (.emcRequest 1200 3 0) (atEmc .read 1 0x8000) :=
  ⟨runs ((h.1 _ _ _ _ _ extWord 8 0 0 (extReq .read) extPart rfl (by decide +kernel) rfl rfl (by decide) (by decide +kernel) (by decide +kernel) rfl (by decide +kernel) (by decide +kernel)).1 (.inl rfl) (by decide +kernel)),
   by refine runs ((h.1 _ _ _ _ _ extWord 8 3 extWord (extReq .read) extPart rfl (by decide +kernel) rfl rfl (by decide) (by decide +kernel) (by decide +kernel) rfl (by decide +kernel) (by decide +kernel)).2.1 rfl ?_ ?_ ?_ (by decide) (by decide +kernel) (by decide) (by decide) (by decide) ⟨(by decide +kernel), (by decide +kernel), (by decide +kernel)⟩) <;> decide +kernel⟩

theorem witness_ExternalRequestsAreServed_2 (h : Obligations.ExternalRequestsAreServed) :
    Completes (.emcRequest 1200 3 0) (atEmc .read 0 0x8000) :=
  by refine runs (((h.1 _ _ _ _ _ extWord 8 3 extWord (extReq .read) extPart rfl (by decide +kernel) rfl rfl (by decide) (by decide +kernel) (by decide +kernel) rfl (by decide +kernel) (by decide +kernel)).2.2 ?_ ?_ ?_ (by decide) ?_ ?_ ?_ ?_).1 rfl) <;> decide +kernel

theorem witness_ExternalRequestsAreServed_3 (h : Obligations.ExternalRequestsAreServed) :
    Completes (.emcRequest 1200 3 0) (atEmc .write 0 0x8000) :=
  by refine runs (((h.1 _ _ _ _ _ extWord 8 3 extWord (extReq .write) extPart rfl (by decide +kernel) rfl rfl (by decide) (by decide +kernel) (by decide +kernel) rfl (by decide +kernel) (by decide +kernel)).2.2 ?_ ?_ ?_ (by decide) ?_ ?_ ?_ ?_).2 rfl rfl (by decide +kernel) (by decide +kernel)) <;> decide +kernel

theorem witness_ExternalRequestsAreServed_4 (h : Obligations.ExternalRequestsAreServed) :
    Completes (.dramReadComplete 1200 3 0) (atEmc .read 0 0x8000 (fun e => { e with jobs := [dramJob] })) ∧
    Completes (.dramReadComplete 1200 3 0) (atEmc .read 0 0x8000 (fun e => { e with jobs := [dramJob] }) 1) :=
  ⟨runs ((h.2.1 _ _ _ _ _ extWord 3 extWord 8 (extReq .read) rfl (by decide +kernel) (by decide +kernel) rfl rfl (by decide +kernel) (by decide +kernel)).1 (by decide +kernel) rfl (by decide) (by decide +kernel)),
   runs ((h.2.1 _ _ _ _ _ extWord 3 extWord 8 (extReq .read) rfl (by decide +kernel) (by decide +kernel) rfl rfl (by decide +kernel) (by decide +kernel)).2 7 _ (by decide +kernel) (by decide +kernel) (pairIs authFails))⟩

theorem witness_ExternalRequestsAreServed_5 (h : Obligations.ExternalRequestsAreServed) :
    Completes (.forwardAnswer 1200 9 0) (withInbox [fromSlice] (atEmc .read 1 0x8000 (fun e => { e with jobs := [fwdJob] }))) :=
  runs (h.2.2 _ _ _ _ _ fromSlice fwdJob (extReq .read) (extWord, 8) (by decide +kernel) rfl (by decide +kernel) rfl rfl (by decide) (by decide +kernel) rfl rfl rfl (by decide +kernel) rfl)

theorem witness_XtsRangesKeysAndRotation (h : Obligations.XtsRangesKeysAndRotation) :
    Completes (.xtsRangeEnable 1200 1 7 0) (emcSt []) ∧
    Completes (.xtsRangeDisable 1200 1 7 0) (emcSt []) ∧
    Completes (.xtsKeyStageWrite 1200 1 7 0) (emcSt []) ∧
    Completes (.xtsKeyLoadCur 1200 1 0 7) (emcSt []) ∧
    Completes (.xtsKeyLoadNew 1200 1 0 7) (emcSt []) ∧
    Completes (.xtsKeyLoadSlot 1200 1 0 7) (emcSt []) ∧
    Completes (.xtsKeyLoadLink 1200 1 0 3) (emcSt []) ∧
    Completes (.xtsRotGo 1200 1 7) (emcSt []) ∧
    Completes (.xtsRangeEnable 1200 0 7 0x40000F00) (emcSt []) ∧
    Completes (.xtsRangeEnable 1200 0 7 0) (keyed) ∧
    Completes (.xtsRangeDisable 1200 0 7 0) (keyed) ∧
    Completes (.xtsKeyStageWrite 1200 0 7 0xFFFFFFFF) (emcSt []) ∧
    Completes (.xtsKeyLoadCur 1200 0 2 7) (staged) ∧
    Completes (.xtsKeyLoadCur 1200 0 2 7) (keyed) ∧
    Completes (.xtsKeyLoadNew 1200 0 2 7) (keyed) ∧
    Completes (.xtsKeyLoadSlot 1200 0 2 15) (staged) ∧
    Completes (.xtsKeyLoadLink 1200 0 2 3) (staged) ∧
    Completes (.xtsRotGo 1200 0 7) (keyed) ∧
    Completes (.xtsRotGo 1200 0 7) (staged) :=
  ⟨runs (h.1 _ _ _ _ 7 0 0 0 _ (by decide) (.inl ⟨.inl rfl, (by decide), rfl⟩)),
   runs (h.1 _ _ _ _ 7 0 0 0 _ (by decide) (.inl ⟨.inr rfl, (by decide), rfl⟩)),
   runs (h.1 _ _ _ _ 7 0 0 0 _ (by decide) (.inr (.inl ⟨rfl, (by decide), rfl⟩))),
   runs (h.1 _ _ _ _ 7 7 0 0 _ (by decide) (.inr (.inr (.inl ⟨.inl rfl, (by decide), rfl⟩)))),
   runs (h.1 _ _ _ _ 7 7 0 0 _ (by decide) (.inr (.inr (.inl ⟨.inr (.inl rfl), (by decide), rfl⟩)))),
   runs (h.1 _ _ _ _ 7 7 0 0 _ (by decide) (.inr (.inr (.inl ⟨.inr (.inr (.inl rfl)), (by decide), rfl⟩)))),
   runs (h.1 _ _ _ _ 7 3 0 0 _ (by decide) (.inr (.inr (.inl ⟨.inr (.inr (.inr rfl)), (by decide), rfl⟩)))),
   runs (h.1 _ _ _ _ 7 0 0 0 _ (by decide) (.inr (.inr (.inr ⟨rfl, (by decide), rfl⟩)))),
   runs ((h.2.1 _ _ _ _ _ _ ⟨(by decide), rfl⟩).1 (by decide +kernel) rfl),
   runs ((h.2.1 _ _ base _ _ 0 ⟨(by decide), rfl⟩).2.1 (by decide +kernel)),
   runs ((h.2.1 _ _ base _ _ 0 ⟨(by decide), rfl⟩).2.2),
   runs (h.2.2.1 _ _ _ _ _ ⟨(by decide), rfl⟩),
   runs ((h.2.2.2.1 _ _ _ 2 7 ⟨(by decide), rfl⟩ (by decide)).1 (by decide) (by decide +kernel)),
   runs ((h.2.2.2.1 _ _ _ 2 7 ⟨(by decide), rfl⟩ (by decide)).2.1 (by decide) (by decide +kernel)),
   runs ((h.2.2.2.1 _ _ _ 2 7 ⟨(by decide), rfl⟩ (by decide)).2.2.1 (by decide) (by decide +kernel)),
   runs ((h.2.2.2.1 _ _ _ 2 15 ⟨(by decide), rfl⟩ (by decide)).2.2.2.1 (by decide)),
   runs ((h.2.2.2.1 _ _ _ 2 3 ⟨(by decide), rfl⟩ (by decide)).2.2.2.2 (by decide)),
   by refine runs ((h.2.2.2.2 _ _ _ _ ⟨(by decide), rfl⟩ (by decide)).1 ?_ ?_ ?_ ?_ ?_) <;> decide +kernel,
   runs ((h.2.2.2.2 _ _ _ _ ⟨(by decide), rfl⟩ (by decide)).2 (by decide +kernel))⟩

theorem witness_AlarmUnderZeroiseErasesKeysAndHalts (h : Obligations.AlarmUnderZeroiseErasesKeysAndHalts) :
    (alarmArmed.raiseAlarm.mode = modeSecureHalt) :=
  (h alarmArmed (by decide +kernel) (by decide +kernel) (by decide +kernel)).1

/-! ### Chapter 13 -/

/-- Lane 47 in a state, with what its profile 0 holds and what else. Its region runs; lane 46 is its peer. -/
def lane47 (st rx : Nat) (l : List (Nat × Field × Nat) := []) (prof : Nat := 128000) (f : Lane → Lane := id) : State :=
  let s := put ([(Reg.LANE_STATUS 47, Fld.LANE_STATUS_STATE, st), (Reg.LANE_STATUS 47, Fld.LANE_STATUS_RX, rx)] ++ l)
    (w [(Reg.LANE_PROF 47 0, prof), (Reg.LANE_PROF 47 3, prof), (Reg.LANE_PROF 46 0, prof)] (inMode 6))
  (s.setRstate (s.laneRegion 47) rsRunning).mapLane 47 f
def enabled47 : List (Nat × Field × Nat) := [(Reg.LANE_CFG 47, Fld.LANE_CFG_EN, 1)]
def busy47 : List (Nat × Field × Nat) := [(Reg.LANE_STATUS 47, Fld.LANE_STATUS_PROF_BUSY, 1)]
/-- Lane 47 forwards, or is to forward, to lane 46. -/
def bridge (fwd : Nat) : List (Nat × Field × Nat) :=
  [(Reg.LANE_CFG 47, Fld.LANE_CFG_BRIDGE, 1), (Reg.LANE_CFG 47, Fld.LANE_CFG_PEER, 2), (Reg.LANE_STATUS 46, Fld.LANE_STATUS_STATE, 3),
   (Reg.LANE_STATUS 47, Fld.LANE_STATUS_FWD_ACTIVE, fwd)]
def aWordL (n : Nat) : LWord := ⟨BitVec.ofNat 128 n, 5, 0⟩
def capturing (wrap : Nat) : List (Nat × Field × Nat) := [(Reg.LANE_CAP_CTL 47, Fld.LANE_CAP_CTL_EN, 1), (Reg.LANE_CAP_CTL 47, Fld.LANE_CAP_CTL_WRAP, wrap),
  (Reg.NOC_RT_HI (initRouter (srcRegion 0)) 0 31, Fld.NOC_RT_HI_VALID, 1)]
theorem quiet47 {s : State} (a : ∀ e, e < 16 → s.bit (Reg.LANE_EVTOK 47 e) Fld.LANE_EVTOK_EN = false)
    (b : s.bit (Reg.LANE_CAP_CTL 47) Fld.LANE_CAP_CTL_EN = false) (c : ∀ i, i < 4 → s.forwarding (47 / 4 * 4 + i) = false) : s.laneQuiet 47 :=
  ⟨by decide, a, b, c⟩


theorem witness_LanesAreEnabledSwitchedAndLocked (h : Obligations.LanesAreEnabledSwitchedAndLocked) :
    Completes (.laneEnable 1200 0 47 3) (lane47 1 0) ∧
    Completes (.laneEnable 1200 0 47 3) (lane47 1 0 [] 3999) ∧
    Completes (.laneDisable 1200 0 47 3) (lane47 3 2 enabled47) ∧
    Completes (.laneCalDone 1200 47) (lane47 2 0) ∧
    Completes (.laneProfGo 1200 0 47 3) (lane47 3 2) ∧
    (((lane47 3 2 busy47).runLater (.profGo 47 3)).fld (Reg.LANE_STATUS 47) Fld.LANE_STATUS_PROF_STAT = 1) ∧
    (((lane47 2 0).runLater (.profGo 47 3)).fld (Reg.LANE_STATUS 47) Fld.LANE_STATUS_PROF_STAT = 3) ∧
    (((lane47 3 2 [] 3999).runLater (.profGo 47 3)).fld (Reg.LANE_STATUS 47) Fld.LANE_STATUS_PROF_STAT = 2) ∧
    (((lane47 3 2).runLater (.profGo 47 3)).bit (Reg.LANE_STATUS 47) Fld.LANE_STATUS_PROF_BUSY = true) ∧
    (((lane47 3 2 [] 128000 (fun x => { x with reqAt := some 200 })).runLater (.profGo 47 3)).fld (Reg.LANE_STATUS 47) Fld.LANE_STATUS_PROF_STAT = 1) ∧
    Completes (.lprofReq 1200 47 3) (lane47 3 2) ∧
    Completes (.profDone 1200 47) (lane47 2 0 busy47 128000 (fun x => { x with target := 3 })) ∧
    Completes (.laneRealign 1200 0 47 3) (lane47 3 2) ∧
    Completes (.laneSlip 1200 0 47 3) (lane47 3 2 [] 128000 (fun x => { x with slip := 127 })) ∧
    Completes (.laneSlip 1200 0 47 3) (lane47 3 2 [(Reg.LANE_PROF 47 0, Fld.LANE_PROF_ENC, 3)]) ∧
    Completes (.signalDetect 1200 47) (lane47 3 0) ∧
    Completes (.rxLock 1200 47) (lane47 3 1) ∧
    Completes (.rxLockLost 1200 47) (lane47 3 2) ∧
    Completes (.signalLoss 1200 47) (lane47 3 2) :=
  ⟨by refine runs ((h.1 _ _ _ _ 47 3 ⟨(by decide +kernel), rfl⟩ (quiet47 ?_ ?_ ?_)).1 ?_ ?_ ?_) <;> decide +kernel,
   by refine runs ((h.1 _ _ _ _ 47 3 ⟨(by decide +kernel), rfl⟩ (quiet47 ?_ ?_ ?_)).2.1 ?_ ?_ ?_) <;> decide +kernel,
   by refine runs ((h.1 _ _ _ _ 47 3 ⟨(by decide +kernel), rfl⟩ (quiet47 ?_ ?_ ?_)).2.2 (by decide +kernel)) <;> decide +kernel,
   by refine runs (h.2.1 _ _ _ _ rfl ?_ ?_ ?_) <;> decide +kernel,
   runs (h.2.2.1 _ _ _ 0 47 3 ⟨(by decide +kernel), rfl⟩),
   (((h.2.2.2.1 (lane47 3 2 busy47) _ 47 3 rfl (quiet47 (by decide +kernel) (by decide +kernel) (by decide +kernel)) (by decide)).2 (by decide +kernel)).1 (by decide +kernel)).1,
   (((h.2.2.2.1 (lane47 2 0) _ 47 3 rfl (quiet47 (by decide +kernel) (by decide +kernel) (by decide +kernel)) (by decide)).2 (by decide +kernel)).2.1 (by decide +kernel) (by decide +kernel)).1,
   (((h.2.2.2.1 (lane47 3 2 [] 3999) _ 47 3 rfl (quiet47 (by decide +kernel) (by decide +kernel) (by decide +kernel)) (by decide)).2 (by decide +kernel)).2.2.1 (by decide +kernel) (by decide +kernel) (by decide +kernel)).1,
   (((h.2.2.2.1 (lane47 3 2) _ 47 3 rfl (quiet47 (by decide +kernel) (by decide +kernel) (by decide +kernel)) (by decide)).2 (by decide +kernel)).2.2.2 (by decide +kernel) (by decide +kernel) (by decide +kernel)).2.1,
   ((h.2.2.2.1 (lane47 3 2 [] 128000 (fun x => { x with reqAt := some 200 })) _ 47 3 rfl (quiet47 (by decide +kernel) (by decide +kernel) (by decide +kernel)) (by decide)).1 (by decide +kernel)).1,
   by refine runs (h.2.2.2.2.1 _ _ _ 47 3 rfl (quiet47 ?_ ?_ ?_) (by decide +kernel)) <;> decide +kernel,
   by refine runs (h.2.2.2.2.2.1 _ _ _ _ rfl (quiet47 ?_ ?_ ?_) (by decide +kernel) (by decide +kernel)) <;> decide +kernel,
   by refine runs ((h.2.2.2.2.2.2.1 _ _ _ _ _ 3 ⟨(by decide +kernel), rfl⟩ (quiet47 ?_ ?_ ?_)).1 (by decide +kernel)) <;> decide +kernel,
   by refine runs ((h.2.2.2.2.2.2.1 _ _ _ _ _ 3 ⟨(by decide +kernel), rfl⟩ (quiet47 ?_ ?_ ?_)).2.1 (by decide +kernel)) <;> decide +kernel,
   by refine runs ((h.2.2.2.2.2.2.1 _ _ _ _ _ 3 ⟨(by decide +kernel), rfl⟩ (quiet47 ?_ ?_ ?_)).2.2 (by decide +kernel)) <;> decide +kernel,
   by refine runs ((h.2.2.2.2.2.2.2 _ _ _ _ rfl (quiet47 ?_ ?_ ?_)).1 (by decide +kernel) (by decide +kernel)) <;> decide +kernel,
   by refine runs ((h.2.2.2.2.2.2.2 _ _ _ _ rfl (quiet47 ?_ ?_ ?_)).2.1 (by decide +kernel) (by decide +kernel)) <;> decide +kernel,
   by refine runs ((h.2.2.2.2.2.2.2 _ _ _ _ rfl (quiet47 ?_ ?_ ?_)).2.2.1 (by decide +kernel)) <;> decide +kernel,
   by refine runs ((h.2.2.2.2.2.2.2 _ _ _ _ rfl (quiet47 ?_ ?_ ?_)).2.2.2 (by decide +kernel)) <;> decide +kernel⟩

theorem witness_LaneWordsAreReceivedForwardedAndSent (h : Obligations.LaneWordsAreReceivedForwardedAndSent) :
    Completes (.laneRxWord 1200 47 9 15 false (2 ^ 128 - 1) 0xFFFF 0) (lane47 3 2 [] 128000 (fun x => { x with next := 255 })) ∧
    Completes (.laneRxWord 1200 47 9 15 true 1 2 0x4000) (lane47 3 2 [] 128000 (fun x => { x with next := 255 })) ∧
    Completes (.laneRxWord 1200 47 9 15 false 1 2 0) (lane47 3 2 (bridge 0)) ∧
    Completes (.forwardStop 1200 47) (lane47 3 0 (bridge 1) 128000 (fun x => { x with fwd := [⟨5, aWordL 1, 9, none⟩] })) ∧
    Completes (.laneTxRetimed 1200 47) (lane47 3 2 [] 128000 (fun x => { x with retime := true })) ∧
    Completes (.laneTxAccept 1200 47 1 2) (lane47 3 2 [] 128000 (fun x => { x with txq := List.replicate 7 (aWordL 1, 0) })) ∧
    Completes (.laneTxAccept 1200 47 1 2) (lane47 3 2 [] 128000 (fun x => { x with txq := List.replicate 8 (aWordL 1, 0) })) ∧
    Completes (.laneTxSlot 1200 47 100000000000 false) (lane47 3 2 [] 128000 (fun x => { x with txq := [(aWordL 1, 0)] })) ∧
    Completes (.laneTxSlot 1200 47 9 false) (lane47 3 2) ∧
    Completes (.laneTxSlot 1200 46 (9 + (lane47 3 2 (bridge 1)).fwdDelay 47) true) (lane47 3 2 (bridge 1) 128000 (fun x => { x with fwd := [⟨5, aWordL 1, 9, some (aWordL 2)⟩] })) ∧
    Completes (.substitutionAccept 1200 46 true 255 1 2) (lane47 3 2 (bridge 1) 128000 (fun x => { x with fwd := [⟨255, aWordL 1, 1000000000000, none⟩] })) ∧
    Completes (.captureEnable 1200 0 47 0x07000000) (lane47 3 2) ∧
    Completes (.captureEnable 1200 0 47 0) (lane47 3 2 [(Reg.LANE_CAP_BASE_LO 47, ⟨31, 0, .rw⟩, 64)]) ∧
    Completes (.captureWrite 1200 47) (lane47 3 2 (capturing 0) 128000 (fun x => { x with buf := List.replicate 5 [1] })) :=
  ⟨by refine runs ((h.1 _ _ _ _ 9 15 (2 ^ 128 - 1) 0xFFFF 0 _ _ rfl (quiet47 ?_ ?_ ?_) (by decide +kernel) (by decide +kernel) rfl rfl).1 (by decide +kernel) rfl) <;> decide +kernel,
   by refine runs ((h.1 _ _ _ _ 9 15 1 2 0x4000 _ _ rfl (quiet47 ?_ ?_ ?_) (by decide +kernel) (by decide +kernel) rfl rfl).2.1 (by decide +kernel) (by decide +kernel)) <;> decide +kernel,
   by refine runs ((h.1 _ _ _ _ 9 15 1 2 0 _ _ rfl (quiet47 ?_ ?_ ?_) (by decide +kernel) (by decide +kernel) rfl rfl).2.2 (by decide +kernel) rfl (by decide +kernel) (by decide +kernel)) <;> decide +kernel,
   by refine runs (h.2.1 _ _ _ _ rfl (by decide) ?_ ?_ ?_ ?_ ?_) <;> decide +kernel,
   runs (h.2.2.1 _ _ _ _ rfl),
   by refine runs ((h.2.2.2.1 _ _ _ _ 1 2 rfl ?_ ?_ ?_).1 (by decide +kernel)) <;> decide +kernel,
   by refine runs ((h.2.2.2.1 _ _ _ _ 1 2 rfl ?_ ?_ ?_).2 (by decide +kernel)) <;> decide +kernel,
   by refine runs ((h.2.2.2.2.1 _ _ _ _ _ rfl (quiet47 ?_ ?_ ?_) ?_ ?_ ?_ ?_).1 (aWordL 1) 0 [] (by decide +kernel) (by decide +kernel)) <;> decide +kernel,
   by refine runs ((h.2.2.2.2.1 _ _ _ _ _ rfl (quiet47 ?_ ?_ ?_) ?_ ?_ ?_ ?_).2 (by decide +kernel)) <;> decide +kernel,
   by refine runs (h.2.2.2.2.2.1 _ _ _ _ _ 47 true ⟨5, aWordL 1, 9, some (aWordL 2)⟩ [] rfl ?_ ?_ ?_ ?_ ?_) <;> decide +kernel,
   by refine runs (h.2.2.2.2.2.2.1 _ _ _ _ 47 1 2 true ⟨255, aWordL 1, 1000000000000, none⟩ rfl ?_ ?_ ?_ rfl (by decide) (by decide +kernel) (by decide +kernel)) <;> decide +kernel,
   runs ((h.2.2.2.2.2.2.2.1 _ _ _ _ _ 0x07000000 _ ⟨(by decide +kernel), rfl⟩ (by decide) (by decide +kernel) rfl).1 (by decide +kernel)),
   runs ((h.2.2.2.2.2.2.2.1 _ _ _ _ _ 0 _ ⟨(by decide +kernel), rfl⟩ (by decide) (by decide +kernel) rfl).2 (by decide +kernel)),
   by refine runs (h.2.2.2.2.2.2.2.2 _ _ _ _ _ [1] [1] [1] [1] [[1]] rfl (by decide) ?_ ?_ ?_ ?_ ?_ ?_ rfl) <;> decide +kernel⟩

/-! ### Chapter 14 -/

/-- The host's link is up. -/
def hup (s : State) (f : HostIf → HostIf := id) : State := s.mapHost (fun h => f { h with up := true })
/-- … in RUN, with no PCI Express order. -/
def run14 (l : List (Nat × Nat) := []) (f : HostIf → HostIf := id) : State := hup (inMode 6 ([(Reg.HOST_CTL, 0x530)] ++ l)) f
/-- Line 15 is about to rise, for vector 255. -/
def irq15 : State := run14 [(Reg.STAT_INT_STATUS, 1), (Reg.STAT_INT_EN, 1), (Reg.HOST_IRQ_MAP 15, 0x800000FF)]
  (fun x => { x with msixEn := true, msix := [(1020, 0xFEE00000), (1023, 0)] })
/-- Queue 63 in a state, its rings of 16 entries, with what it holds. -/
def q63 (st : Nat) (l : List (Nat × Field × Nat) := []) (x : HostQ := HostQ.idle) (s : State := inMode 6) : State :=
  (hup (put ([(Reg.HOST_Q_CFG 63, Fld.HOST_Q_CFG_SIZE, 4), (Reg.HOST_Q_CFG 63, Fld.HOST_Q_CFG_CHAN, 15), (Reg.HOST_CQ_CFG 63, Fld.HOST_CQ_CFG_SIZE, 4),
    (Reg.HOST_Q_STATUS 63, Fld.HOST_Q_STATUS_STATE, st), (Reg.HOST_CQ_STATUS 63, Fld.HOST_CQ_STATUS_PHASE, 1)] ++ l) s)).setHostQ 63 x
def ended : List (Nat × Field × Nat) := [(Reg.HOST_Q_STATUS 63, Fld.HOST_Q_STATUS_TAIL, 15)]
def wrapped : List (Nat × Field × Nat) := [(Reg.HOST_CQ_STATUS 63, Fld.HOST_CQ_STATUS_TAIL, 15), (Reg.HOST_CQ_STATUS 63, Fld.HOST_CQ_STATUS_HEAD, 3)]
def fullRing : List (Nat × Field × Nat) := [(Reg.HOST_CQ_STATUS 63, Fld.HOST_CQ_STATUS_TAIL, 15)]
/-- The first bytes of a 64-byte descriptor. -/
def descBytes (l : List (Nat × Byte)) : List Byte := (List.range 64).map (fun i => ((l.find? (fun p => p.1 == i)).map (·.2)).getD 0)
/-- Queue 63 with the descriptor `l` at ring index 14, native or of the forerunner. -/
def head63 (legacy : Nat) (l : List (Nat × Byte)) (s : State := inMode 6) : State :=
  q63 1 ([(Reg.HOST_Q_CFG 63, Fld.HOST_Q_CFG_LEGACY, legacy)] ++ ended) ⟨[(14, descBytes l)], 15, [], [], []⟩ s
def dNop : List (Nat × Byte) := [(1, 3), (4, 9)]
def dCopy : List (Nat × Byte) := [(0, 1), (8, 16), (24, 32), (28, 3)]
def dRegseq : List (Nat × Byte) := [(0, 2), (8, 1), (25, 16)]
def dFence : List (Nat × Byte) := [(0, 6)]
def lNop : List (Nat × Byte) := [(24, 9)]
def lCopy : List (Nat × Byte) := [(0, 16), (16, 32), (20, 1), (21, 6)]
def lRegwr : List (Nat × Byte) := [(17, 16), (20, 2)]
def lFence : List (Nat × Byte) := [(20, 3)]
/-- What the descriptor at the head reads as. -/
def headOf (s : State) : Desc := ((s.headDesc 63).map (·.2)).getD ⟨false, false, 0, .nop⟩
def copyOf (d : Desc) : Copy := match d.op with
  | .copy c => c
  | _ => newCopy 0 0 0 0 0 0 none none 0
theorem starts63 {s : State} {legacy : Bool} {d : Desc} (a : (s.hostAdvance 1200).headDesc 63 = some (14, d))
    (b : (s.hostAdvance 1200).bit (Reg.HOST_Q_CFG 63) Fld.HOST_Q_CFG_LEGACY = legacy) (c : (s.hostAdvance 1200).mayStart 63 d = true)
    (e : ((s.hostAdvance 1200).hostQ 63).runs = [])
    (f : ((s.hostAdvance 1200).hostQ 63).next = (s.hostAdvance 1200).fld (Reg.HOST_Q_STATUS 63) Fld.HOST_Q_STATUS_TAIL) :
    Starts s 1200 63 (s.hostAdvance 1200) legacy 14 d := ⟨rfl, by decide, a, b, c, e, f⟩
/-- Channel 15 runs a copy for queue 63. -/
def onCh (c : Copy) (l : List (Nat × Field × Nat) := []) (x : HostQ := HostQ.idle) : State := (q63 1 l x).setDma 15 ⟨some c, [], 63⟩
def aCopy : Copy := ⟨63, 14, 0x1010, 0x2020, 32, true, true, none, none, 9, 0, 0, true, none, false, false, false⟩
def doneCopy : Copy := { aCopy with asked := false, pos := 32, done := 32, ended := some (0, 0), fenced := true, closed := true }


theorem witness_HostTlpsReachTheDevice (h : Obligations.HostTlpsReachTheDevice) :
    Completes (.hostConfigRequest 1200 0 none) (run14) ∧
    Completes (.hostConfigRequest 1200 (if Config.msixDword = 10 then 11 else 10) (some (9, 0x11223344))) (run14) ∧
    Completes (.bar0Read 1200 255 2 4) (run14) ∧
    Completes (.bar0Read 1200 255 4 4) (run14) ∧
    Completes (.bar0Write 1200 4 [1, 2, 3, 4] true) (run14) ∧
    Completes (.bar0Write 1200 4 [1, 2, 3, 4] false) (run14) ∧
    Completes (.bar2Read 1200 255 0x1000000FF 1) (run14) ∧
    Completes (.bar2Read 1200 255 0xF000000FF 1) (run14 [(Reg.HOST_WIN_CTL 15, 0x80000003)]) ∧
    Completes (.bar2Write 1200 0x10000007F [1] false) (run14) ∧
    Completes (.bar2Write 1200 0xF0000007F [1] false) (run14 [(Reg.HOST_WIN_CTL 15, 0x80000003)]) ∧
    Completes (.bar4TableWrite 1200 0x1FFC 0) (run14) :=
  ⟨runs ((h.1 _ _ _ _ rfl (by decide +kernel)).1),
   runs ((h.1 _ _ _ _ rfl (by decide +kernel)).2 9 0x11223344 (by split <;> omega)),
   runs ((h.2.1 _ _ _ _ _ _ rfl (by decide +kernel)).1 (by decide +kernel) (by decide +kernel)),
   runs ((h.2.1 _ _ _ _ _ _ rfl (by decide +kernel)).2 (by decide +kernel) (by decide +kernel) ⟨(by decide +kernel), (by decide +kernel), (by decide +kernel)⟩),
   runs ((h.2.2.1 _ _ _ _ [1, 2, 3, 4] rfl (by decide +kernel)).1 (by decide +kernel)),
   by refine runs ((h.2.2.1 _ _ _ _ [1, 2, 3, 4] rfl (by decide +kernel)).2 ?_ ?_ ?_) <;> decide +kernel,
   runs ((h.2.2.2.1 _ _ _ _ _ 1 rfl (by decide +kernel)).1 (by decide +kernel)),
   runs ((h.2.2.2.1 _ _ _ _ _ 1 rfl (by decide +kernel)).2 3 0xFF none (by decide +kernel) (by decide) (by decide) (by decide +kernel) ⟨(by decide +kernel), (by decide +kernel), (by decide +kernel)⟩),
   runs ((h.2.2.2.2.1 _ _ _ _ [1] rfl (by decide +kernel)).1 (by decide +kernel)),
   runs ((h.2.2.2.2.1 _ _ _ _ [1] rfl (by decide +kernel)).2 3 0x7F (by decide +kernel) (by decide) (by decide) (by decide +kernel) (by decide +kernel)),
   runs (h.2.2.2.2.2 _ _ _ 0x1FFC 0 rfl (by decide) (by decide) (by decide +kernel))⟩

theorem witness_HostQueuesWindowsAndLink (h : Obligations.HostQueuesWindowsAndLink) :
    Completes (.sqTailDoorbell 1200 63 16) (q63 1) ∧
    Completes (.sqTailDoorbell 1200 63 1) (q63 0) ∧
    Completes (.sqTailDoorbell 1200 63 0) (q63 1 ended { HostQ.idle with next := 15 }) ∧
    Completes (.sqTailDoorbell 1200 63 0) (q63 1 ([(Reg.HOST_Q_STATUS 63, Fld.HOST_Q_STATUS_HEAD, 1)] ++ ended) { HostQ.idle with next := 15 }) ∧
    Completes (.cqHeadDoorbell 1200 63 15) (q63 1) ∧
    Completes (.descriptorFetchResponse 1200 63 15 0 (descBytes dNop)) (q63 1 [] { HostQ.idle with asked := [15] }) ∧
    Completes (.descriptorFetchResponse 1200 63 15 3 []) (q63 1 [] { HostQ.idle with asked := [15] }) ∧
    Completes (.hostQueueEnable 1200 0 63 0x0000C000) (q63 0) ∧
    Completes (.hostQueueEnable 1200 0 63 0x0000D000) (q63 0) ∧
    Completes (.hostQueueDisable 1200 0 63 0) (q63 1 ([(Reg.HOST_Q_CFG 63, Fld.HOST_Q_CFG_EN, 1)] ++ ended) ⟨[(14, [])], 15, [], [], [⟨9, 14, 0, 0, 0, false⟩]⟩) ∧
    Completes (.queueDrained 1200 63) (q63 2) ∧
    Completes (.hostWinEnable 1200 0 15 7) (run14) ∧
    Completes (.hostWinEnable 1200 0 15 7) (run14 [(Reg.HOST_WIN_BASE 15, 0xF00F0)]) ∧
    Completes (.hostWinBaseWrite 1200 0 15 0xF00F0) (run14) ∧
    Completes (.hostRetrain 1200 0 0x731) (q63 1 [(Reg.HOST_LINK_STATUS, Fld.HOST_LINK_STATUS_L0, 1)]) ∧
    Completes (.hostLinkUp 1200 7 3) (inMode 6) ∧
    Completes (.hostLinkDown 1200) (q63 2) ∧
    Completes (.blockIrqEdge 1200 15) (irq15) :=
  ⟨by refine runs ((h.1 _ _ _ 63 16 16 0 0 rfl ?_ ?_ ?_ ?_ ?_ ?_ (by decide)).1 (.inr (.inl (by decide)))) <;> decide +kernel,
   by refine runs ((h.1 _ _ _ 63 1 16 0 0 rfl ?_ ?_ ?_ ?_ ?_ ?_ (by decide)).1 (.inl (by decide +kernel))) <;> decide +kernel,
   by refine runs ((h.1 _ _ _ 63 0 16 0 15 rfl ?_ ?_ ?_ ?_ ?_ ?_ (by decide)).1 (.inr (.inr (by decide)))) <;> decide +kernel,
   by refine runs ((h.1 _ _ _ 63 0 16 1 15 rfl ?_ ?_ ?_ ?_ ?_ ?_ (by decide)).2.1 (by decide +kernel) (by decide) (by decide) (by decide) (by decide) ?_ ?_ ?_) <;> decide +kernel,
   by refine runs ((h.1 _ _ _ 63 15 16 0 0 rfl ?_ ?_ ?_ ?_ ?_ ?_ (by decide)).2.2) <;> decide +kernel,
   runs ((h.2.1 _ _ _ 63 15 0 (descBytes dNop) rfl (by decide +kernel) (by decide +kernel)).1 (by decide) (by decide +kernel)),
   runs ((h.2.1 _ _ _ 63 15 3 [] rfl (by decide +kernel) (by decide +kernel)).2 (by decide) (by decide +kernel)),
   runs ((h.2.2.1 _ _ _ 0 63 0x0000C000 _ _ ⟨(by decide +kernel), rfl⟩ (by decide +kernel) rfl rfl).1 (by decide) (by decide) (by decide +kernel) (by decide +kernel)),
   runs ((h.2.2.1 _ _ _ 0 63 0x0000D000 _ _ ⟨(by decide +kernel), rfl⟩ (by decide +kernel) rfl rfl).2 (.inr (.inl (by decide)))),
   by refine runs (h.2.2.2.1 _ _ _ 0 63 0 ⟨(by decide +kernel), rfl⟩ ?_ ?_ ?_) <;> decide +kernel,
   by refine runs (h.2.2.2.2.1 _ _ _ 63 rfl ?_ ?_ ?_) <;> decide +kernel,
   runs ((h.2.2.2.2.2.1 _ _ _ 0 15 7 _ rfl).1 ⟨(by decide +kernel), rfl⟩ (by decide +kernel)),
   runs ((h.2.2.2.2.2.1 _ _ _ 0 15 7 _ rfl).2.1 ⟨(by decide +kernel), rfl⟩ (by decide +kernel)),
   runs ((h.2.2.2.2.2.1 _ _ _ 0 15 0xF00F0 _ rfl).2.2 ⟨(by decide +kernel), rfl⟩ (.inl (by decide +kernel))),
   runs (h.2.2.2.2.2.2.1 _ _ _ 0 0x731 ⟨(by decide +kernel), rfl⟩),
   runs (h.2.2.2.2.2.2.2.1 _ _ _ 7 3 rfl (by decide +kernel) (by decide +kernel)),
   runs (h.2.2.2.2.2.2.2.2.1 _ _ _ rfl (by decide +kernel)),
   by refine runs (h.2.2.2.2.2.2.2.2.2 _ _ _ 15 255 rfl ?_ ?_ ?_ ?_ ?_ ?_ ?_) <;> decide +kernel⟩

theorem witness_DescriptorsStart (h : Obligations.DescriptorsStart) :
    Completes (.descNop 1200 63) (head63 0 dNop) ∧
    Completes (.legacyNop 1200 63) (head63 1 lNop) ∧
    Completes (.descCopy 1200 63) (head63 0 dCopy) ∧
    Completes (.legacyCopy 1200 63) (head63 1 lCopy) ∧
    Completes (.descRegseq 1200 63) (head63 0 dRegseq) ∧
    Completes (.legacyRegwr 1200 63) (head63 1 lRegwr) ∧
    Completes (.descFence 1200 63) (head63 0 dFence) ∧
    Completes (.legacyFence 1200 63) (head63 1 lFence) ∧
    Completes (.descToken 1200 63) (head63 0 [(0, 3), (8, 5), (11, 0x70), (23, 255)]) ∧
    Completes (.descCancel 1200 63) (head63 0 [(0, 4), (11, 0x0F)]) ∧
    Completes (.descCreate 1200 63) (head63 0 [(0, 5), (8, 255), (9, 15)]) ∧
    Completes (.sequencerServiceTurn 1200) (head63 0 [(0, 7)]) :=
  ⟨by refine runs (((h _ _ _ 63 14 false _ (starts63 (d := headOf (head63 0 dNop)) ?_ ?_ ?_ ?_ ?_)).1 (by decide +kernel)).1 rfl) <;> decide +kernel,
   by refine runs (((h _ _ _ 63 14 true _ (starts63 (d := headOf (head63 1 lNop)) ?_ ?_ ?_ ?_ ?_)).1 (by decide +kernel)).2 rfl) <;> decide +kernel,
   by refine runs (((h _ _ _ 63 14 false _ (starts63 (d := headOf (head63 0 dCopy)) ?_ ?_ ?_ ?_ ?_)).2.1 (copyOf (headOf (head63 0 dCopy))) _ (by decide +kernel) rfl ?_ ?_ ?_ ?_ ?_ ?_ ?_ ?_ ?_ ?_ ?_).1 rfl) <;> decide +kernel,
   by refine runs (((h _ _ _ 63 14 true _ (starts63 (d := headOf (head63 1 lCopy)) ?_ ?_ ?_ ?_ ?_)).2.1 (copyOf (headOf (head63 1 lCopy))) _ (by decide +kernel) rfl ?_ ?_ ?_ ?_ ?_ ?_ ?_ ?_ ?_ ?_ ?_).2 rfl) <;> decide +kernel,
   by refine runs (((h _ _ _ 63 14 false _ (starts63 (d := headOf (head63 0 dRegseq)) ?_ ?_ ?_ ?_ ?_)).2.2.1 0x1000 0 [] none (by decide +kernel) (by decide +kernel)).1 rfl) <;> decide +kernel,
   by refine runs (((h _ _ _ 63 14 true _ (starts63 (d := headOf (head63 1 lRegwr)) ?_ ?_ ?_ ?_ ?_)).2.2.1 0x1000 0 [] none (by decide +kernel) (by decide +kernel)).2 rfl) <;> decide +kernel,
   by refine runs (((h _ _ _ 63 14 false _ (starts63 (d := headOf (head63 0 dFence)) ?_ ?_ ?_ ?_ ?_)).2.2.2.1 (by decide +kernel)).1 rfl) <;> decide +kernel,
   by refine runs (((h _ _ _ 63 14 true _ (starts63 (d := headOf (head63 1 lFence)) ?_ ?_ ?_ ?_ ?_)).2.2.2.1 (by decide +kernel)).2 rfl) <;> decide +kernel,
   by refine runs ((h _ _ _ 63 14 false _ (starts63 (d := headOf (head63 0 [(0, 3), (8, 5), (11, 0x70), (23, 255)])) ?_ ?_ ?_ ?_ ?_)).2.2.2.2.1 5 3 true 0xFF00000000000000 ?_ ?_ ?_) <;> decide +kernel,
   by refine runs ((h _ _ _ 63 14 false _ (starts63 (d := headOf (head63 0 [(0, 4), (11, 0x0F)])) ?_ ?_ ?_ ?_ ?_)).2.2.2.2.2.1 0x0F000000 (by decide +kernel) (by decide +kernel)) <;> decide +kernel,
   by refine runs ((h _ _ _ 63 14 false _ (starts63 (d := headOf (head63 0 [(0, 5), (8, 255), (9, 15)])) ?_ ?_ ?_ ?_ ?_)).2.2.2.2.2.2.1 4095 (by decide +kernel) (by decide +kernel) ⟨(by decide +kernel), (by decide +kernel), (by decide +kernel)⟩) <;> decide +kernel,
   by refine runs ((h _ _ _ 63 14 false _ (starts63 (d := headOf (head63 0 [(0, 7)])) ?_ ?_ ?_ ?_ ?_)).2.2.2.2.2.2.2 1 ?_ ?_ ?_) <;> decide +kernel⟩

theorem witness_DescriptorsComplete (h : Obligations.DescriptorsComplete) :
    Completes (.dmaHostReadCompletion 1200 15 0 (List.replicate 32 255)) (onCh aCopy) ∧
    Completes (.dmaHostReadCompletion 1200 15 3 []) (onCh aCopy) ∧
    Completes (.copyComplete 1200 15) (onCh doneCopy [] ⟨[], 15, [], [⟨14, 9, false, .copy⟩], []⟩) ∧
    Completes (.regseqPollTimeout 4801200 63) (q63 1 [] ⟨[], 15, [], [⟨14, 9, false, .regseq [] (some (1, 0, 1, 1)) none 1200 false 4⟩], []⟩) ∧
    Completes (.completionWrite 1200 63) (q63 1 wrapped ⟨[], 15, [], [], [⟨9, 14, 0, 0, 0, false⟩]⟩) ∧
    Completes (.completionWrite 1200 63) (q63 1 fullRing ⟨[], 15, [], [], [⟨9, 14, 0, 0, 0, false⟩]⟩) :=
  ⟨runs ((h.1 _ _ _ 15 0 (List.replicate 32 255) aCopy rfl (by decide +kernel) (by decide) (by decide) (by decide) (by decide) (by decide)).1 (by decide) (by decide) (by decide) (by decide) (by decide) (by decide) (by decide +kernel)),
   runs ((h.1 _ _ _ 15 3 [] aCopy rfl (by decide +kernel) (by decide) (by decide) (by decide) (by decide) (by decide)).2 (by decide) (by decide +kernel)),
   runs (h.2.1 _ _ _ 15 doneCopy rfl (by decide +kernel) (by decide +kernel) (by decide) (by decide) (by decide) (by decide +kernel)),
   runs (h.2.2.1 _ _ _ 63 1 0 1 1 1200 4 14 9 false false rfl (by decide +kernel) (by decide) (by decide +kernel)),
   by refine runs ((h.2.2.2 _ _ _ 63 15 1 16 ⟨9, 14, 0, 0, 0, false⟩ [] rfl ?_ ?_ ?_ ?_ ?_ (by decide)).1 (by decide +kernel) rfl (by decide +kernel)) <;> decide +kernel,
   by refine runs ((h.2.2.2 _ _ _ 63 15 1 16 ⟨9, 14, 0, 0, 0, false⟩ [] rfl ?_ ?_ ?_ ?_ ?_ (by decide)).2 (by decide +kernel)) <;> decide +kernel⟩

/-! ### Chapter 15 -/

/-- Pins 318 and 319 have owners; what else. -/
def pins (o318 o319 : Nat) (l : List (Nat × Nat) := []) : State := inMode 6 ([(Reg.PIN_OWN 318, o318), (Reg.PIN_OWN 319, o319)] ++ l)
def lvdsPair : List (Nat × Nat) := [(Reg.PIN_ELEC 318, 0x40000000)]
def onPin (f : Pins → Pins) (s : State) : State := { s with pin := f s.pin }
/-- Channel 15 in a state: an armed rising edge at line 7, or what `v` says. -/
def chan (x : TrigCh) (v : Nat := 0x93C00001) (l : List (Nat × Nat) := []) : State := (inMode 6 ([(Reg.TRIG_CH_CTL 15, v)] ++ l)).setTrig 15 x
def aStamp (n : Nat) : Stamp := ⟨n, 7, true, false⟩
def stamps (n : Nat) : TrigCh := { TrigCh.idle with queue := (List.range n).map aStamp, lost := true }
def reads15 (off len : Nat) (s : State) : State := withReq (aReq 0 .read (ctlBase + off) len [] (aPart 0 portAUX (ctlBase + off) len)) s
def part15 (off len : Nat) : Part := aPart 0 portAUX (ctlBase + off) len
def req15 (off len : Nat) : Request := aReq 0 .read (ctlBase + off) len [] (part15 off len)
/-- UART 7 in a state, enabled. -/
def uart7 (x : Uart) (flow : Nat := 1) : State := (put [(Reg.UART_CTL 7, Fld.UART_CTL_EN, 1), (Reg.UART_CTL 7, Fld.UART_CTL_FLOW, flow)] (inMode 6)).setUart 7 x
def sixteen : List Byte := List.replicate 16 0x41
def unit7 (f : Pins → Pins := id) (busy : Nat := 0) : State :=
  onPin f (put [(Reg.SPI_CTL 7, Fld.SPI_CTL_EN, 1), (Reg.I2C_CTL 7, Fld.I2C_CTL_EN, 1), (Reg.SPI_STATUS 7, Fld.SPI_STATUS_BUSY, busy)] (inMode 6))


theorem witness_PinWritesObeyOwnership (h : Obligations.PinWritesObeyOwnership) :
    Completes (.pinOwnWrite 1200 0 319 1) (pins 0 0 lvdsPair) ∧
    Completes (.pinOwnWrite 1200 0xC0 319 1) (pins 0 0) ∧
    Completes (.pinOwnWrite 1200 63 319 0x7F) (pins 255 255) ∧
    Completes (.pinOwnWrite 1200 0 318 0x7F) (pins 255 255 lvdsPair) ∧
    Completes (.pinFuncWrite 1200 63 319 0xFFFFFFFF) (pins 0x7F 0x7F) ∧
    Completes (.pinFuncWrite 1200 62 319 0) (pins 0x7F 0x7F) ∧
    Completes (.pinElecWrite 1200 63 319 0x7FFFFFFF) (pins 0x7F 0x7F) ∧
    Completes (.pinElecWrite 1200 63 318 0x40000000) (pins 0x7F 0x7F) ∧
    Completes (.pinElecWrite 1200 63 318 0x40000000) (pins 0x7F 0x7E) ∧
    Completes (.pinElecWrite 1200 63 318 0x40000000) (pins 0x7F 0x7F [(Reg.PIN_FUNC 318, 0x7FE)]) ∧
    Completes (.pinDriveSwitch 1200 319) (onPin (fun x => { x with sw := [(319, 1200)] }) (pins 0 0 [(Reg.PIN_FUNC 319, 0x7FE)])) ∧
    Completes (.pinIselWrite 1200 63 2111 0xF00001FF) (pins 0x7F 0x7F [(Reg.PIN_ISEL 2111, 319)]) ∧
    Completes (.pinIselWrite 1200 62 2111 0) (pins 0x7F 0x7F [(Reg.PIN_ISEL 2111, 319)]) ∧
    Completes (.pinOutWrite 1200 63 9 0x7FFFFFFF) (pins 0x7F 0x7F [(Reg.PIN_OUT 9, 0x80000001)]) ∧
    Completes (.pinOeWrite 1200 63 9 0x80000000) (pins 0x7F 0x7F) :=
  ⟨runs ((h.1 _ _ _ 0 319 1 ⟨(by decide +kernel), rfl⟩ (by decide)).1 (by decide +kernel) (by decide) (by decide +kernel)),
   by refine runs ((h.1 _ _ _ 0xC0 319 1 ⟨(by decide +kernel), rfl⟩ (by decide)).2.1 (by decide +kernel) (by decide) ?_ ?_ ?_) <;> decide +kernel,
   runs ((h.1 _ _ _ 63 319 0x7F ⟨(by decide +kernel), rfl⟩ (by decide)).2.2 (by decide +kernel) (.inr (.inr (by decide +kernel))) (by decide +kernel)),
   runs ((h.1 _ _ _ 0 318 0x7F ⟨(by decide +kernel), rfl⟩ (by decide)).2.2 (by decide +kernel) (.inl rfl) (by decide +kernel)),
   runs ((h.2.1 _ _ _ 63 319 0xFFFFFFFF (by decide) (by decide +kernel)).1 ⟨(by decide +kernel), rfl⟩ (by decide +kernel)),
   runs ((h.2.1 _ _ _ 62 319 0 (by decide) (by decide +kernel)).2.1 ⟨(by decide +kernel), rfl⟩ (by decide +kernel) (by decide +kernel)),
   runs ((h.2.1 _ _ _ 63 319 0x7FFFFFFF (by decide) (by decide +kernel)).2.2.1 ⟨(by decide +kernel), rfl⟩ (by decide +kernel) (.inl (by decide))),
   runs ((h.2.1 _ _ _ 63 318 0x40000000 (by decide) (by decide +kernel)).2.2.1 ⟨(by decide +kernel), rfl⟩ (by decide +kernel) (by decide +kernel)),
   runs ((h.2.1 _ _ _ 63 318 0x40000000 (by decide) (by decide +kernel)).2.2.2 ⟨(by decide +kernel), rfl⟩ (by decide +kernel) (by decide) (by decide) (by decide +kernel) (by decide +kernel)),
   runs ((h.2.1 _ _ _ 63 318 0x40000000 (by decide) (by decide +kernel)).2.2.2 ⟨(by decide +kernel), rfl⟩ (by decide +kernel) (by decide) (by decide) (by decide +kernel) (by decide +kernel)),
   runs (h.2.2.1 _ _ _ 319 1200 rfl (by decide +kernel) (by decide)),
   runs ((h.2.2.2.1 _ _ _ 63 2111 0xF00001FF ⟨(by decide +kernel), rfl⟩).1 (by decide +kernel) (by decide +kernel)),
   runs ((h.2.2.2.1 _ _ _ 62 2111 0 ⟨(by decide +kernel), rfl⟩).2 (by decide +kernel) (by decide +kernel)),
   runs ((h.2.2.2.2 _ _ _ 63 9 0x7FFFFFFF).1 ⟨(by decide +kernel), rfl⟩),
   runs ((h.2.2.2.2 _ _ _ 63 9 0x80000000).2 ⟨(by decide +kernel), rfl⟩)⟩

theorem witness_TriggerChannelsStampAndPulse (h : Obligations.TriggerChannelsStampAndPulse) :
    Completes (.triggerInputEdge 1201 15 true) (chan (stamps 15)) ∧
    Completes (.triggerInputEdge 1200 15 true) (chan (stamps 16)) ∧
    Completes (.triggerInputEdge 1200 15 true) (chan { stamps 1 with lastSc := some 100 }) ∧
    Completes (.triggerFire 1200 0 15 0x800000FF) (chan (stamps 15)) ∧
    Completes (.triggerFire 1200 0 15 0x800000FF) (chan (stamps 16)) ∧
    Completes (.triggerFire 1200 0 15 0x800000FF) (chan { stamps 1 with lastSc := some 100 }) ∧
    Completes (.trigTsPop 1200 3 0) (reads15 (Reg.TRIG_TS_LO 15) 8 (chan (stamps 2))) ∧
    Completes (.trigArm 1200 0 15 0) (chan TrigCh.idle 0 [(Reg.TRIG_ARM_LO 15, 0x7FFFFFFF)]) ∧
    Completes (.trigArm 1200 0 15 0xFFFFF) (chan TrigCh.idle 0 [(Reg.TRIG_ARM_LO 15, 0xFFFFFFFF)]) ∧
    Completes (.armTimeReached 1211 15) (chan { TrigCh.idle with arm := some (100, 11) }) ∧
    Completes (.pulseEnd 1200 15) (chan { TrigCh.idle with pulses := [(1188, 1200), (1188, 1201)] }) :=
  ⟨by refine runs (h.1 _ _ _ 15 true rfl (by decide) ?_ ?_ ?_ ?_ ?_ ?_ ?_ ?_) <;> decide +kernel,
   by refine runs (h.1 _ _ _ 15 true rfl (by decide) ?_ ?_ ?_ ?_ ?_ ?_ ?_ ?_) <;> decide +kernel,
   by refine runs (h.1 _ _ _ 15 true rfl (by decide) ?_ ?_ ?_ ?_ ?_ ?_ ?_ ?_) <;> decide +kernel,
   runs (h.2.1 _ _ _ 0 15 0x800000FF ⟨(by decide +kernel), rfl⟩ (by decide) (by decide +kernel) (by decide +kernel) (by decide)),
   runs (h.2.1 _ _ _ 0 15 0x800000FF ⟨(by decide +kernel), rfl⟩ (by decide) (by decide +kernel) (by decide +kernel) (by decide)),
   runs (h.2.1 _ _ _ 0 15 0x800000FF ⟨(by decide +kernel), rfl⟩ (by decide) (by decide +kernel) (by decide +kernel) (by decide)),
   by refine runs (h.2.2.1 _ _ _ 3 0 15 (req15 (Reg.TRIG_TS_LO 15) 8) (part15 (Reg.TRIG_TS_LO 15) 8) (aStamp 0) [aStamp 1] rfl ?_ ?_ ?_ ?_ (by decide) ?_ ?_ ?_) <;> decide +kernel,
   runs ((h.2.2.2.1 _ _ _ 0 15 0 0x7FFFFFFF ⟨(by decide +kernel), rfl⟩ (by decide) (by decide +kernel)).1 (by decide +kernel)),
   runs ((h.2.2.2.1 _ _ _ 0 15 0xFFFFF 0xFFFFFFFFFFFFF ⟨(by decide +kernel), rfl⟩ (by decide) (by decide +kernel)).2 (by decide +kernel)),
   runs (h.2.2.2.2.1 _ _ _ 15 11 rfl (by decide +kernel) (by decide +kernel)),
   runs (h.2.2.2.2.2 _ _ _ 15 rfl)⟩

theorem witness_SerialUnitsSendAndReceive (h : Obligations.SerialUnitsSendAndReceive) :
    Completes (.uartDataWrite 1200 0 7 0x1FF) (uart7 ⟨List.replicate 15 1, [], some (1, 1200), true⟩) ∧
    Completes (.uartDataWrite 1200 0 7 0x1FF) (uart7 ⟨[], sixteen, none, true⟩) ∧
    Completes (.uartDataWrite 1200 0 7 0x1FF) (uart7 ⟨sixteen, [], some (1, 1200), true⟩) ∧
    Completes (.uartDataRead 1200 3 0) (reads15 (Reg.UART_DATA 7) 4 (uart7 ⟨[], [0x41, 0x42], none, true⟩)) ∧
    Completes (.uartRxByte 1200 7 255 false false) (uart7 ⟨[], List.replicate 15 1, none, true⟩) ∧
    Completes (.uartRxByte 1200 7 255 false false) (uart7 ⟨[], sixteen, none, true⟩) ∧
    Completes (.uartTxByteDone 22080 7) (uart7 ⟨[0x42], [], some (0x41, 1200), true⟩) ∧
    Completes (.uartCtsChange 1200 7 true) (uart7 ⟨[0x42], [], none, false⟩) ∧
    Completes (.uartCtsChange 1200 7 false) (uart7 ⟨[0x42], [], none, true⟩) ∧
    Completes (.spiDataWrite 1200 0 7 0xFFFFFFFF) (unit7) ∧
    Completes (.spiDataWrite 1200 0 7 0xFFFFFFFF) (unit7 (fun x => { x with spi := [(7, 0, 0)] }) 1) ∧
    Completes (.spiTransferEnd 5040 7 0x1FF) (unit7 (fun x => { x with spi := [(7, 1200, 0)] }) 1) ∧
    Completes (.i2cCmd 1200 0 7 0xFFFF) (unit7) ∧
    Completes (.i2cCommandEnd 109200 7 false true 0xFF) (unit7 (fun x => { x with i2c := [(7, 1200, 0x100)] })) ∧
    Completes (.i2cCommandEnd 109200 7 false false 0xFF) (unit7 (fun x => { x with i2c := [(7, 1200, 0x200)] })) ∧
    Completes (.i2cCommandEnd 1200 7 true false 0xFF) (unit7 (fun x => { x with i2c := [(7, 1200, 0x200)] })) :=
  ⟨runs ((h.1 _ _ _ 0 7 0x1FF ⟨(by decide +kernel), rfl⟩).1 (by decide +kernel) (by decide +kernel)),
   by refine runs ((h.1 _ _ _ 0 7 0x1FF ⟨(by decide +kernel), rfl⟩).2.1 ?_ ?_ ?_ ?_) <;> decide +kernel,
   runs ((h.1 _ _ _ 0 7 0x1FF ⟨(by decide +kernel), rfl⟩).2.2 (by decide +kernel)),
   by refine runs (h.2.1 _ _ _ 3 0 7 (req15 (Reg.UART_DATA 7) 4) (part15 (Reg.UART_DATA 7) 4) 0x41 [0x42] rfl ?_ ?_ ?_ ?_ (by decide) ?_ ?_ ?_) <;> decide +kernel,
   runs ((h.2.2.1 _ _ _ 7 255 rfl (by decide) (by decide +kernel)).1 (by decide +kernel)),
   runs ((h.2.2.1 _ _ _ 7 255 rfl (by decide) (by decide +kernel)).2 (by decide +kernel)),
   by refine runs (h.2.2.2.1 _ _ _ 7 1200 0x41 0x42 [] rfl ?_ ?_ ?_ ?_ ?_) <;> decide +kernel,
   by refine runs ((h.2.2.2.2.1 _ _ _ 7 0x42 [] rfl ?_ ?_ ?_).1) <;> decide +kernel,
   by refine runs ((h.2.2.2.2.1 _ _ _ 7 0x42 [] rfl ?_ ?_ ?_).2 (by decide +kernel)) <;> decide +kernel,
   runs ((h.2.2.2.2.2.1 _ _ _ 0 7 0xFFFFFFFF ⟨(by decide +kernel), rfl⟩).1 (by decide +kernel) (by decide +kernel)),
   runs ((h.2.2.2.2.2.1 _ _ _ 0 7 0xFFFFFFFF ⟨(by decide +kernel), rfl⟩).2 (by decide +kernel)),
   runs (h.2.2.2.2.2.2.1 _ _ _ 7 0x1FF 1200 0 rfl (by decide +kernel) (by decide +kernel) (by decide)),
   runs (h.2.2.2.2.2.2.2.1 _ _ _ 0 7 0xFFFF ⟨(by decide +kernel), rfl⟩ (by decide +kernel) (by decide +kernel)),
   runs (((h.2.2.2.2.2.2.2.2 _ _ _ 7 1200 0x100 0xFF true rfl (by decide +kernel) (by decide)).2 (by decide +kernel)).1 (by decide +kernel)),
   runs (((h.2.2.2.2.2.2.2.2 _ _ _ 7 1200 0x200 0xFF false rfl (by decide +kernel) (by decide)).2 (by decide +kernel)).2 (by decide +kernel) (by decide +kernel)),
   runs ((h.2.2.2.2.2.2.2.2 _ _ _ 7 1200 0x200 0xFF false rfl (by decide +kernel) (by decide)).1)⟩

/-! ### Chapter 16 -/

/-- The root locked to a source, with the sources that are ready, and what else. -/
def rootOn (src lock ready : Nat) (l : List (Nat × Field × Nat) := []) (f : Clk → Clk := id) : State :=
  let s := put ([(Reg.CLK_STATUS, Fld.CLK_STATUS_SRC, src), (Reg.CLK_STATUS, Fld.CLK_STATUS_LOCK, lock)] ++
    ((List.range 3).map (fun k => (Reg.CLK_STATUS, readyField k, ready / 2 ^ k % 2))) ++ l) (inMode 6)
  { s with clk := f s.clk }
def coasting : List (Nat × Field × Nat) := [(Reg.CLK_STATUS, Fld.CLK_STATUS_COAST, 1)]
/-- A gate in a state, its handshake since `e`. -/
def gate (g st : Nat) (f : Clk → Clk := id) (s : State := inMode 6) : State :=
  let s := put [(Reg.CLK_GATE_CTL g, Fld.CLK_GATE_CTL_GATE, b2n (st != 0)), (Reg.CLK_GATE_STATUS g, Fld.CLK_GATE_STATUS_STATE, st)] s
  { s with clk := f s.clk }
def shake (g e : Nat) (force : Bool) (x : Clk) : Clk := { x with gateAt := [(g, e, force)] }
/-- Engine 63 awaits the answer to a read. -/
def reading63 : State := withReq (aReq 63 .read (ctlBase + 4) 4 [] (aPart 0 portAUX (ctlBase + 4) 4)) (inMode 6)
def rootSwitching (k : Nat) (x : Clk) : Clk := { x with switch := some ⟨k, 0, 90⟩ }


theorem witness_ClocksTripFallBackAndSwitch (h : Obligations.ClocksTripFallBackAndSwitch) :
    Completes (.clockTrip 1200 1) (rootOn 0 1 7) ∧
    Completes (.fallbackStart 1200) (rootOn 0 0 6 coasting (fun x => { x with fb := true, tripped := 0 })) ∧
    Completes (.autoReturn 48001200) (rootOn 2 1 7 [(Reg.CLK_CTL, Fld.CLK_CTL_AUTO_RETURN, 1)] (fun x => { x with since := [(0, 1200)] })) ∧
    Completes (.referenceReady 1200 2) (rootOn 0 1 3) ∧
    Completes (.referenceReadyLoss 1200 2) (rootOn 0 1 7) ∧
    Completes (.clkSrcGo 1200 0 3) (rootOn 0 1 7) ∧
    Completes (.clkSrcGo 1200 0 0) (rootOn 0 1 7 [] (rootSwitching 1)) ∧
    Completes (.clkSrcGo 1200 0 0) (rootOn 0 1 7) ∧
    Completes (.clkSrcGo 1200 0 2) (rootOn 0 1 3) ∧
    Completes (.clkSrcGo 1200 0 2) (rootOn 0 1 7) ∧
    Completes (.sourceSwitchLock 1200 true 0) (rootOn 0 0 7 coasting (rootSwitching 1)) ∧
    Completes (.sourceSwitchLock 1200 false 1) (rootOn 0 1 7 [] (rootSwitching 2)) ∧
    Completes (.laneHoldoverEnd 1200) (rootOn 0 1 7 [(Reg.CLK_STATUS, Fld.CLK_STATUS_LANE_HOLD, 1)] (fun x => { x with holdEnd := some 1200 })) ∧
    Completes (.intEnWrite 1200 0 0xC7) (rootOn 0 1 3 [(Reg.CLK_CTL, Fld.CLK_CTL_INT_EN, 0)]) ∧
    Completes (.intEnWrite 1200 0 0) (rootOn 2 1 7) ∧
    Completes (.intEnWrite 1200 0 0) (rootOn 0 1 7 [] (rootSwitching 2)) ∧
    Completes (.intEnWrite 1200 0 0) (rootOn 0 0 6 coasting (fun x => { x with fb := true, tripped := 0 })) ∧
    Completes (.intEnWrite 1200 0 0) (rootOn 0 1 7) :=
  ⟨by refine runs (h.1 _ _ _ 1 0 rfl ?_ ?_ ?_) <;> decide +kernel,
   runs ((h.2.1 _ _ _ 1 rfl (by decide +kernel)).1 (by decide +kernel) (by decide +kernel) (by decide)),
   by refine runs ((h.2.1 _ _ _ 0 rfl (by decide +kernel)).2 ?_ ?_ ?_ ?_ ⟨1200, (by decide +kernel), (by decide +kernel)⟩) <;> decide +kernel,
   runs ((h.2.2.1 _ _ _ 2 rfl (by decide)).1 (by decide +kernel) (.inr (by decide +kernel))),
   runs ((h.2.2.1 _ _ _ 2 rfl (by decide)).2),
   runs ((h.2.2.2.1 _ _ _ 0 3 ⟨(by decide +kernel), rfl⟩).1 5 (.inl (by decide +kernel))),
   runs ((h.2.2.2.1 _ _ _ 0 0 ⟨(by decide +kernel), rfl⟩).1 2 (.inr (.inl (by decide +kernel)))),
   runs ((h.2.2.2.1 _ _ _ 0 0 ⟨(by decide +kernel), rfl⟩).1 3 (.inr (.inr (.inl (by decide +kernel))))),
   runs ((h.2.2.2.1 _ _ _ 0 2 ⟨(by decide +kernel), rfl⟩).1 1 (.inr (.inr (.inr (by decide +kernel))))),
   runs ((h.2.2.2.1 _ _ _ 0 2 ⟨(by decide +kernel), rfl⟩).2 (by decide) (by decide +kernel) (.inl (by decide +kernel)) (by decide +kernel)),
   runs ((h.2.2.2.2.1 _ _ _ 0 ⟨1, 0, 90⟩ rfl (by decide +kernel) (by decide)).1),
   runs ((h.2.2.2.2.1 _ _ _ 1 ⟨2, 0, 90⟩ rfl (by decide +kernel) (by decide)).2),
   runs (h.2.2.2.2.2.1 _ _ _ 1200 rfl (by decide +kernel) (by decide)),
   runs ((h.2.2.2.2.2.2 _ _ _ 0 0xC7 ⟨(by decide +kernel), rfl⟩).1 (by decide)),
   runs ((h.2.2.2.2.2.2 _ _ _ 0 0 ⟨(by decide +kernel), rfl⟩).2.1 (by decide) (.inl (by decide +kernel))),
   runs ((h.2.2.2.2.2.2 _ _ _ 0 0 ⟨(by decide +kernel), rfl⟩).2.1 (by decide) (.inr (.inl ⟨⟨2, 0, 90⟩, rfl, rfl⟩))),
   runs ((h.2.2.2.2.2.2 _ _ _ 0 0 ⟨(by decide +kernel), rfl⟩).2.1 (by decide) (.inr (.inr rfl))),
   runs ((h.2.2.2.2.2.2 _ _ _ 0 0 ⟨(by decide +kernel), rfl⟩).2.2 (by decide) (by decide +kernel) (fun _ h => by cases h) (by decide +kernel))⟩

theorem witness_GatesCloseWhenIdleAndOpen (h : Obligations.GatesCloseWhenIdleAndOpen) :
    Completes (.clkGateRequest 1200 0 0 true) (inMode 6) ∧
    Completes (.clkGateRequest 1200 0 63 false) (put [(Reg.ENG_STATUS 63, Fld.ENG_STATUS_TASK, 1)] (inMode 6)) ∧
    Completes (.clkGateRequest 1200 0 83 true) (inMode 6) ∧
    Completes (.gateIdle 1212 83) (gate 83 1 (shake 83 100 false)) ∧
    Completes (.gateIdle 4272 63) (gate 63 1 (shake 63 100 true)) ∧
    Completes (.gateTimeout 4272 63) (gate 63 1 (shake 63 100 false) reading63) ∧
    Completes (.gateTimeout 4272 63) (gate 63 1 (shake 63 100 true) reading63) ∧
    Completes (.clkUngate 1200 0 63 false) (gate 63 1 (shake 63 100 true)) ∧
    Completes (.clkUngate 1200 0 83 true) (gate 83 2) :=
  ⟨runs ((h.1 _ _ _ 0 0 true ⟨(by decide +kernel), rfl⟩ (by decide) (by decide +kernel)).1 (.inl rfl)),
   runs ((h.1 _ _ _ 0 63 false ⟨(by decide +kernel), rfl⟩ (by decide) (by decide +kernel)).1 (.inr ⟨(by decide), (by decide +kernel)⟩)),
   runs ((h.1 _ _ _ 0 83 true ⟨(by decide +kernel), rfl⟩ (by decide) (by decide +kernel)).2 (by decide) (by decide +kernel)),
   by refine runs ((h.2.1 _ _ _ 83 100 false rfl (by decide +kernel)).1 ?_ ?_ ?_) <;> decide +kernel,
   by refine runs ((h.2.1 _ _ _ 63 100 true rfl (by decide +kernel)).1 ?_ ?_ ?_) <;> decide +kernel,
   runs ((h.2.1 _ _ _ 63 100 false rfl (by decide +kernel)).2.1 (by decide +kernel) (by decide +kernel) rfl),
   runs ((h.2.1 _ _ _ 63 100 true rfl (by decide +kernel)).2.2 (by decide +kernel) (by decide +kernel) rfl),
   runs ((h.2.2 _ _ _ 0 63 false ⟨(by decide +kernel), rfl⟩).1 (by decide +kernel)),
   by refine runs ((h.2.2 _ _ _ 0 83 true ⟨(by decide +kernel), rfl⟩).2 ?_ ?_ ?_) <;> decide +kernel⟩

/-! ### Chapter 17 -/

/-- A mode, with domain `d` in state `st`. -/
def domIn (m d st : Nat) (l : List (Nat × Nat) := []) : State := (inMode m l).setDomState d st
def ramping (n : Nat) : State := let s := domIn 6 211 0; { s with pwr := { s.pwr with ramps := (List.range n).map (fun d => (d, 24000)) } }
def downAt (d st : Nat) (e : Option Nat) : State := let s := domIn 6 d st; { s with pwr := { s.pwr with down := [(d, (0, e))], ready := [(d, 24)] } }
def rampEnd : State := let s := domIn 6 207 1; { s with pwr := { s.pwr with ramps := [(207, 1200)] } }
def warmBusy : State := let s := inMode 6; { s with pwr := { s.pwr with warmAt := some 0 } }
def dieHeld (k : Nat) : State := let s := inMode 5 [(Reg.RST_DIE k, 0x40000000)]; { s with pwr := { s.pwr with rstAt := [(k, 1008)] } }
def rodHeld : State := let s := inMode 6 [(Reg.RST_ROD 63, 0x400)]; { s with pwr := { s.pwr with rstAt := [(rodKey 63 2, 1008)] } }
/-- QUIESCE, with every domain but 128 off. -/
def standbyReady : State :=
  { base with
    regs := (Reg.DEV_STATUS, 9) :: ((List.range 211).filter (fun d => d != 128)).map (fun d => (Reg.PWR_DOM_STATUS d, 0)), epoch := some 0, now := 1200 }
def sleeping : State := let s := domIn 10 211 0; { s with pwr := { s.pwr with wake := [211] } }
def degradedQuiesce : State := inMode 9 [(Reg.PWR_MODE_STATUS, 8)]


theorem witness_DomainsPowerDownAndUp (h : Obligations.DomainsPowerDownAndUp) :
    Completes (.pwrDomOffWrite 1200 0 192 0) (inMode 6) ∧
    Completes (.pwrDomOffWrite 1200 0 127 0) (inMode 6) ∧
    Completes (.pwrDomOffWrite 1200 0 191 0) (inMode 6) ∧
    Completes (.pwrDomOffWrite 1200 0 211 0) (domIn 6 211 4) ∧
    Completes (.pwrDomOffWrite 1200 0 128 0) (inMode 6) ∧
    Completes (.pwrDomOffWrite 1200 0 129 0) (inMode 2) ∧
    Completes (.pwrDomOffWrite 1200 0 211 0) (domIn 6 211 1) ∧
    Completes (.pwrDomOnWrite 1200 0 211 0x80000000) (ramping 15) ∧
    Completes (.pwrDomOnWrite 1200 0 211 0x80000000) (ramping 16) ∧
    Completes (.pwrDomOnWrite 1200 0 0 0x80000000) (domIn 6 0 4) ∧
    Completes (.domainDraining 1200 204) (downAt 204 3 none) ∧
    Completes (.domainOff 1200 207) (downAt 207 4 (some 12)) ∧
    Completes (.domainOn 1200 207) (rampEnd) :=
  ⟨runs ((h.1 _ _ _ _ _ _ ⟨(by decide), rfl⟩ (by decide)).1 (by decide) (by decide) (by decide)),
   runs ((h.1 _ _ _ _ _ _ ⟨(by decide), rfl⟩ (by decide)).2.2.1 (by decide) (by decide) (by decide) (by decide) rfl (by decide)),
   runs ((h.1 _ _ _ _ _ _ ⟨(by decide), rfl⟩ (by decide)).2.1 (by decide) (by decide) (by decide) (by decide)),
   runs ((h.1 _ _ _ _ _ _ ⟨(by decide), rfl⟩ (by decide)).2.2.2.1 (.inr (.inr (by decide)))),
   runs ((h.1 _ _ _ _ _ _ ⟨(by decide), rfl⟩ (by decide)).2.2.2.2.1 1 (by decide)),
   runs ((h.1 _ _ _ _ _ _ ⟨(by decide), rfl⟩ (by decide)).2.2.2.2.1 2 (by decide)),
   runs ((h.1 _ _ _ _ _ _ ⟨(by decide), rfl⟩ (by decide)).2.2.2.2.1 3 (by decide)),
   runs ((h.1 _ _ _ _ _ _ ⟨(by decide), rfl⟩ (by decide)).2.2.2.2.2.1 (by decide) (by decide)),
   runs ((h.1 _ _ _ _ _ _ ⟨(by decide), rfl⟩ (by decide)).2.2.2.2.2.2.1 (by decide) (by decide)),
   runs ((h.1 _ _ _ _ _ _ ⟨(by decide), rfl⟩ (by decide)).2.2.2.2.2.2.2 (by decide)),
   runs (h.2.1 _ _ _ _ _ rfl rfl (by decide) (by decide)),
   runs (h.2.2.1 _ _ _ _ _ _ rfl (by decide) (by decide) rfl (by decide) (by decide) (by decide)),
   runs (h.2.2.2 _ _ _ _ _ rfl (by decide) (by decide) rfl (by decide) (by decide) (by decide) (by decide))⟩

theorem witness_ResetsAssertAndRelease (h : Obligations.ResetsAssertAndRelease) :
    Completes (.powerOnReset 1200) (inMode 6) ∧
    Completes (.deviceReset 1200 0xC0 1) (inMode 11) ∧
    Completes (.deviceReset 1200 0 1) (inMode 6) ∧
    Completes (.deviceReset 1200 0 3) (inMode 11) ∧
    Completes (.deviceReset 1200 1 3) (inMode 6) ∧
    Completes (.warmReset 1200 0 3) (inMode 6) ∧
    Completes (.warmReset 1200 0 3) (inMode 10) ∧
    Completes (.warmReset 1200 0 3) (warmBusy) ∧
    Completes (.warmResetRelease 1200) (warmBusy) ∧
    Completes (.dieResetAssert 1200 0 6) (inMode 5) ∧
    Completes (.dieResetAssert 1200 1 4) (inMode 5) ∧
    Completes (.dieResetAssert 1200 0 4) (inMode 2) ∧
    Completes (.dieResetRelease 1200 7 none) (dieHeld 7) ∧
    Completes (.rodResetWrite 1200 0 63 0xFC) (inMode 6) ∧
    Completes (.rodResetMinRelease 1200 63) (rodHeld) ∧
    Completes (.perstAssert 1200) (inMode 6 [(Reg.RST_CTL, 0)]) ∧
    Completes (.perstAssert 1200) (inMode 6) ∧
    Completes (.perstRelease 1200) (inMode 6) :=
  ⟨runs (h.1 _ _ _ rfl),
   runs ((h.2.1 _ _ _ _ _ rfl (by decide)).1 (by decide) (by decide) (by decide)),
   runs ((h.2.1 _ _ _ _ _ rfl (by decide)).2.1 (by decide) (by decide) (by decide)),
   runs ((h.2.1 _ _ _ _ _ rfl (by decide)).2.2.1 (by decide) (by decide) (by decide)),
   runs ((h.2.1 _ _ _ _ _ rfl (by decide)).2.2.2 (by decide) (by decide)),
   runs ((h.2.2.1 _ _ _ _ _ rfl (by decide) (by decide)).1 (by decide) (by decide) (by decide)),
   runs ((h.2.2.1 _ _ _ _ _ rfl (by decide) (by decide)).2 (.inl (by decide))),
   runs ((h.2.2.1 _ _ _ _ _ rfl (by decide) (by decide)).2 (.inr (by decide))),
   runs (h.2.2.2.1 _ _ _ _ rfl rfl (by decide)),
   runs ((h.2.2.2.2.1 _ _ _ _ _ ⟨(by decide), rfl⟩ (by decide) (by decide)).1 (by decide) (by decide) (by decide)),
   runs ((h.2.2.2.2.1 _ _ _ _ _ ⟨(by decide), rfl⟩ (by decide) (by decide)).2.1 (by decide)),
   runs ((h.2.2.2.2.1 _ _ _ _ _ ⟨(by decide), rfl⟩ (by decide) (by decide)).2.2 (by decide) (by decide)),
   runs (h.2.2.2.2.2.1 _ _ _ _ _ rfl (by decide) (by decide) (by decide) (by decide) rfl (by decide)),
   runs (h.2.2.2.2.2.2.1 _ _ _ _ _ _ ⟨(by decide), rfl⟩ (by decide) (by decide) (by decide) (by decide) (by decide)),
   runs (h.2.2.2.2.2.2.2.1 _ _ _ _ _ rfl (by decide) (by decide) (by decide) (by decide) (by decide) (by decide) rfl (by decide)),
   runs ((h.2.2.2.2.2.2.2.2 _ _ _ rfl).1 (by decide) (by decide) (by decide)),
   runs ((h.2.2.2.2.2.2.2.2 _ _ _ rfl).2.1 (by decide) (by decide) (by decide)),
   runs ((h.2.2.2.2.2.2.2.2 _ _ _ rfl).2.2)⟩

theorem witness_ModesFollowTheirControl (h : Obligations.ModesFollowTheirControl) :
    Completes (.modeQuiesce 1200 0 0) (inMode 8) ∧
    Completes (.modeQuiesce 1200 0 1) (inMode 5) ∧
    Completes (.modeQuiesce 1200 0 8) (inMode 6) ∧
    Completes (.modeResume 1200 0 2) (degradedQuiesce) ∧
    Completes (.modeStandby 1200 0 4 true) (inMode 9 [(Reg.SCRUB_STATUS, 0x80000000)]) ∧
    Completes (.modeStandby 1200 0 4 true) (standbyReady) ∧
    Completes (.modeWake 1200 0 8) (sleeping) :=
  ⟨runs ((h _ _ _ _ _ ⟨(by decide), rfl⟩).1 (by decide) (by decide) (by decide)),
   runs ((h _ _ _ _ _ ⟨(by decide), rfl⟩).2.1 (by decide) (by decide) (by decide)),
   runs ((h _ _ _ _ _ ⟨(by decide), rfl⟩).2.2.1 (by decide)),
   runs ((h _ _ _ _ _ ⟨(by decide), rfl⟩).2.2.2.1 (by decide) (by decide) (by decide)),
   runs ((h _ _ _ _ _ ⟨(by decide), rfl⟩).2.2.2.2.1 _ (by decide) (by decide) (by decide) (by decide)),
   by refine runs ((h _ _ _ _ _ ⟨(by decide +kernel), rfl⟩).2.2.2.2.2.1 ?_ ?_ ?_ ?_ ?_ ?_) <;> decide +kernel,
   runs ((h _ _ _ _ _ ⟨(by decide), rfl⟩).2.2.2.2.2.2 _ (by decide) (by decide) (by decide) (by decide) rfl (by decide) (by decide))⟩

/-! ### Chapter 18 -/

def g132 : Nat := groupId 3 1 (74 + 32)
def gRc : Nat := groupId 3 2 80
/-- A sweep in which rod 3 has observed nothing of interface 1's last group yet; `bad` is the repair map. -/
def swept (bad : Table (List Nat)) (l : List (Nat × Nat)) : State :=
  let s := inMode 6 l
  { s with stk := { s.stk with sweep := some [(3, 256)], bad := bad, pauses := [(g132, 0)], defer := [(g132 + 1, [5])], pend := [(g132, 67)] } }
/-- The same with region 3 running and repairs of RC groups deferred. -/
def sweptRc : State := (swept [] [(Reg.STACK_CTL, 3)]).setRstate 3 rsRunning
def wearAt (y : Sensor) : State := let s := inMode 6; { s with now := 48000000, stk := { s.stk with readAt := some 0, sens := [(63, y)] } }
def ledgerAt : State := { inMode 6 with now := 12 * 1440000000000 }
def failing18 : State := let s := inMode 6; { s with pwr := { s.pwr with failAt := some 0 } }


theorem witness_ViaFaultsAreSweptRepairedAndRetired (h : Obligations.ViaFaultsAreSweptRepairedAndRetired) :
    Completes (.sweepStart 48000000000) (inMode 6) ∧
    Completes (.stackCheckNow 1200 0 3) (inMode 6) ∧
    Completes (.stackCheckNow 1200 0 3) (swept [] []) ∧
    Completes (.groupObservationEnd 1200 g132 [(63, 3)]) (swept [(g132, [1, 2, 3, 4])] []) ∧
    Completes (.groupObservationEnd 1200 g132 [(67, 0)]) (swept [(g132, [1, 2, 3])] []) ∧
    Completes (.groupObservationEnd 1200 g132 [(0, 4)]) (swept [(g132, [1, 2, 3])] []) ∧
    Completes (.groupObservationEnd 1200 gRc [(0, 4)]) (sweptRc) ∧
    Completes (.groupObservationEnd 1200 g132 [(67, 4)]) (swept [(g132, [1, 2, 3, 4])] []) ∧
    Completes (.pauseEnd 4800 g132) (swept [] []) ∧
    Completes (.deferredPauseStart 1200 (g132 + 1)) (swept [] []) ∧
    Completes (.fuseBlow 1200 g132 67) (swept [] []) :=
  ⟨runs (h.1 _ _ _ rfl (by decide) (by decide) (by decide) (by decide) (by decide)),
   runs (h.2.1 _ _ _ _ _ ⟨(by decide), rfl⟩),
   runs (h.2.1 _ _ _ _ _ ⟨(by decide), rfl⟩),
   runs ((h.2.2.1 _ _ _ _ _ _ _ rfl rfl (by decide) (ofSome rfl (by decide)) (by decide) (by decide) (by decide) (by decide)).1 (by decide) (by decide)),
   runs ((h.2.2.1 _ _ _ _ _ _ _ rfl rfl (by decide) (ofSome rfl (by decide)) (by decide) (by decide) (by decide) (by decide)).2.1 (by decide) (by decide)),
   runs ((h.2.2.1 _ _ _ _ _ _ _ rfl rfl (by decide) (ofSome rfl (by decide)) (by decide) (by decide) (by decide) (by decide)).2.2.1 (by decide) rfl (by decide) (by decide)),
   runs ((h.2.2.1 _ _ _ _ _ _ _ rfl rfl (by decide) (ofSome rfl (by decide)) (by decide) (by decide) (by decide) (by decide)).2.2.2.1 (by decide) rfl (by decide) (by decide)),
   runs ((h.2.2.1 _ _ _ _ _ _ _ rfl rfl (by decide) (ofSome rfl (by decide)) (by decide) (by decide) (by decide) (by decide)).2.2.2.2 (by decide) rfl (by decide) (by decide) (by decide)),
   runs (h.2.2.2.1 _ _ _ _ _ rfl rfl (by decide)),
   runs (h.2.2.2.2.1 _ _ _ _ _ rfl rfl (by decide)),
   runs (h.2.2.2.2.2 _ _ _ _ _ rfl (by decide))⟩

theorem witness_BondWearIsCountedAndRecorded (h : Obligations.BondWearIsCountedAndRecorded) :
    Completes (.wearSample 48000000 ((List.replicate 63 0) ++ [0x7FF])) (wearAt ⟨400, 100, true⟩) ∧
    Completes (.wearSample 48000000 ((List.replicate 63 0) ++ [100])) (wearAt ⟨-132, 108, true⟩) ∧
    Completes (.wearSample 48000000 ((List.replicate 63 0) ++ [101])) (wearAt ⟨-132, 108, true⟩) ∧
    Completes (.ledgerRecordWrite 0 true) (ledgerAt) ∧
    Completes (.ledgerRecordWrite 0 false) (ledgerAt) ∧
    Completes (.stackSave 1200 0 3 true) (inMode 6) ∧
    Completes (.stackSave 1200 0 3 true) (failing18) :=
  ⟨runs (h.1 _ _ _ _ rfl (by decide) (ofSome rfl (by decide))),
   runs (h.1 _ _ _ _ rfl (by decide) (ofSome rfl (by decide))),
   runs (h.1 _ _ _ _ rfl (by decide) (ofSome rfl (by decide))),
   runs ((h.2.1 _ _ _ rfl (by decide) (by decide) (by decide) rfl).1),
   runs ((h.2.1 _ _ _ rfl (by decide) (by decide) (by decide) rfl).2),
   runs ((h.2.2 _ _ _ _ _ ⟨(by decide), rfl⟩ (by decide)).1 rfl),
   runs ((h.2.2 _ _ _ _ _ ⟨(by decide), rfl⟩ (by decide)).2 _ (by decide))⟩

/-! ### Chapter 19 -/

/-- A mode, with port `p` in state `st`, at time `n`. -/
def portIn (m p st : Nat) (l : List (Nat × Nat) := []) (n : Nat := 1200) : State := { (inMode m l).setPortState p st with now := n }
def loneIn : State := let s := portIn 6 3 lpAbsent; { s with brd := { s.brd with straps := ⟨0, 0, 0, true⟩ } }
def retriedOut : State := let f : AFrame := ⟨frData, 0, 0, [], []⟩; (portIn 6 0 lpUp).mapAport 0 (fun x => { x with resent := (5, 64), replay := [(5, f)] })
/-- A device that is not the best candidate it will hear of. -/
def listening : State := let s := portIn 6 1 lpUp; { s with fuse := { s.fuse with serial := 9 }, brd := { s.brd with straps := ⟨0, 1, 1, false⟩, best := (1, 9) } }
def bestBeacon (port dimX : Nat) : Beacon := ⟨7, port, dimX, 1, false, true, 0, 1, 0, (0, 7)⟩
def frameOf (p seq ack : Nat) (f : AFrame) : List Byte := base.frameBytes p seq ack f
def beaconBytes (port dimX : Nat) : List Byte := frameOf 1 0 ackNone ⟨frBeacon, 0, 0, [], (bestBeacon port dimX).bytes⟩
def settling : State := let s := (portIn 6 0 lpUp [] 2000000); [1, 2, 3].foldl (fun s p => s.setPortState p lpUp) { s with brd := { s.brd with valid := true } }

def noFrame : RawFrame := ⟨0, 0, false, plainFrame 0, []⟩

theorem frameIn {s : State} {t p type : Nat} {b : List Byte} (hp : p < 4) (h : ((s.boardAdvance t).receive p b).2.isSome = true)
    (ht : (((s.boardAdvance t).receive p b).2.getD default).type = type) :
    FrameIn s t p type b (((s.boardAdvance t).receive p b).2.getD default) ((s.boardAdvance t).receive p b).1 := by
  refine ⟨hp, ?_, ht⟩
  generalize (s.boardAdvance t).receive p b = r at h
  obtain ⟨a, o⟩ := r
  cases o with
  | none => cases h
  | some f => rfl

/-- A port that has taken frames 0–4, with frames of its own that wait to be acknowledged. -/
def busyPort (nak : Bool) (replay : List Nat) : State :=
  (portIn 6 2 lpUp).mapAport 2 (fun x => { x with expect := 5, next := 9, nakSent := nak, replay := replay.map (fun k => (k, plainFrame frIdle)) })
def idleFrame (seq ack : Nat) : List Byte := frameOf 2 seq ack (plainFrame frIdle)
/-- An encrypted frame whose tag is not that of its (empty) payload. -/
def badTag : List Byte :=
  let b := toBytes 8 5 ++ toBytes 8 ackNone ++ toBytes 1 frIdle ++ toBytes 1 1 ++ List.replicate 30 0 ++ [0xA5, 0, 0, 0, 0, 0, 0, 0x5A]
  b ++ toBytes 4 (crc32c b)
/-- A read of 128 bytes of this device from device 1, and a packet for device 2. -/
def readFrame (dev hops : Nat) : List Byte :=
  let k := requestPacket 0 127 0x3F 2 0 0x1000 []
  frameOf 0 0 ackNone ⟨frData, hops, 1 + dev * 16, k.1, k.2⟩
def answerFrame : List Byte :=
  let k := responsePacket false false rOK 2 0 5 portAUX 0 (List.replicate 8 0x11)
  frameOf 0 0 ackNone ⟨frData, 0, 1, k.1, k.2⟩
def routes19 : State := portIn 6 0 lpUp [(Reg.ALINK_RT 0 1, 0x80000000), (Reg.ALINK_RT 0 2, 0x80000001)]
def outRead : Request := { aReq 0 .read (2 ^ 48) 8 [] ⟨7, portAUX, 2 ^ 48, 8, 2, 0, none, true, none, false, false, false, false⟩ with id := 4, stream := 2 }
def waits19 : State :=
  let s := routes19
  { s with brd := { s.brd with out := [⟨outRead, 0, 0, 1, false, none⟩] }, noc := { s.noc with reqs := [outRead], nextId := 5 } }
def deliveryBytes : List Byte := frameOf 0 0 ackNone ⟨frDelivery, 0, 1, [], []⟩

/-- A pair port with a settled neighbour; the root clock is locked to the chassis. -/
def pairable : State :=
  (portIn 6 3 lpUp [(Reg.CLK_STATUS, 0x80000000), (Reg.ALINK_PORT_STATUS 3, 0x10000000)]).mapAport 3 (fun x => { x with nb := some { bestBeacon 1 1 with settled := true } })
/-- A pair state on port 3, in a mode. -/
def pairIn (m st : Nat) (f : Pair → Pair := id) : State :=
  ((((inMode m).setPortState 3 lpPair).setFld Reg.ALINK_PAIR_CTL Fld.ALINK_PAIR_CTL_PORT 3).setFld Reg.ALINK_PAIR_STATUS Fld.ALINK_PAIR_STATUS_STATE st).mapPair f
def pairBytes (kind cause window crc : Nat) : List Byte :=
  frameOf 3 0 ackNone ⟨frPair, 0, 0, [], toBytes 1 kind ++ toBytes 1 cause ++ toBytes 2 0 ++ toBytes 4 window ++ toBytes 4 crc ++ toBytes 4 0⟩
def paired (f : Pair → Pair := id) : State := pairIn 7 pairPaired (fun x => f { x with entry := some 0 })

theorem pairFrame {s : State} {t p kind w c : Nat} {b : List Byte} (hp : p < 4) (h : ((s.boardAdvance t).receive p b).2.isSome = true)
    (ht : (((s.boardAdvance t).receive p b).2.getD default).type = frPair) (h1 : ((s.boardAdvance t).receive p b).1.portState p = lpPair)
    (h2 : ((s.boardAdvance t).receive p b).1.pairPort = p)
    (h3 : (parsePair (((s.boardAdvance t).receive p b).2.getD default).body).map (fun x => (x.1, x.2.2)) = some (kind, w, c)) :
    PairIn s t p kind w c b (((s.boardAdvance t).receive p b).1.mapPair (fun y => { y with lastAt := ((s.boardAdvance t).receive p b).1.now })) := by
  obtain ⟨⟨k, x, w', c'⟩, e, e'⟩ := Option.map_eq_some_iff.mp h3
  cases e'
  exact ⟨_, _, x, frameIn hp h ht, h1, h2, e, rfl⟩


theorem witness_BoardPortsComeUpAndSettle (h : Obligations.BoardPortsComeUpAndSettle) :
    Completes (.alinkPortUp 1200 0 1) (portIn 6 0 lpTraining) ∧
    Completes (.alinkPortUp 1200 3 1) (loneIn) ∧
    Completes (.alinkPortLost 1200 3) (portIn 6 3 lpUp) ∧
    Completes (.alinkRetryLimit 1200 0) (retriedOut) ∧
    Completes (.beaconSend 1200 0) (portIn 3 0 lpUp) ∧
    Completes (.foreignTimeout 4800000 0) (portIn 6 0 lpUp [(Reg.ALINK_PORT_STATUS 0, 0)]) ∧
    Completes (.beacon 1200 1 (beaconBytes 3 1)) (listening) ∧
    Completes (.beacon 1200 1 (beaconBytes 3 2)) (listening) ∧
    Completes (.deviceSettle 2000000) (settling) ∧
    Completes (.portAbsentTimeout 115200000 2) (portIn 6 2 lpTraining) ∧
    Completes (.alinkRtWrite 1200 0 1 15 0xFFFFFFFF) (inMode 6) ∧
    Completes (.alinkRtWrite 1200 0 0 0 3) (inMode 6) :=
  ⟨runs (h.1 _ _ _ _ _ rfl (by decide) (.inl (by decide)) (by decide)),
   runs (h.1 _ _ _ _ _ rfl (by decide) (.inr (by decide)) (by decide)),
   runs ((h.2.1 _ _ _ _ rfl (by decide) (by decide)).1),
   runs ((h.2.1 _ _ _ _ rfl (by decide) (by decide)).2.1 (by decide) ⟨_, List.mem_singleton.mpr rfl⟩),
   runs ((h.2.1 _ _ _ _ rfl (by decide) (by decide)).2.2.1 (by decide) (by decide) (by decide)),
   runs ((h.2.1 _ _ _ _ rfl (by decide) (by decide)).2.2.2 (by decide) (by decide) (by decide)),
   by refine runs ((h.2.2.1 _ _ _ _ _ _ _ (frameIn ?_ ?_ ?_) (by decide +kernel) rfl ?_ ?_ ?_).1 ?_ ?_ ?_ ?_ ?_ ?_) <;> decide +kernel,
   by refine runs ((h.2.2.1 _ _ _ _ _ _ _ (frameIn ?_ ?_ ?_) (by decide +kernel) rfl ?_ ?_ ?_).2 (by decide +kernel)) <;> decide +kernel,
   runs (h.2.2.2.1 _ _ _ rfl (by decide)),
   runs (h.2.2.2.2.1 _ _ _ _ rfl (by decide) (by decide) (by decide) (by decide)),
   runs ((h.2.2.2.2.2 _ _ _ _ _ _ _ ⟨(by decide), rfl⟩).1 (by decide)),
   runs ((h.2.2.2.2.2 _ _ _ _ _ _ _ ⟨(by decide), rfl⟩).2 (by decide))⟩

theorem witness_BoardFramesAndPacketsMove (h : Obligations.BoardFramesAndPacketsMove) :
    Completes (.alinkIdle 1200 2 (idleFrame 5 7)) (busyPort true [7, 8]) ∧
    Completes (.alinkIdle 1200 2 (idleFrame 6 ackNone)) (busyPort false (List.range 63)) ∧
    Completes (.alinkIdle 1200 2 (idleFrame 4 ackNone)) (busyPort true []) ∧
    Completes (.alinkIdle 1200 2 badTag) (busyPort true []) ∧
    Completes (.alinkNak 1200 2 (frameOf 2 5 6 (plainFrame frNak))) (busyPort true [7, 8]) ∧
    Completes (.alinkDataFrame 1200 0 (readFrame 0 0) false none) (routes19) ∧
    Completes (.alinkDataFrame 1200 0 answerFrame true (some (4, 0))) (waits19) ∧
    Completes (.alinkDataFrame 1200 0 (readFrame 2 6) false none) (routes19) ∧
    Completes (.alinkDataFrame 1200 0 (readFrame 2 7) true none) (routes19) ∧
    Completes (.delivery 1200 0 deliveryBytes 4 0) (waits19) :=
  ⟨by refine runs ((h.1 _ _ _ _ _ ((parseFrame (idleFrame 5 7)).getD noFrame) rfl ?_ ?_ ?_ ?_).1 ?_ ?_ ?_) <;> decide +kernel,
   by refine runs ((h.1 _ _ _ _ _ ((parseFrame (idleFrame 6 ackNone)).getD noFrame) rfl ?_ ?_ ?_ ?_).2.1 ?_ ?_ ?_) <;> decide +kernel,
   by refine runs (runEq ((h.1 _ _ _ _ _ ((parseFrame (idleFrame 4 ackNone)).getD noFrame) rfl ?_ ?_ ?_ ?_).2.2.1 (by decide +kernel) (by decide +kernel))) <;> decide +kernel,
   by refine runs ((h.1 _ _ _ _ _ ((parseFrame badTag).getD noFrame) rfl ?_ ?_ ?_ ?_).2.2.2 ?_ ?_ ?_) <;> decide +kernel,
   by refine runs (h.2.1 _ _ _ _ 6 7 _ _ (plainFrame frIdle) [(8, plainFrame frIdle)] (frameIn ?_ ?_ ?_) ?_ ?_ ?_ ?_ ?_) <;> decide +kernel,
   by refine runs ((h.2.2.1 _ _ _ _ _ _ _ (frameIn ?_ ?_ ?_) (by decide +kernel) rfl).1 _ 0 ⟨(by decide +kernel), (by decide +kernel), (by decide +kernel)⟩ ?_ ?_ ?_ ?_) <;> decide +kernel,
   by refine runs ((h.2.2.1 _ _ _ _ _ _ _ (frameIn ?_ ?_ ?_) (by decide +kernel) rfl).2.1 _ _ (⟨outRead, 0, 0, 1, false, none⟩) ?_ ?_ ?_ ?_ ?_ ?_) <;> decide +kernel,
   by refine runs ((h.2.2.1 _ _ _ _ _ _ _ (frameIn ?_ ?_ ?_) (by decide +kernel) rfl).2.2.1 _ _ 1 ?_ ?_ ?_ ?_) <;> decide +kernel,
   by refine runs (runEq ((h.2.2.1 _ _ _ _ _ _ _ (frameIn ?_ ?_ ?_) (by decide +kernel) rfl).2.2.2 _ (by decide +kernel) (by decide +kernel))) <;> decide +kernel,
   by refine runs (h.2.2.2 _ _ _ _ _ _ _ _ (⟨outRead, 0, 0, 1, false, none⟩) (frameIn ?_ ?_ ?_) ?_ ?_ ?_ ?_ ?_ ?_) <;> decide +kernel⟩

theorem witness_PairedRunStartsComparesAndEnds (h : Obligations.PairedRunStartsComparesAndEnds) :
    Completes (.pairArm 1200 0 3) (pairable) ∧
    Completes (.pairArm 1200 0 3) (pairIn 6 pairArmed) ∧
    Completes (.pairArm 1200 0 3) (inMode 9) ∧
    Completes (.pairArm 1200 0 3) (inMode 6 [(Reg.CLK_STATUS, 0x80000200)]) ∧
    Completes (.pairArm 1200 0 3) (inMode 6 [(Reg.CLK_STATUS, 0x80000000)]) ∧
    Completes (.pairReady 1200 3 (pairBytes 1 0 0 0)) (pairIn 6 pairArmed (fun x => { x with readySent := true })) ∧
    Completes (.pairReady 1200 3 (pairBytes 1 0 0 0)) (portIn 6 3 lpUp) ∧
    Completes (.pairedRunEntry 1584 1200) (pairIn 8 pairReady) ∧
    Completes (.pairWindowEnd 384) ({ paired with now := 384 }) ∧
    Completes (.pairLinkTimeout 1536) (paired) ∧
    Completes (.pairLeaveEnd 384) ({ paired (fun x => { x with leave := some (0, 0) }) with now := 384 }) ∧
    Completes (.pairSig 1200 3 (pairBytes 2 0 0 5)) (paired (fun x => { x with own := [(0, 5)] })) ∧
    Completes (.pairSig 1200 3 (pairBytes 2 0 0 5)) (paired (fun x => { x with own := [(0, 6)] })) ∧
    Completes (.pairSig 1200 3 (pairBytes 2 0 1 5)) (paired) ∧
    Completes (.pairHalt 1200 3 (pairBytes 3 2 9 0)) (paired) ∧
    Completes (.alinkPairLeaveWrite 1200 0) (paired (fun x => { x with window := 2 ^ 32 - 1 })) ∧
    Completes (.pairLeave 1200 3 (pairBytes 4 0 3 0) false) (paired (fun x => { x with leave := some (1, 17) })) ∧
    Completes (.pairLeave 1200 3 (pairBytes 4 0 3 0) false) (paired) ∧
    Completes (.pairLeave 1200 3 (pairBytes 4 0 3 0) true) (paired (fun x => { x with window := 3 })) ∧
    Completes (.pairLeave 1200 3 (pairBytes 4 0 3 0) true) (paired (fun x => { x with window := 4 })) :=
  ⟨runs ((h.1 _ _ _ _ _ _ ⟨(by decide), rfl⟩ rfl).1 (by decide) (by decide) (by decide) (by decide) (by decide) (by decide) ⟨_, rfl, rfl⟩),
   runs ((h.1 _ _ _ _ _ _ ⟨(by decide), rfl⟩ rfl).2 1 (by decide)),
   runs ((h.1 _ _ _ _ _ _ ⟨(by decide), rfl⟩ rfl).2 2 (by decide)),
   runs ((h.1 _ _ _ _ _ _ ⟨(by decide), rfl⟩ rfl).2 3 (by decide)),
   runs ((h.1 _ _ _ _ _ _ ⟨(by decide), rfl⟩ rfl).2 4 (by decide)),
   by refine runs (h.2.1 _ _ _ _ _ (pairFrame ?_ ?_ ?_ ?_ ?_ ?_) (by decide +kernel)) <;> decide +kernel,
   by refine runs (h.2.2.1 _ _ _ _ 0 0 0 _ _ (frameIn ?_ ?_ ?_) (by decide +kernel) (by decide +kernel)) <;> decide +kernel,
   runs (h.2.2.2.1 _ _ _ _ rfl (by decide) (by decide) (by decide) (by decide)),
   runs ((h.2.2.2.2.1 _ _ _ _ _ rfl (by decide) rfl rfl).1 (by decide) (by decide)),
   runs ((h.2.2.2.2.1 _ _ _ _ _ rfl (by decide) rfl rfl).2.1 (by decide) (by decide) (by decide)),
   runs ((h.2.2.2.2.1 _ _ _ _ _ rfl (by decide) rfl rfl).2.2 _ _ rfl (by decide) (by decide) (by decide)),
   by refine runs ((h.2.2.2.2.2.1 _ _ _ _ 0 5 5 _ (pairFrame ?_ ?_ ?_ ?_ ?_ ?_) ?_ ?_ ?_).1 ?_ ?_ ?_) <;> decide +kernel,
   by refine runs ((h.2.2.2.2.2.1 _ _ _ _ 0 5 6 _ (pairFrame ?_ ?_ ?_ ?_ ?_ ?_) ?_ ?_ ?_).2 (by decide +kernel)) <;> decide +kernel,
   by refine runs ((h.2.2.2.2.2.1 _ _ _ _ 1 5 0 _ (pairFrame ?_ ?_ ?_ ?_ ?_ ?_) ?_ ?_ ?_).2 (by decide +kernel)) <;> decide +kernel,
   by refine runs (h.2.2.2.2.2.2.1 _ _ _ _ 9 _ (pairFrame ?_ ?_ ?_ ?_ ?_ ?_) (by decide +kernel) (by decide +kernel)) <;> decide +kernel,
   runs (h.2.2.2.2.2.2.2.1 _ _ _ _ _ ⟨(by decide), rfl⟩ (by decide) (by decide) rfl),
   by refine runs ((h.2.2.2.2.2.2.2.2 _ _ _ _ 3 _ (pairFrame ?_ ?_ ?_ ?_ ?_ ?_) (by decide +kernel)).1 1 17 (by decide +kernel)) <;> decide +kernel,
   by refine runs ((h.2.2.2.2.2.2.2.2 _ _ _ _ 3 _ (pairFrame ?_ ?_ ?_ ?_ ?_ ?_) (by decide +kernel)).2.1 (by decide +kernel)) <;> decide +kernel,
   by refine runs ((h.2.2.2.2.2.2.2.2 _ _ _ _ 3 _ (pairFrame ?_ ?_ ?_ ?_ ?_ ?_) (by decide +kernel)).2.2.1 (by decide +kernel) (by decide +kernel)) <;> decide +kernel,
   by refine runs ((h.2.2.2.2.2.2.2.2 _ _ _ _ 3 _ (pairFrame ?_ ?_ ?_ ?_ ?_ ?_) (by decide +kernel)).2.2.2 (by decide +kernel)) <;> decide +kernel⟩

/-! ### Chapter 20 -/

/-- A mode with power good, or held by a thermal trip, or failing since time 0. -/
def powered (m : Nat) (good therm : Bool) (failAt : Option Nat) : State :=
  let s := inMode m
  { s with pwr := { s.pwr with good := good, therm := therm, failAt := failAt, faulty := false, tripped := false, devHeld := false } }


theorem witness_PowerComesGoesAndPowerUpEnds (h : Obligations.PowerComesGoesAndPowerUpEnds) :
    Completes (.pwrgoodRise 1200) (powered 0 false false none) ∧
    Completes (.pwrgoodRise 1200) (powered 0 false true none) ∧
    Completes (.pwrgoodFall 1200) (powered 6 true false none) ∧
    Completes (.pwrgoodFall 1200) (powered 0 true true none) ∧
    Completes (.powerFailIntervalEnd 120000) (powered 6 false false (some 0)) ∧
    Completes (.powerFailIntervalEnd 120000) (powered 6 true false (some 0)) ∧
    Completes (.railMonitorTrip 1200) (powered 6 true false none) ∧
    Completes (.thermalTrip 1200) (powered 6 true false none) ∧
    Completes (.thermalTrip 1200) (powered 0 true false none) ∧
    Completes (.powerUpEnd 1200 [1] [] true) (powered 1 true false none) ∧
    Completes (.powerUpEnd 1200 [1] [] false) (powered 1 true false none) :=
  ⟨runs ((h.1 _ _ _ rfl).1 (by decide) (by decide)),
   runs ((h.1 _ _ _ rfl).2.1 (by decide)),
   runs ((h.1 _ _ _ rfl).2.2.1 (by decide) (by decide) (by decide)),
   runs ((h.1 _ _ _ rfl).2.2.2.1 (by decide) (by decide)),
   runs ((h.1 _ _ _ rfl).2.2.2.2.1 _ rfl (by decide)),
   runs ((h.1 _ _ _ rfl).2.2.2.2.1 _ rfl (by decide)),
   runs ((h.1 _ _ _ rfl).2.2.2.2.2.1),
   runs ((h.1 _ _ _ rfl).2.2.2.2.2.2.1 (by decide)),
   runs (runEq ((h.1 _ _ _ rfl).2.2.2.2.2.2.2 (by decide))),
   runs ((h.2 _ _ _ _ [] rfl (by decide) (by decide) (by decide) (by decide) (by decide) (by decide)).1),
   runs ((h.2 _ _ _ _ [] rfl (by decide) (by decide) (by decide) (by decide) (by decide) (by decide)).2)⟩

/-! ### Every block -/

/-- A write of `v` by `src` to the control register at `off` that has reached its control node, as request 3. -/
def askPart (off : Nat) : Part := aPart 0 portAUX (ctlBase + off) 4
def askReq (src off v : Nat) : Request := aReq src .write (ctlBase + off) 4 (toBytes 4 v) (askPart off)
def ctlAsk (src off v : Nat) (l : List (Nat × Nat) := []) : State := withReq (askReq src off v) (inMode 6 l)
/-- The control node of router 0 has performed a request in this sc. -/
def nodeTaken (s : State) : State := { s with noc := { s.noc with nodeAt := [(0, 100)] } }
def training : State := inMode 6 [(Reg.EMC_CH_STATUS 3, 1), (Reg.EMC_CH_CFG 3, 0xC0040000 + 128 * 2 ^ 8), (Reg.HOST_SEQ_OP 8, 0x80000003)]
/-- Engine 63 waits for the answer to a load, which has been performed as request 3. -/
def loadAnswered (done : Bool) : State :=
  let q : Part := { aPart 0 portAUX ctlBase 4 with performed := true, answer := some ⟨rOK, toBytes 4 7, [false], false⟩ }
  let r : Request := { aReq 63 .read ctlBase 4 [] q with tag := tagEngLoad, done := done }
  (withReq r (inMode 6)).mapEngine 63 (fun e => { e with busy := .load 31 2 0 })


theorem witness_ControlWritesFollowTheirFieldTypes (h : Obligations.ControlWritesFollowTheirFieldTypes) :
    Completes (.controlRegisterWrite 1200 3 0 true) (ctlAsk 0 Reg.XTS_INT_EN 0xFFFFFFFF) ∧
    Completes (.controlRegisterWrite 1200 3 0 true) (ctlAsk 63 Reg.TALLY_INT_EN 5) ∧
    Completes (.controlRegisterWrite 1200 3 0 true) (ctlAsk 63 Reg.STAT_INT_STATUS 1 [(Reg.STAT_INT_STATUS, 1)]) ∧
    Completes (.controlRegisterWrite 1200 3 0 true) (ctlAsk 63 0xFFFC 1) ∧
    Completes (.controlRegisterWrite 1200 3 0 true) (ctlAsk 63 (Reg.ENG_CTL 0) 3) ∧
    Completes (.controlRegisterWrite 1200 3 0 true) (ctlAsk 63 (Reg.ENG_BOOT_ADDR 0) 3) ∧
    Completes (.controlRegisterWrite 1200 3 0 true) (ctlAsk 63 Reg.CFG_STORE_GOLDEN 3) ∧
    Completes (.controlRegisterWrite 1200 3 0 true) (nodeTaken (ctlAsk 63 Reg.TALLY_INT_EN 5)) :=
  ⟨runs (((h _ _ _ _ _ Reg.XTS_INT_EN 0xFFFFFFFF _ (askReq 0 Reg.XTS_INT_EN 0xFFFFFFFF) (askPart Reg.XTS_INT_EN) rfl (by decide) (by decide) rfl (by decide) (by decide) (by decide) (by decide) (by decide)).2 (by decide)).1 Reg.XTS_INT_STATUS (by decide) (.inl (by decide))),
   runs (((h _ _ _ _ _ Reg.TALLY_INT_EN 5 _ (askReq 63 Reg.TALLY_INT_EN 5) (askPart Reg.TALLY_INT_EN) rfl (by decide) (by decide) rfl (by decide) (by decide) (by decide) (by decide) (by decide)).2 (by decide)).1 Reg.TALLY_INT_STATUS (by decide) (.inr (by decide))),
   runs (((h _ _ _ _ _ Reg.STAT_INT_STATUS 1 _ (askReq 63 Reg.STAT_INT_STATUS 1) (askPart Reg.STAT_INT_STATUS) rfl (by decide) (by decide) rfl (by decide) (by decide) (by decide) (by decide) (by decide)).2 (by decide)).2.1 Reg.STAT_INT_EN (by decide) (by decide) (.inr (by decide))),
   runs (((h _ _ _ _ _ 0xFFFC 1 _ (askReq 63 0xFFFC 1) (askPart 0xFFFC) rfl (by decide) (by decide) rfl (by decide) (by decide) (by decide) (by decide) (by decide)).2 (by decide)).2.2.1 (by decide) (by decide)),
   runs (((h _ _ _ _ _ (Reg.ENG_CTL 0) 3 _ (askReq 63 (Reg.ENG_CTL 0) 3) (askPart (Reg.ENG_CTL 0)) rfl (by decide) (by decide) rfl (by decide) (by decide) (by decide) (by decide) (by decide)).2 (by decide)).2.2.2 (by decide) (.inl (by decide))),
   runs (((h _ _ _ _ _ (Reg.ENG_BOOT_ADDR 0) 3 _ (askReq 63 (Reg.ENG_BOOT_ADDR 0) 3) (askPart (Reg.ENG_BOOT_ADDR 0)) rfl (by decide) (by decide) rfl (by decide) (by decide) (by decide) (by decide) (by decide)).2 (by decide)).2.2.2 (by decide) (.inr (.inl (by decide)))),
   runs (((h _ _ _ _ _ Reg.CFG_STORE_GOLDEN 3 _ (askReq 63 Reg.CFG_STORE_GOLDEN 3) (askPart Reg.CFG_STORE_GOLDEN) rfl (by decide) (by decide) rfl (by decide) (by decide) (by decide) (by decide) (by decide)).2 (by decide)).2.2.2 (by decide) (.inr (.inr (by decide)))),
   runs ((h _ _ _ _ _ Reg.TALLY_INT_EN 5 _ (askReq 63 Reg.TALLY_INT_EN 5) (askPart Reg.TALLY_INT_EN) rfl (by decide) (by decide) rfl (by decide) (by decide) (by decide) (by decide) (by decide)).1 (by decide))⟩

theorem witness_StepPhasesAndResponses (h : Obligations.StepPhasesAndResponses) :
    Completes (.sequencerStepPhase 1200 0 0) (inMode 6) ∧
    Completes (.sequencerStepPhase 1200 8 0) (training) ∧
    Completes (.nocResponseArrival 1200 3 0) (loadAnswered true) ∧
    Completes (.nocResponseArrival 1200 3 0) (loadAnswered false) :=
  ⟨runs ((h.1 _ _ _ _ _ rfl (by decide)).1 (by decide)),
   runs ((h.1 _ _ _ _ _ rfl (by decide)).2 3 (by decide) (by decide) (by decide) (by decide) (by decide) (by decide) (by decide) (by decide)),
   runs (h.2.1 _ _ _ _ _ _ _ rfl rfl rfl (by decide) (by decide) (by decide) (by decide) (by decide) (by decide) rfl (by decide) (by decide)),
   by refine runs (h.2.2 _ _ _ _ _ _ 63 31 2 0 ⟨3, 63, 0, 0, .read, tagEngLoad, ctlBase, 4, rOK, toBytes 4 7, [false]⟩ rfl (by decide +kernel) (by decide +kernel) rfl ?_ ?_ ?_ ?_ ?_ ?_ ?_) <;> decide +kernel⟩

/-! ### The whole block -/

/-- A state with a asked request to switch to the local reference, and a bad via recorded. -/
def asked : State :=
  let s := rootOn 0 1 7
  { s with fuse := { s.fuse with vias := [(511, [0x7E, 0x7F])] }, pending := [.clkSrcGo 1200 0 1] }


theorem witness_StepTakesTheFrontCommand (h : Obligations.StepTakesTheFrontCommand) :
    (step (rootOn 0 1 7) = .next (rootOn 0 1 7)) :=
  h.2 _ rfl

theorem witness_XqtallyWordsDecodeToTheirInstructions (h : Obligations.XqtallyWordsDecodeToTheirInstructions) :
    (Xq.decode (Xq.ld64 30 31 0xFFF).encode = some (.ld64 30 31 0xFFF) ∧ Xq.decode (Xq.wait 31 31 31 7).encode = some (.wait 31 31 31 7)) ∧
    ((Xq.post 10 11 12).ok = true ∧ (Xq.post 10 11 12).encode = 0x60B5000B) :=
  ⟨⟨h.1 _ (by decide), h.1 _ (by decide)⟩,
   h.2 0x60B5000B (.post 10 11 12) (by decide)⟩

theorem witness_MemoryWordsCorrectOneBit (h : Obligations.MemoryWordsCorrectOneBit) :
    (wordCols[64 + 7]? = some (2 ^ 7) ∧ (∃ x y, wordCols[0]? = some x ∧ wordCols[55]? = some y ∧ x < y ∧ y < 256 ∧ weight 8 x = 3 ∧ weight 8 y = 3)) ∧
    ((∃ i, i < 56 ∧ wordCols[i]? = some 0xE0) ∧ (∃ x, wordCols[63 - 8]? = some x ∧ wordCols[63]? = some (255 - x))) ∧
    (decodeWord (encodeWord 5) = (.clean, 5) ∧ decodeWord (stampWord 5 ^^^ (1#72 <<< 71)) = (.poisoned, 5)) ∧
    (decodeWord (encodeWord 5 ^^^ (1#72 <<< 47)) = (.corrected, if 47 < 64 then (5#64 ^^^ (1#64 <<< 47)) ^^^ (1#64 <<< 47) else 5#64 ^^^ (1#64 <<< 47))) ∧
    (decodeWord (encodeWord 5 ^^^ 3#72) = (.uncorrectable, 6#64)) ∧
    (decodeWord (encodeWord 5 ^^^ (1#72 <<< 47)) = (.corrected, 5) ∧ decodeWord (encodeWord 5 ^^^ (1#72 <<< 71)) = (.corrected, 5)) ∧
    ((decodeWord (encodeWord 5 ^^^ (1#72 <<< 63))).1 = .poisoned ∧ (decodeWord (encodeWord 5 ^^^ (1#72 <<< 48))).1 = .poisoned) ∧
    ((decodeWord (encodeWord 5 ^^^ (1#72 <<< 0) ^^^ (1#72 <<< 71))).1.bad = true) :=
  ⟨⟨h.1 7 (by decide), h.2.1 0 55 (by decide) (by decide)⟩,
   ⟨h.2.2.1 0xE0 (by decide) (by decide), h.2.2.2.1 63 (by decide) (by decide)⟩,
   ⟨(h.2.2.2.2.2.1 (encodeWord 5) 5 0 (by decide +kernel) (by decide +kernel)).1 rfl, (h.2.2.2.2.2.1 (stampWord 5 ^^^ (1#72 <<< 71)) 5 0x7F (by decide +kernel) (by decide +kernel)).2.1 (.inr ⟨0x80, (by decide +kernel), rfl⟩)⟩,
   (h.2.2.2.2.2.1 (encodeWord 5 ^^^ (1#72 <<< 47)) (5#64 ^^^ (1#64 <<< 47)) 164 (by decide +kernel) (by decide +kernel)).2.2.1 47 (by decide +kernel) (by decide +kernel) (by decide +kernel) (by decide +kernel),
   (h.2.2.2.2.2.1 (encodeWord 5 ^^^ 3#72) 6 0x0C (by decide +kernel) (by decide +kernel)).2.2.2 (by decide +kernel) (by decide +kernel) (by decide +kernel),
   ⟨((h.2.2.2.2.2.2.2 5).2.2.1 47 (by decide)).1 (by decide), ((h.2.2.2.2.2.2.2 5).2.2.1 71 (by decide)).1 (by decide)⟩,
   ⟨((h.2.2.2.2.2.2.2 5).2.2.1 63 (by decide)).2.1 (by decide) (by decide), ((h.2.2.2.2.2.2.2 5).2.2.1 48 (by decide)).2.1 (by decide) (by decide)⟩,
   (h.2.2.2.2.2.2.2 5).2.2.2 0 71 (by decide) (by decide) (by decide)⟩

theorem witness_EveryStepKeepsTheRegistersCanonical (h : Obligations.EveryStepKeepsTheRegistersCanonical) :
    (∃ u, step asked = .next u ∧ u.regsWf = true) :=
  ⟨_, rfl, h asked _ (by decide +kernel) rfl⟩

theorem witness_NoStepUnrecordsABadVia (h : Obligations.NoStepUnrecordsABadVia) :
    (∃ u, step asked = .next u ∧ 0x7E ∈ tget (fun _ => []) u.fuse.vias 511) :=
  ⟨_, rfl, h asked _ 511 0x7E rfl (by decide +kernel)⟩

/-! ### Ill-formed commands, one for each check of WellFormed -/

theorem test_wf_refuses_numbers :
    [Instr.statSnap 0 256, .switch 0 128, .xqPost 0 64, .laneCalDone 0 48, .loadGo 0 0 (2 ^ 32), .templateEnable 0 0 4096 0,
     .tallyCancelWrite 0 0 (2 ^ 28), .tpToken 0 0 0 0 (2 ^ 64) false, .bankDiscard 0 0 0 16, .fenceAccept 0 0 8 0, .strobeFire 0 0 4,
     .tallySpillAckWrite 0 0 0 16, .gateIdle 0 84, .descNop 0 64, .uartTxByteDone 0 8, .dieResetAssert 0 0 8,
     .xtsKeyLoadCur 0 0 3 0].all (fun c => !c.wf) = true := by decide

theorem test_wf_refuses_places :
    [Instr.pulseEnd 0 16, .clockTrip 0 2, .domainOff 0 212, .handoverEvaluate 0 96, .deckRamPortAccess 0 0 48 0 0 none,
     .deckRamPortAccess 0 0 0 0 (2 ^ 15) none, .uartRxByte 0 0 256 false false, .nocRequestAccept 0 0 0 0 0 0 [] [] 0,
     .nocRequestAccept 0 0 0 0 0 257 [] [] 0, .laneTxAccept 0 0 (2 ^ 128) 0, .laneTxAccept 0 0 0 (2 ^ 16), .hostConfigRequest 0 1024 none,
     .descriptorFetchResponse 0 0 4096 0 [], .pinDriveSwitch 0 320, .pinIselWrite 0 0 2112 0, .pinOutWrite 0 0 10 0,
     .flitArrival 0 0 10 ⟨[], 0⟩ none].all (fun c => !c.wf) = true := by decide

theorem test_wf_refuses_values :
    [Instr.referenceReady 0 3, .recordFetchDone 0 270, .fuseBlow 0 0 68, .pauseEnd 0 (2 ^ 22), .wearSample 0 [0], .powerUpEnd 0 [0] [] false,
     .deckRamPortAccess 0 0 0 0 0 (some (2 ^ 72)), .hostConfigRequest 0 0 (some (16, 0))].all (fun c => !c.wf) = true := by decide

/-- The opcode table gives no bits, so no word spells a command, and a fetch word changes nothing. -/
theorem test_no_word_is_a_command : decodeTableWord 32 0xFFFFFFFF = none ∧ base.withFetchWord 32 0xFFFFFFFF = base := ⟨rfl, rfl⟩

/-! ### The worked examples of the spec -/

/-- 07: "xq.post x0, a0, a1, a2 encodes as 0x60B5_000B" and "xq.psel a0, a1, encoded as 0x0005_C50B". -/
theorem test_xq_words : Xq.decode 0x60B5000B = some (.post 10 11 12) ∧ Xq.decode 0x0005C50B = some (.psel 10 11) := by decide
/-- R215, other rows: xq.ld64 with rd x6, rs1 x5 and imm -1; with an odd rd it is no instruction; funct3 0b111 is none. -/
theorem test_xq_refusals : Xq.decode 0xFFF2932B = some (.ld64 6 5 0xFFF) ∧ Xq.decode 0xFFF293AB = none ∧ Xq.decode 0x0000700B = none := by decide

/-- 01: region 77 stands on rod 13; the group of its channels 0–63 across interface 3 is 0x000D_3087. -/
theorem test_group_identifier : groupId 13 3 135 = 0x000D3087 ∧ isGroup 0x000D3087 = true ∧ initRouter (srcRegion 77) = 13 := by decide
/-- 02: after F = 14 a clock with DIV_M1 = 3 and PHASE = 2 has its next edge at 18. -/
theorem test_uclk_edges : UClk.edgeAt ⟨true, 2, 5⟩ 14 = true ∧ UClk.edgeAt ⟨true, 2, 3⟩ 14 = true ∧ UClk.nextEdge ⟨true, 2, 3⟩ 14 = 18 := by decide
/-- 09: the route from rod 13 to rod 63 is 0x06D2, and back 0x0264. -/
theorem test_routes : base.routeOf 13 63 = some 0x6D2 ∧ base.routeOf 63 13 = some 0x264 := by decide +kernel
/-- 11: line 0x1_2345 of a DIRECT_INTERLEAVED way lies in slice 26, set 1,165. -/
theorem test_cache_place : base.directPlace 0x31234500 = (26, 1165) := by decide
/-- 12: channels of 64, 64 and 32 GiB with tags; 0x1_0000_5100 lies on channel 0 at 0x5555_7100, its tweak is 0x100_0051 and its slice 17. -/
theorem test_external_place :
    (w [(Reg.EMC_STATUS, 0x80000000), (Reg.EMC_CTL, 0), (Reg.EMC_CH_STATUS 0, 4), (Reg.EMC_CH_STATUS 1, 4), (Reg.EMC_CH_STATUS 2, 4)]
      (put [(Reg.EMC_STATUS, Fld.EMC_STATUS_MAPPED, 1), (Reg.EMC_CTL, Fld.EMC_CTL_TAGS, 1), (Reg.EMC_CH_CFG 0, Fld.EMC_CH_CFG_CAP, 64),
        (Reg.EMC_CH_CFG 1, Fld.EMC_CH_CFG_CAP, 64), (Reg.EMC_CH_CFG 2, Fld.EMC_CH_CFG_CAP, 32)] base)
      |> put [(Reg.EMC_STATUS, Fld.EMC_STATUS_MAPPED, 1), (Reg.EMC_CTL, Fld.EMC_CTL_TAGS, 1)]).extPlace 0x100005100 = some (0, 0x55557100) ∧
    extLine 0x100005100 = 0x1000051 ∧ fold6 0x1000051 = 17 ∧ extSet 0x100005100 = 1 := by decide +kernel
/-- 15: engine 5 owns pins 40–47 and the normal domain 48–55; their writes leave PIN_OUT(1) at 0x0001_0300. -/
theorem test_pin_out :
    let s := w (((List.range 8).map (fun i => (Reg.PIN_OWN (40 + i), 0x45))) ++ (List.range 8).map (fun i => (Reg.PIN_OWN (48 + i), 1))) (inMode 6)
    ((s.gpioWrite 5 (Reg.PIN_OUT 1) 1 0x300).gpioWrite 0xC0 (Reg.PIN_OUT 1) 1 0x10000).reg (Reg.PIN_OUT 1) = 0x00010300 := by decide +kernel
/-- 15: the event stamped tick 1,000,003 and fine 7, its words and its token. -/
theorem test_trigger_words : (Stamp.mk 1000003 7 true false).words = (0x00F42437, 0xC0000000) ∧ trigToken 1000003 7 4 true = 0x0147_0000_000F_4243 := by
  decide
/-- 18: with vias 12, 20, 40 and 65 bad, signals 12–18 stand on 13–19, 62 on 66 and 63 on 67. -/
theorem test_signal_placement :
    let s := { base with stk := { base.stk with bad := [(0xD3087, [12, 20, 40, 65])] } }
    (s.signalVias 0xD3087).getD 12 0 = 13 ∧ (s.signalVias 0xD3087).getD 38 0 = 41 ∧ (s.signalVias 0xD3087).getD 62 0 = 66 ∧
      (s.signalVias 0xD3087).getD 63 0 = 67 := by decide +kernel
/-- 18: the retirement of that group logs 0xA00D_3087 and via 0x32, and takes channels 0–63 from region 77. -/
theorem test_retirement_log :
    let s := ((inMode 6).retireGroup 0xD3087 50).logView Reg.STACK_LOG
    s.reg Reg.STACK_LOG = 0xA00D3087 ∧ s.reg Reg.STACK_LOG_VIA = 0x32 ∧ s.reg (Reg.PLANE_FAB_RC_AVAIL_LO 77) = 0xFFFFFFFE ∧ s.mode = modeDegraded := by
  decide +kernel

/-! ### The published vectors of the algorithms that the spec names -/

/-- CRC-32C of "123456789". -/
theorem test_crc32c : crc32c [0x31, 0x32, 0x33, 0x34, 0x35, 0x36, 0x37, 0x38, 0x39] = 0xE3069283 := by decide +kernel
/-- FIPS 197, C.3. -/
theorem test_aes :
    aesEnc (List.range 32) ((List.range 16).map (· * 17)) =
      [0x8E, 0xA2, 0xB7, 0xCA, 0x51, 0x67, 0x45, 0xBF, 0xEA, 0xFC, 0x49, 0x90, 0x4B, 0x49, 0x60, 0x89] := by decide +kernel

/-- R41: a full adder of I0 and I1 in a bead whose lookup table holds their exclusive or; 1 + 1 with a carry in. -/
theorem test_bead_adds_with_carry : bead false true 0x6666666666666666 0b000011 true = (false, false, true, true) := by decide

/-- R49: a signed product subtracts from P where SUB = 1: 10 − (−2 × 3) = 16. -/
theorem test_reckon_subtracts_a_signed_product :
    reckon 2 true false false true true 10 0 (BitVec.ofInt 27 (-2)) 3 0 0 = 16 := by decide

end Sys2Proof.Tests
end

section
/-!
The refutation of O8. Its clause on DISCARD speaks of every state of the model, and so of one in which the log of lost tallies keeps a record that
no rule puts there.
-/
namespace Sys2Proof.Machine

/-- A record of the present edge in TALLY_FAULT_LOG whose companion register is PLANE_BSTATE(0); the model itself gives this log only the companion
TALLY_FAULT_HANDLE (R178). -/
def forgedFault : LogPend := ⟨0, 0, 0, [(Reg.PLANE_BSTATE 0, 1)], none, false, 0, false, false⟩

/-- A RUNNING tally whose state lies in bank 1 of region 0. -/
def heldInBank1 : TallyRec := { (default : TallyRec) with state := tsRunning, placed := true, unit := 0, bank := 1 }

/-- The reset state with these two, and a write at its edge that discards bank 1 of region 0. -/
def forgedDiscard : State :=
  { State.reset.setRegion 0 { Region.idle with reqs := [⟨0, 0, .reg, .discard 2⟩] } with
    logs := [(Reg.TALLY_FAULT_LOG, forgedFault)]
    sch := { State.reset.sch with recs := [(0, heldInBank1)] } }

/-- Refutes O8: a discard of bank 1 loses the tally held there (R176), and its fault joins the forged record of the same edge, which writes
PLANE_BSTATE(0) as its companion: bank 0, which the write does not name, goes from UNINIT to LIVE. -/
theorem not_banksAreDiscardedAndTransferred : ¬ Obligations.BanksAreDiscardedAndTransferred := by
  unfold Obligations.BanksAreDiscardedAndTransferred
  rintro ⟨-, hdiscard, -⟩
  have hspared := (hdiscard forgedDiscard 0 0 0 0 2 (by decide) (by decide) (by decide) (by decide)).2
  obtain ⟨hstate, -, -⟩ := hspared (.inl (by decide))
  have hbefore : forgedDiscard.bstate 0 0 = 0 := by decide
  have hafter : (forgedDiscard.runLater (.beamWrites 0)).bstate 0 0 = 1 := by decide
  omega

end Sys2Proof.Machine
end

section
/-!
What R75 claims of a discard, in every state whose log of lost tallies keeps only records of its own: the refutation of O8 rests on the forged
record alone. A loss of tallies (R176) then touches neither the fabric nor a register below the TALLY span, and each bank is discarded or spared by
itself.
-/
namespace Sys2Proof.Machine

/-! ### The records of TALLY_FAULT_LOG (R178, R544) -/

/-- The record writes only TALLY_FAULT_HANDLE and the interrupt bit that belong to TALLY_FAULT_LOG. -/
def LogPend.ofFaults (p : LogPend) : Prop := (∀ c ∈ p.comp, c.1 = Reg.TALLY_FAULT_HANDLE) ∧ ∀ x ∈ p.int, x.1 = Reg.TALLY_INT_STATUS

/-- TALLY_FAULT_LOG keeps no record but such a one. -/
def State.faultLogOwn (s : State) : Prop := ∀ p ∈ tfind s.logs Reg.TALLY_FAULT_LOG, p.ofFaults

theorem reset_faultLogOwn : State.reset.faultLogOwn := fun _ hp => nomatch hp

/-- The state that refutes O8 is none of these. -/
theorem not_forgedDiscard_faultLogOwn : ¬ forgedDiscard.faultLogOwn := fun h =>
  absurd ((h forgedFault rfl).1 (Reg.PLANE_BSTATE 0, 1) (List.mem_singleton_self _)) (by decide)

theorem LogPend.ofFaults_join {p q : LogPend} (hp : p.ofFaults) (hq : q.ofFaults) : (p.join q).ofFaults := by
  unfold LogPend.join
  split
  · exact hq
  · exact hp

/-! ### The frame of a loss of tallies -/

/-- From `a` to `u` the fabric and the registers below the TALLY span are as they were, and TALLY_FAULT_LOG keeps a record of its own. -/
structure State.KeepsPlanes (a u : State) : Prop where
  fab : u.fab = a.fab
  reg : ∀ o < 0x100000, u.reg o = a.reg o
  own : u.faultLogOwn

namespace State.KeepsPlanes

theorem of_eq {a u : State} (h : a.faultLogOwn) (hf : u.fab = a.fab) (hr : u.regs = a.regs) (hl : u.logs = a.logs) : a.KeepsPlanes u :=
  ⟨hf, fun o _ => by simp [State.reg, hr], by simpa [State.faultLogOwn, hl] using h⟩

theorem refl {a : State} (h : a.faultLogOwn) : a.KeepsPlanes a := of_eq h rfl rfl rfl

theorem trans {a u v : State} (h : a.KeepsPlanes u) (k : u.KeepsPlanes v) : a.KeepsPlanes v :=
  ⟨k.fab.trans h.fab, fun o ho => (k.reg o ho).trans (h.reg o ho), k.own⟩

theorem setReg {a : State} (h : a.faultLogOwn) {o : Nat} (ho : 0x100000 ≤ o) (w : Word32) : a.KeepsPlanes (a.setReg o w) :=
  ⟨rfl, fun _ hx => a.reg_setReg_ne w (by omega), h⟩

theorem setFld {a : State} (h : a.faultLogOwn) {o : Nat} (ho : 0x100000 ≤ o) (f : Field) (v : Nat) : a.KeepsPlanes (a.setFld o f v) := setReg h ho _

theorem foldl {α : Type} {l : List α} {f : State → α → State} (hf : ∀ s : State, s.faultLogOwn → ∀ x ∈ l, s.KeepsPlanes (f s x)) :
    ∀ {a : State}, a.faultLogOwn → a.KeepsPlanes (l.foldl f a) := by
  induction l with
  | nil => exact fun h => refl h
  | cons x l ih =>
    intro a h
    have hx := hf a h x (List.mem_cons_self ..)
    exact hx.trans (ih (fun s hs y hy => hf s hs y (List.mem_cons_of_mem _ hy)) hx.own)

/-- The table of the logs gets a record: one of another log, or a record that TALLY_FAULT_LOG may keep. -/
theorem tinsLogs {a : State} (h : a.faultLogOwn) {o : Nat} {p : LogPend} (hp : o = Reg.TALLY_FAULT_LOG → p.ofFaults) :
    a.KeepsPlanes { a with logs := tins a.logs o p } := by
  refine ⟨rfl, fun _ _ => rfl, fun q hq => ?_⟩
  by_cases ho : o = Reg.TALLY_FAULT_LOG
  · subst ho
    have : p = q := by simpa using hq
    exact this ▸ hp rfl
  · rw [tfind_tins_ne _ _ (Ne.symm ho)] at hq
    exact h q hq

end State.KeepsPlanes

variable {s : State}

theorem State.keepsPlanes_logSc (h : s.faultLogOwn) {o : Nat} (ho : o ≠ Reg.TALLY_FAULT_LOG) (rank : Nat) (w : Word32)
    (comp : List (Nat × Word32)) (int : Option (Nat × Field)) : s.KeepsPlanes (s.logSc o rank w comp int) := by
  have hlog (p : LogPend) : s.KeepsPlanes { s with logs := tins s.logs o p } := .tinsLogs h (fun e => absurd e ho)
  have hlater (p : LogPend) (t : Nat) (x : Later) : s.KeepsPlanes (({ s with logs := tins s.logs o p } : State).later t x) :=
    (hlog p).trans (.of_eq (hlog p).own rfl rfl rfl)
  unfold State.logSc
  split
  · split
    · exact hlog _
    · exact hlater _ _ _
  · exact hlater _ _ _

theorem State.keepsPlanes_takeLog (h : s.faultLogOwn) {p : LogPend} (hp : p.ofFaults) : s.KeepsPlanes (s.takeLog Reg.TALLY_FAULT_LOG p) := by
  obtain ⟨hcomp, hint⟩ := hp
  have hnote {u : State} (hu : s.KeepsPlanes u) (here was : Bool) :
      s.KeepsPlanes { u with logs := tins u.logs Reg.TALLY_FAULT_LOG { p with here := here, was := was } } :=
    hu.trans (.tinsLogs hu.own (fun _ => ⟨hcomp, hint⟩))
  unfold State.takeLog
  dsimp only
  split
  · have hword := State.KeepsPlanes.setReg h (o := Reg.TALLY_FAULT_LOG) (by decide)
      ((s.reg Reg.TALLY_FAULT_LOG &&& 0x40000000) ||| p.word ||| (if p.more then 0xC0000000 else 0x80000000))
    have hcomps := hword.trans (State.KeepsPlanes.foldl (l := p.comp) (f := fun s c => s.setReg c.1 c.2)
      (fun s hs c hc => .setReg hs (by rw [hcomp c hc]; decide) _) hword.own)
    refine hnote ?_ _ _
    split
    · rename_i x hx
      exact hcomps.trans (.setReg hcomps.own (by rw [hint x hx]; decide) _)
    · exact hcomps
  · exact hnote (.setReg h (by decide) _) _ _

theorem State.keepsPlanes_logFault (h : s.faultLogOwn) (reason region handle : Nat) : s.KeepsPlanes (s.logFault reason region handle) := by
  have hnew : LogPend.ofFaults ⟨s.now, 0, BitVec.ofNat 32 (reason * 2 ^ 7 + region), [(Reg.TALLY_FAULT_HANDLE, BitVec.ofNat 32 handle)],
      some (Reg.TALLY_INT_STATUS, Fld.TALLY_INT_STATUS_FAULT), false, s.now, false, false⟩ := by simp [LogPend.ofFaults]
  unfold State.logFault State.logEvent
  dsimp only
  split
  · rename_i p hp
    have hjoin := LogPend.ofFaults_join (h p hp) hnew
    split
    · exact s.keepsPlanes_takeLog h hnew
    · split
      · have hvalid := State.KeepsPlanes.setFld h (o := Reg.TALLY_FAULT_LOG) (by decide) logValid 0
        have hmore := hvalid.trans (.setFld hvalid.own (o := Reg.TALLY_FAULT_LOG) (by decide) logMore
          (b2n (s.bit Reg.TALLY_FAULT_LOG logMore && p.was)))
        exact hmore.trans (State.keepsPlanes_takeLog hmore.own hjoin)
      · split
        · exact State.keepsPlanes_takeLog h hjoin
        · have hmore := State.KeepsPlanes.setFld h (o := Reg.TALLY_FAULT_LOG) (by decide) logMore 1
          exact hmore.trans (.tinsLogs hmore.own (fun _ => hjoin))
  · exact State.keepsPlanes_takeLog h hnew

theorem State.keepsPlanes_refuseToken (h : s.faultLogOwn) (code src : Nat) (k : Token) : s.KeepsPlanes (s.refuseToken code src k) := by
  have hcount := State.KeepsPlanes.setReg h (o := Reg.TALLY_CNT_REFUSED) (by decide)
  exact (hcount _).trans (State.keepsPlanes_logSc (hcount _).own (by decide) _ _ _ _)

theorem State.keepsPlanes_unfill (h : s.faultLogOwn) (i : Nat) : s.KeepsPlanes (s.unfill i) := by
  have hfills : s.KeepsPlanes { s with sch := { s.sch with fills := s.sch.fills.filter (fun f => !(f.1 == i)) } } := .of_eq h rfl rfl rfl
  refine hfills.trans (.foldl (fun u hu f _ => ?_) hfills.own)
  dsimp only
  split
  · have hrec (x : TallyRec) : u.KeepsPlanes (u.setRec i x) := .of_eq hu rfl rfl rfl
    exact (hrec _).trans (State.keepsPlanes_refuseToken (hrec _).own _ _ _)
  · exact State.keepsPlanes_refuseToken hu _ _ _

theorem State.keepsPlanes_freeRec (h : s.faultLogOwn) (i : Nat) : s.KeepsPlanes (s.freeRec i) := by
  have hunfill := s.keepsPlanes_unfill h i
  unfold State.freeRec
  dsimp only
  split
  · exact .refl h
  · split
    · exact hunfill.trans (.of_eq hunfill.own rfl rfl rfl)
    · exact hunfill.trans (.of_eq hunfill.own rfl rfl rfl)

theorem State.keepsPlanes_squashRec (h : s.faultLogOwn) (r i reason newState : Nat) : s.KeepsPlanes (s.squashRec r i reason newState) := by
  unfold State.squashRec
  dsimp only
  generalize hu : s.mapRec i _ = u
  have hrec : s.KeepsPlanes u := hu ▸ .of_eq h rfl rfl rfl
  have hcount := hrec.trans (.setFld hrec.own (o := Reg.TALLY_SPEC_CNT_SQUASH r) (by unfold Reg.TALLY_SPEC_CNT_SQUASH; omega)
    Fld.TALLY_SPEC_CNT_SQUASH_COUNT (u.fld (Reg.TALLY_SPEC_CNT_SQUASH r) Fld.TALLY_SPEC_CNT_SQUASH_COUNT + 1))
  exact hcount.trans (State.keepsPlanes_logSc hcount.own (by decide) _ _ _ _)

theorem State.keepsPlanes_loseBank (h : s.faultLogOwn) (r b : Nat) : s.KeepsPlanes (s.loseBank r b) := by
  refine .foldl (fun u hu p _ => ?_) h
  dsimp only
  split
  · have hfree := u.keepsPlanes_freeRec hu p.1
    exact hfree.trans (State.keepsPlanes_logFault hfree.own _ _ _)
  · split
    · exact u.keepsPlanes_squashRec hu _ _ _ _
    · exact .refl hu

/-! ### One bank of a region -/

/-- From `a` to `u` region `r` runs and points as before, bank `b` is as it was, and TALLY_FAULT_LOG keeps a record of its own. -/
structure State.KeepsBank (a u : State) (r b : Nat) : Prop where
  running : u.running r = a.running r
  ptr : u.bankPtr r = a.bankPtr r
  state : u.bstate r b = a.bstate r b
  parked : u.parked r b = a.parked r b
  data : u.bankData r b = a.bankData r b
  own : u.faultLogOwn

theorem State.KeepsBank.refl {a : State} (h : a.faultLogOwn) (r b : Nat) : a.KeepsBank a r b := ⟨rfl, rfl, rfl, rfl, rfl, h⟩

theorem State.KeepsBank.trans {a u v : State} {r b : Nat} (h : a.KeepsBank u r b) (k : u.KeepsBank v r b) : a.KeepsBank v r b :=
  ⟨k.running.trans h.running, k.ptr.trans h.ptr, k.state.trans h.state, k.parked.trans h.parked, k.data.trans h.data, k.own⟩

theorem State.KeepsPlanes.keepsBank {a u : State} (h : a.KeepsPlanes u) {r : Nat} (hr : r < 128) (b : Nat) : a.KeepsBank u r b := by
  have hreg (o : Nat) (ho : o < 0x100000) (f : Field) : u.fld o f = a.fld o f := by rw [State.fld, State.fld, h.reg o ho]
  refine ⟨?_, hreg _ (by unfold Reg.PLANE_PTR; omega) _, hreg _ (by unfold Reg.PLANE_BSTATE; omega) _, ?_, ?_, h.own⟩
  · rw [State.running, State.running, State.rstate, State.rstate, hreg _ (by unfold Reg.PLANE_STATUS; omega)]
  · rw [State.parked, State.parked, h.fab]
  · rw [State.bankData, State.bankData, h.fab]

theorem State.uninitBank_fab_parked (s : State) (r b : Nat) :
    (s.uninitBank r b).fab.parked = tput (fun _ => []) s.fab.parked (bankKey r b) [] := rfl

theorem State.uninitBank_fab_bank (s : State) (r b : Nat) :
    (s.uninitBank r b).fab.bank = tput (fun k => .unknown k) s.fab.bank (bankKey r b) (.unknown (512 + s.fresh)) := rfl

theorem State.uninitBank_regs (s : State) (r b : Nat) : (s.uninitBank r b).regs = (s.setBstate r b bsUninit).regs := rfl

theorem State.uninitBank_logs (s : State) (r b : Nat) : (s.uninitBank r b).logs = s.logs := rfl

theorem State.faultLogOwn_uninitBank (h : s.faultLogOwn) (r b : Nat) : (s.uninitBank r b).faultLogOwn := by
  rwa [State.faultLogOwn, s.uninitBank_logs]

theorem State.uninitBank_fld (s : State) (r b o : Nat) (f : Field) : (s.uninitBank r b).fld o f = (s.setBstate r b bsUninit).fld o f := by
  rw [State.fld, State.fld, State.reg, State.reg, s.uninitBank_regs]

theorem State.keepsBank_uninitBank_of_ne (h : s.faultLogOwn) (r : Nat) {b c : Nat} (hb : b < 4) (hne : b ≠ c) :
    s.KeepsBank (s.uninitBank r c) r b := by
  have hkey : bankKey r b ≠ bankKey r c := by unfold bankKey; omega
  have hreg (o : Nat) (ho : o ≠ Reg.PLANE_BSTATE r) (f : Field) : (s.uninitBank r c).fld o f = s.fld o f :=
    (s.uninitBank_fld r c o f).trans (s.fld_setFld_ne (psField c) f bsUninit ho)
  refine ⟨?_, hreg _ (by unfold Reg.PLANE_PTR Reg.PLANE_BSTATE; omega) _, ?_, ?_, ?_, State.faultLogOwn_uninitBank h r c⟩
  · rw [State.running, State.running, State.rstate, State.rstate, hreg _ (by unfold Reg.PLANE_STATUS Reg.PLANE_BSTATE; omega)]
  · exact (s.uninitBank_fld r c _ _).trans (s.fld_setFld_other (Reg.PLANE_BSTATE r) (psField c) (psField b) bsUninit
      (by simp only [psField, Field.width]; omega) (by simp only [psField, Field.width]; omega))
  · rw [State.parked, s.uninitBank_fab_parked, tget_tput_ne _ _ _ hkey, State.parked]
  · rw [State.bankData, s.uninitBank_fab_bank, tget_tput_ne _ _ _ hkey, State.bankData]

theorem State.uninitBank_bstate (s : State) (r : Nat) {b : Nat} (hb : b < 4) : (s.uninitBank r b).bstate r b = bsUninit :=
  (s.uninitBank_fld r b _ _).trans ((s.fld_setFld_same (Reg.PLANE_BSTATE r) (psField b) bsUninit
    (by simp only [psField, Field.width]; omega)).trans (Nat.zero_mod _))

theorem State.uninitBank_parked (s : State) (r b : Nat) : (s.uninitBank r b).parked r b = [] := by
  rw [State.parked, s.uninitBank_fab_parked, tget_tput_same]

/-! ### A discard, bank by bank (R75) -/

/-- Whether R75 leaves bank `b` alone in a discard of the banks of `mask`. -/
def State.spares (s : State) (r mask b : Nat) : Prop := mask.testBit b = false ∨ (s.running r = true ∧ s.bankPtr r = b) ∨ s.bstate r b = bsXfer

/-- What a discard of the banks of `mask` does to bank `b`. -/
def State.discardBank (s : State) (r mask b : Nat) : State :=
  if !mask.testBit b ∨ (s.running r ∧ s.bankPtr r = b) ∨ s.bstate r b = bsXfer then s else (s.loseBank r b).uninitBank r b

theorem State.discard_eq_foldl (h : s.beamReset = false) (r mask : Nat) :
    s.discard r mask = [0, 1, 2, 3].foldl (fun s b => s.discardBank r mask b) s := by simp [State.discard, State.discardBank, h]

theorem State.discardBank_of_spares {r mask b : Nat} (h : s.spares r mask b) : s.discardBank r mask b = s :=
  if_pos (by simpa [State.spares] using h)

theorem State.discardBank_of_not_spares {r mask b : Nat} (h : ¬ s.spares r mask b) : s.discardBank r mask b = (s.loseBank r b).uninitBank r b :=
  if_neg (by simpa [State.spares] using h)

theorem State.KeepsBank.spares_iff {a u : State} {r b : Nat} (h : a.KeepsBank u r b) (mask : Nat) : u.spares r mask b ↔ a.spares r mask b := by
  rw [State.spares, State.spares, h.running, h.ptr, h.state]

theorem State.keepsBank_discardBank_of_ne (h : s.faultLogOwn) {r : Nat} (hr : r < 128) (mask : Nat) {b c : Nat} (hb : b < 4)
    (hne : b ≠ c) : s.KeepsBank (s.discardBank r mask c) r b := by
  by_cases hs : s.spares r mask c
  · rw [State.discardBank_of_spares hs]
    exact .refl h r b
  · rw [State.discardBank_of_not_spares hs]
    have hlost := (s.keepsPlanes_loseBank h r c).keepsBank hr b
    exact hlost.trans (State.keepsBank_uninitBank_of_ne hlost.own r hb hne)

theorem State.keepsBank_foldl_discardBank {r : Nat} (hr : r < 128) (mask : Nat) {b : Nat} (hb : b < 4) (l : List Nat)
    (hl : b ∉ l) : ∀ {a : State}, a.faultLogOwn → a.KeepsBank (l.foldl (fun s c => s.discardBank r mask c) a) r b := by
  induction l with
  | nil => exact fun h => .refl h r b
  | cons c l ih =>
    intro a h
    obtain ⟨hne, hrest⟩ := not_or.1 (mt List.mem_cons.2 hl)
    have hstep := a.keepsBank_discardBank_of_ne h hr mask hb hne
    exact hstep.trans (ih hrest hstep.own)

/-- A discard reaches bank `b` with the bank as it was, deals with it, and leaves it so. -/
theorem State.discard_at_bank (h : s.faultLogOwn) (hbeam : s.beamReset = false) {r : Nat} (hr : r < 128) (mask : Nat) {b : Nat} (hb : b < 4) :
    ∃ u, s.KeepsBank u r b ∧ ((u.discardBank r mask b).faultLogOwn → (u.discardBank r mask b).KeepsBank (s.discard r mask) r b) := by
  obtain ⟨l, k, hlk⟩ := List.append_of_mem (show b ∈ [0, 1, 2, 3] by simp; omega)
  have hnodup : (l ++ b :: k).Nodup := hlk ▸ by decide
  obtain ⟨-, hbk, hdisj⟩ := List.nodup_append.1 hnodup
  have hl : b ∉ l := fun hm => hdisj b hm b (List.mem_cons_self ..) rfl
  have hk : b ∉ k := (List.nodup_cons.1 hbk).1
  rw [State.discard_eq_foldl hbeam, hlk, List.foldl_append, List.foldl_cons]
  exact ⟨_, State.keepsBank_foldl_discardBank hr mask hb l hl h, State.keepsBank_foldl_discardBank hr mask hb k hk⟩

theorem State.discard_of_spares (h : s.faultLogOwn) (hbeam : s.beamReset = false) {r : Nat} (hr : r < 128) {mask b : Nat} (hb : b < 4)
    (hs : s.spares r mask b) : s.KeepsBank (s.discard r mask) r b := by
  obtain ⟨u, hu, hrest⟩ := s.discard_at_bank h hbeam hr mask hb
  rw [State.discardBank_of_spares ((hu.spares_iff mask).2 hs)] at hrest
  exact hu.trans (hrest hu.own)

theorem State.discard_of_not_spares (h : s.faultLogOwn) (hbeam : s.beamReset = false) {r : Nat} (hr : r < 128) {mask b : Nat} (hb : b < 4)
    (hs : ¬ s.spares r mask b) : (s.discard r mask).bstate r b = bsUninit ∧ (s.discard r mask).parked r b = [] := by
  obtain ⟨u, hu, hrest⟩ := s.discard_at_bank h hbeam hr mask hb
  rw [State.discardBank_of_not_spares (mt (hu.spares_iff mask).1 hs)] at hrest
  have hend := hrest (State.faultLogOwn_uninitBank (u.keepsPlanes_loseBank hu.own r b).own r b)
  exact ⟨hend.state.trans (State.uninitBank_bstate _ r hb), hend.parked.trans (State.uninitBank_parked _ r b)⟩

/-! ### The write at its edge (R75, R543) -/

theorem State.runLater_beamWrites_discard {r x e mask : Nat}
    (hdue : (s.region r).reqs.filter (fun q => decide (q.edge ≤ s.now) && q.act.isConfig) = [⟨x, e, .reg, .discard mask⟩]) :
    ∃ y, s.runLater (.beamWrites r) = (s.setRegion r y).discard r mask := by
  simp only [State.runLater, State.beamWrites, hdue, List.foldl_cons, List.foldl_nil, State.applyConfig]
  exact ⟨_, rfl⟩

/-- The clause on DISCARD that O8 states, for the states whose TALLY_FAULT_LOG keeps a record of its own: a named bank that R75 does not spare ends
UNINIT with nothing parked, and every other bank of the region stands as it did. -/
theorem State.beamWrites_discard_of_faultLogOwn (h : s.faultLogOwn) (hbeam : s.beamReset = false) {r b x e mask : Nat} (hr : r < 128) (hb : b < 4)
    (hdue : (s.region r).reqs.filter (fun q => decide (q.edge ≤ s.now) && q.act.isConfig) = [⟨x, e, .reg, .discard mask⟩]) :
    (¬ s.spares r mask b → (s.runLater (.beamWrites r)).bstate r b = bsUninit ∧ (s.runLater (.beamWrites r)).parked r b = []) ∧
    (s.spares r mask b → s.KeepsBank (s.runLater (.beamWrites r)) r b) := by
  obtain ⟨y, hy⟩ := s.runLater_beamWrites_discard hdue
  rw [hy]
  have htaken : s.KeepsBank (s.setRegion r y) r b := ⟨rfl, rfl, rfl, rfl, rfl, h⟩
  exact ⟨fun hs => State.discard_of_not_spares htaken.own hbeam hr hb (mt (htaken.spares_iff mask).1 hs),
    fun hs => htaken.trans (State.discard_of_spares htaken.own hbeam hr hb ((htaken.spares_iff mask).2 hs))⟩

end Sys2Proof.Machine
end

section
/-!
The (72,64) code is linear (R295): the syndrome of a XOR is the XOR of the syndromes, a clean word has syndrome 0x00, a stamped word 0xFF, and a
single wrong bit has its column. So the class of a damaged word (R296) is read off the columns of its wrong bits.
-/
namespace Sys2Proof.Machine

/-! ### The columns -/

theorem weight3_length : weight3.length = 56 := by decide +kernel

theorem wordCols_getElem?_of_lt_56 {i : Nat} (h : i < 56) : wordCols[i]? = weight3[i]? := by
  have hi : i < weight3.length := weight3_length.symm ▸ h
  rw [wordCols, dataCols, List.append_assoc, List.getElem?_append_left hi]

theorem mem_weight3_iff {v : Nat} : v ∈ weight3 ↔ v < 256 ∧ weight 8 v = 3 := by simp [weight3]

theorem weight3_pairwise_lt : weight3.Pairwise (· < ·) := List.pairwise_lt_range.filter _

theorem wordCols_ascend {i j : Nat} (hij : i < j) (hj : j < 56) :
    ∃ x y, wordCols[i]? = some x ∧ wordCols[j]? = some y ∧ x < y ∧ y < 256 ∧ weight 8 x = 3 ∧ weight 8 y = 3 := by
  have hj' : j < weight3.length := weight3_length.symm ▸ hj
  have hi' : i < weight3.length := Nat.lt_trans hij hj'
  obtain ⟨-, hx⟩ := mem_weight3_iff.1 (List.getElem_mem hi')
  obtain ⟨hy256, hy⟩ := mem_weight3_iff.1 (List.getElem_mem hj')
  exact ⟨weight3[i], weight3[j], by rw [wordCols_getElem?_of_lt_56 (Nat.lt_trans hij hj), List.getElem?_eq_getElem hi'],
    by rw [wordCols_getElem?_of_lt_56 hj, List.getElem?_eq_getElem hj'],
    List.pairwise_iff_getElem.1 weight3_pairwise_lt i j hi' hj' hij, hy256, hx, hy⟩

theorem exists_wordCols_of_weight_three {v : Nat} (hv : v < 256) (hw : weight 8 v = 3) : ∃ i, i < 56 ∧ wordCols[i]? = some v := by
  obtain ⟨i, hi, rfl⟩ := List.getElem_of_mem (mem_weight3_iff.2 ⟨hv, hw⟩)
  have hi56 : i < 56 := weight3_length ▸ hi
  exact ⟨i, hi56, by rw [wordCols_getElem?_of_lt_56 hi56, List.getElem?_eq_getElem hi]⟩

theorem wordCols_complement : ∀ k < 8, ∃ x ∈ wordCols[48 + k]?, wordCols[56 + k]? = some (255 - x) := by decide +kernel

theorem wordCols_check : ∀ j < 8, wordCols[64 + j]? = some (2 ^ j) := by decide +kernel

theorem wordCols_nodup : wordCols.Nodup := by decide +kernel

theorem wordCols_lt_256 : ∀ c ∈ wordCols, c < 256 := by decide +kernel

/-- Every column has an odd weight, 1, 3 or 5: what lets two wrong bits be told from one. -/
theorem wordCols_weight_odd : ∀ c ∈ wordCols, weight 8 c % 2 = 1 := by decide +kernel

/-- The columns whose complement is a column too are those of data bits 48–63. -/
theorem complement_mem_wordCols_iff_of_bit : ∀ i < 72, 0xFF ^^^ wordCols[i]?.getD 0 ∈ wordCols ↔ 48 ≤ i ∧ i < 64 := by decide +kernel

/-! ### XOR, and the weight of one -/

theorem xor_cancel_left (a b : Nat) : a ^^^ (a ^^^ b) = b := by rw [← Nat.xor_assoc, Nat.xor_self, Nat.zero_xor]

theorem xor_swap_right (a b c : Nat) : a ^^^ b ^^^ c = a ^^^ c ^^^ b := by rw [Nat.xor_assoc, Nat.xor_comm b, ← Nat.xor_assoc]

theorem xor_ne_zero {a b : Nat} (h : a ≠ b) : a ^^^ b ≠ 0 := by
  intro h0
  have hb := xor_cancel_left a b
  rw [h0, Nat.xor_zero] at hb
  exact h hb

theorem weight_succ (n v : Nat) : weight (n + 1) v = weight n v + (v.testBit n).toNat := by
  rw [weight, List.range_succ, List.countP_append, List.countP_singleton]
  cases v.testBit n <;> rfl

theorem weight_xor_mod_two (n a b : Nat) : weight n (a ^^^ b) % 2 = (weight n a + weight n b) % 2 := by
  induction n with
  | zero => rfl
  | succ n ih =>
    rw [weight_succ, weight_succ, weight_succ, Nat.testBit_xor]
    have hbit : ((a.testBit n ^^ b.testBit n).toNat) % 2 = ((a.testBit n).toNat + (b.testBit n).toNat) % 2 := by
      cases a.testBit n <;> cases b.testBit n <;> rfl
    omega

/-! ### The check bits -/

/-- One step of the check bits: the column of `p` counts where its data bit is 1. -/
def xorCol (d : Word64) (acc : Nat) (p : Nat × Nat) : Nat := if d.getLsbD p.2 then acc ^^^ p.1 else acc

theorem checkBits_eq_foldl (d : Word64) : checkBits d = dataCols.zipIdx.foldl (xorCol d) 0 := rfl

theorem xorCol_xor (d e : Word64) (a b : Nat) (p : Nat × Nat) : xorCol (d ^^^ e) (a ^^^ b) p = xorCol d a p ^^^ xorCol e b p := by
  simp only [xorCol, BitVec.getLsbD_xor]
  cases d.getLsbD p.2 <;> cases e.getLsbD p.2
  case false.false => rfl
  case false.true => exact Nat.xor_assoc a b p.1
  case true.false => exact xor_swap_right a b p.1
  case true.true =>
    change a ^^^ b = a ^^^ p.1 ^^^ (b ^^^ p.1)
    rw [Nat.xor_assoc, Nat.xor_comm b, xor_cancel_left]

theorem foldl_xorCol_xor (d e : Word64) (l : List (Nat × Nat)) (a b : Nat) :
    l.foldl (xorCol (d ^^^ e)) (a ^^^ b) = l.foldl (xorCol d) a ^^^ l.foldl (xorCol e) b := by
  induction l generalizing a b with
  | nil => rfl
  | cons p l ih => rw [List.foldl_cons, List.foldl_cons, List.foldl_cons, xorCol_xor, ih]

theorem checkBits_xor (d e : Word64) : checkBits (d ^^^ e) = checkBits d ^^^ checkBits e := foldl_xorCol_xor d e _ 0 0

theorem xorCol_testBit (d : Word64) (a : Nat) (p : Nat × Nat) (j : Nat) :
    (xorCol d a p).testBit j = (a.testBit j ^^ (d.getLsbD p.2 && p.1.testBit j)) := by
  unfold xorCol
  cases d.getLsbD p.2 <;> simp

theorem foldl_xorCol_testBit (d : Word64) (j : Nat) (l : List (Nat × Nat)) (a : Nat) :
    (l.foldl (xorCol d) a).testBit j = (a.testBit j ^^ decide (l.countP (fun p => d.getLsbD p.2 && p.1.testBit j) % 2 = 1)) := by
  induction l generalizing a with
  | nil => simp
  | cons p l ih =>
    rw [List.foldl_cons, ih, xorCol_testBit, List.countP_cons, Bool.xor_assoc]
    congr 1
    cases d.getLsbD p.2 && p.1.testBit j
    · simp
    · rw [if_pos rfl, Bool.eq_iff_iff]
      simp
      omega

theorem dataCols_zipIdx : dataCols.zipIdx = (List.range 64).map (fun i => (wordCols[i]?.getD 0, i)) := by decide +kernel

theorem checkBits_testBit (d : Word64) (j : Nat) : (checkBits d).testBit j =
    decide ((List.range 64).countP (fun i => d.getLsbD i && (wordCols[i]?.getD 0).testBit j) % 2 = 1) := by
  rw [checkBits_eq_foldl, foldl_xorCol_testBit, dataCols_zipIdx, List.countP_map, Nat.zero_testBit, Bool.false_xor]
  rfl

theorem wordCols_getD_lt_256 (i : Nat) : wordCols[i]?.getD 0 < 256 := by
  cases h : wordCols[i]? with
  | none => decide
  | some c => exact wordCols_lt_256 c (List.mem_of_getElem? h)

theorem checkBits_lt_256 (d : Word64) : checkBits d < 256 := by
  refine Nat.lt_pow_two_of_testBit (n := 8) _ fun j hj => ?_
  have hcol (i : Nat) : (wordCols[i]?.getD 0).testBit j = false :=
    Nat.testBit_lt_two_pow (Nat.lt_of_lt_of_le (wordCols_getD_lt_256 i) (Nat.pow_le_pow_right (n := 2) (by decide) hj))
  simp [checkBits_testBit, hcol]

/-! ### The data and the check bits of a memory word -/

@[simp] theorem wordData_packWord (c : Nat) (d : Word64) : wordData (packWord c d) = d := BitVec.setWidth_append_eq_right

theorem wordCheck_packWord {c : Nat} (h : c < 256) (d : Word64) : wordCheck (packWord c d) = c := by
  have hd : d.toNat < 2 ^ 64 := d.isLt
  rw [wordCheck, packWord, BitVec.toNat_append, ← Nat.shiftLeft_add_eq_or_of_lt hd, Nat.shiftLeft_eq, BitVec.toNat_ofNat]
  omega

@[simp] theorem wordData_encodeWord (d : Word64) : wordData (encodeWord d) = d := wordData_packWord _ d

@[simp] theorem wordData_stampWord (d : Word64) : wordData (stampWord d) = d := wordData_packWord _ d

@[simp] theorem wordCheck_encodeWord (d : Word64) : wordCheck (encodeWord d) = checkBits d := wordCheck_packWord (checkBits_lt_256 d) d

@[simp] theorem wordCheck_stampWord (d : Word64) : wordCheck (stampWord d) = checkBits d ^^^ 0xFF :=
  wordCheck_packWord (Nat.xor_lt_two_pow (n := 8) (checkBits_lt_256 d) (by decide)) d

theorem wordData_xor (w v : Word72) : wordData (w ^^^ v) = wordData w ^^^ wordData v := BitVec.setWidth_xor

theorem wordCheck_xor (w v : Word72) : wordCheck (w ^^^ v) = wordCheck w ^^^ wordCheck v := by
  rw [wordCheck, BitVec.toNat_xor, Nat.xor_div_two_pow, wordCheck, wordCheck]

theorem wordData_bit : ∀ i < 72, wordData (1#72 <<< i) = if i < 64 then 1#64 <<< i else 0 := by decide +kernel

/-! ### The syndrome -/

/-- The syndrome of R296. -/
def syndrome (w : Word72) : Nat := wordCheck w ^^^ checkBits (wordData w)

theorem syndrome_xor (w v : Word72) : syndrome (w ^^^ v) = syndrome w ^^^ syndrome v := by
  simp only [syndrome, wordCheck_xor, wordData_xor, checkBits_xor]
  ac_rfl

@[simp] theorem syndrome_encodeWord (d : Word64) : syndrome (encodeWord d) = 0 := by simp [syndrome]

@[simp] theorem syndrome_stampWord (d : Word64) : syndrome (stampWord d) = 0xFF := by
  simp only [syndrome, wordCheck_stampWord, wordData_stampWord]
  rw [Nat.xor_comm, xor_cancel_left]

theorem wordCols_getElem?_eq_syndrome_bit : ∀ i < 72, wordCols[i]? = some (syndrome (1#72 <<< i)) := by decide +kernel

theorem syndrome_bit_mem {i : Nat} (h : i < 72) : syndrome (1#72 <<< i) ∈ wordCols :=
  List.mem_of_getElem? (wordCols_getElem?_eq_syndrome_bit i h)

/-! ### The class of a memory word by its syndrome (R296) -/

section
variable {w : Word72}

theorem complement_mem_wordCols_iff {x : Nat} : 0xFF ^^^ x ∈ wordCols ↔ ∃ c ∈ wordCols, x = 0xFF ^^^ c :=
  ⟨fun h => ⟨_, h, (xor_cancel_left 0xFF x).symm⟩, fun ⟨c, hc, hx⟩ => by rwa [hx, xor_cancel_left]⟩

theorem decodeWord_clean (h : syndrome w = 0) : decodeWord w = (.clean, wordData w) := if_pos h

theorem syndrome_ne_zero_of_poisoned {x : Nat} (h : x = 0xFF ∨ 0xFF ^^^ x ∈ wordCols) : x ≠ 0 := by
  rintro rfl
  exact absurd h (by decide +kernel)

theorem decodeWord_poisoned (h : syndrome w = 0xFF ∨ 0xFF ^^^ syndrome w ∈ wordCols) : decodeWord w = (.poisoned, wordData w) := by
  have hne := syndrome_ne_zero_of_poisoned h
  rw [← List.contains_iff_mem] at h
  exact (if_neg hne).trans (if_pos h)

theorem decodeWord_of_not_poisoned (h0 : syndrome w ≠ 0) (h : ¬ (syndrome w = 0xFF ∨ 0xFF ^^^ syndrome w ∈ wordCols)) :
    decodeWord w = match wordCols.idxOf? (syndrome w) with
      | some i => (.corrected, if i < 64 then wordData w ^^^ (1#64 <<< i) else wordData w)
      | none => (.uncorrectable, wordData w) := by
  rw [← List.contains_iff_mem] at h
  exact (if_neg h0).trans (if_neg h)

theorem wordCols_idxOf?_of_getElem? {i x : Nat} (h : wordCols[i]? = some x) : wordCols.idxOf? x = some i := by
  obtain ⟨hi, rfl⟩ := List.getElem?_eq_some_iff.1 h
  exact List.idxOf?_eq_some_iff.2 ⟨hi, rfl, fun j hj he => Nat.ne_of_lt hj ((List.getElem_inj wordCols_nodup).1 he)⟩

theorem decodeWord_corrected {i : Nat} (h0 : syndrome w ≠ 0) (h : ¬ (syndrome w = 0xFF ∨ 0xFF ^^^ syndrome w ∈ wordCols))
    (hi : wordCols[i]? = some (syndrome w)) :
    decodeWord w = (.corrected, if i < 64 then wordData w ^^^ (1#64 <<< i) else wordData w) := by
  rw [decodeWord_of_not_poisoned h0 h, wordCols_idxOf?_of_getElem? hi]

theorem decodeWord_uncorrectable (h0 : syndrome w ≠ 0) (h : ¬ (syndrome w = 0xFF ∨ 0xFF ^^^ syndrome w ∈ wordCols))
    (hcol : syndrome w ∉ wordCols) : decodeWord w = (.uncorrectable, wordData w) := by
  rw [decodeWord_of_not_poisoned h0 h, List.idxOf?_eq_none_iff.2 hcol]

theorem decodeWord_bad (h0 : syndrome w ≠ 0) (hcol : syndrome w ∉ wordCols) : (decodeWord w).1.bad = true := by
  by_cases h : syndrome w = 0xFF ∨ 0xFF ^^^ syndrome w ∈ wordCols
  · rw [decodeWord_poisoned h]
    rfl
  · rw [decodeWord_uncorrectable h0 h hcol]
    rfl

/-- The table of R296, in the terms of the obligation. -/
theorem decodeWord_classes (w : Word72) {x : Nat} (hx : x = syndrome w) :
    (x = 0 → decodeWord w = (.clean, wordData w)) ∧
    ((x = 0xFF ∨ ∃ c ∈ wordCols, x = 0xFF ^^^ c) → decodeWord w = (.poisoned, wordData w)) ∧
    (∀ i, x ≠ 0 → x ≠ 0xFF → (∀ c ∈ wordCols, x ≠ 0xFF ^^^ c) → wordCols[i]? = some x →
      decodeWord w = (.corrected, if i < 64 then wordData w ^^^ (1#64 <<< i) else wordData w)) ∧
    (x ≠ 0 → x ≠ 0xFF → (∀ c ∈ wordCols, x ≠ 0xFF ^^^ c ∧ x ≠ c) → decodeWord w = (.uncorrectable, wordData w)) := by
  subst hx
  have hno (hff : syndrome w ≠ 0xFF) (hc : ∀ c ∈ wordCols, syndrome w ≠ 0xFF ^^^ c) :
      ¬ (syndrome w = 0xFF ∨ 0xFF ^^^ syndrome w ∈ wordCols) := by
    rw [complement_mem_wordCols_iff]
    rintro (h | ⟨c, hm, h⟩)
    · exact hff h
    · exact hc c hm h
  refine ⟨decodeWord_clean, fun h => ?_, fun i h0 hff hc hi => ?_, fun h0 hff hc => ?_⟩
  · exact decodeWord_poisoned (h.imp_right complement_mem_wordCols_iff.2)
  · exact decodeWord_corrected h0 (hno hff hc) hi
  · exact decodeWord_uncorrectable h0 (hno hff fun c hm => (hc c hm).1) fun hm => (hc _ hm).2 rfl

end

/-! ### Clean and stamped words with wrong bits -/

theorem decodeWord_encodeWord (d : Word64) : decodeWord (encodeWord d) = (.clean, d) := by
  rw [decodeWord_clean (syndrome_encodeWord d), wordData_encodeWord]

theorem decodeWord_stampWord (d : Word64) : decodeWord (stampWord d) = (.poisoned, d) := by
  rw [decodeWord_poisoned (.inl (syndrome_stampWord d)), wordData_stampWord]

/-- A word one bit from a clean word has that bit's column as its syndrome. -/
theorem syndrome_encodeWord_flip (d : Word64) (i : Nat) : syndrome (encodeWord d ^^^ (1#72 <<< i)) = syndrome (1#72 <<< i) := by
  rw [syndrome_xor, syndrome_encodeWord, Nat.zero_xor]

theorem complement_syndrome_bit_mem_iff {i : Nat} (h : i < 72) : 0xFF ^^^ syndrome (1#72 <<< i) ∈ wordCols ↔ 48 ≤ i ∧ i < 64 := by
  have hiff := complement_mem_wordCols_iff_of_bit i h
  rwa [wordCols_getElem?_eq_syndrome_bit i h] at hiff

theorem mem_wordCols_ne_of_weight_even {c x : Nat} (hc : c ∈ wordCols) (hx : weight 8 x % 2 = 0) : c ≠ x := by
  rintro rfl
  have hodd := wordCols_weight_odd c hc
  omega

theorem decodeWord_encodeWord_flip_poisoned (d : Word64) {i : Nat} (h48 : 48 ≤ i) (h64 : i < 64) :
    (decodeWord (encodeWord d ^^^ (1#72 <<< i))).1 = .poisoned := by
  have hmem := (complement_syndrome_bit_mem_iff (by omega)).2 ⟨h48, h64⟩
  rw [← syndrome_encodeWord_flip d] at hmem
  rw [decodeWord_poisoned (.inr hmem)]

/-- The data of a clean word with bit `i` wrong, with the bit put right. -/
theorem wordData_encodeWord_flip_back (d : Word64) {i : Nat} (h : i < 72) :
    (if i < 64 then wordData (encodeWord d ^^^ (1#72 <<< i)) ^^^ (1#64 <<< i) else wordData (encodeWord d ^^^ (1#72 <<< i))) = d := by
  rw [wordData_xor, wordData_encodeWord, wordData_bit i h]
  split
  · rw [BitVec.xor_assoc, BitVec.xor_self, BitVec.xor_zero]
  · exact BitVec.xor_zero

theorem decodeWord_encodeWord_flip_corrected (d : Word64) {i : Nat} (h : i < 72) (hi : i < 48 ∨ 64 ≤ i) :
    decodeWord (encodeWord d ^^^ (1#72 <<< i)) = (.corrected, d) := by
  have hcol := syndrome_bit_mem h
  have hcompl : ¬ 0xFF ^^^ syndrome (1#72 <<< i) ∈ wordCols := by
    rw [complement_syndrome_bit_mem_iff h]
    omega
  have hget := wordCols_getElem?_eq_syndrome_bit i h
  rw [← syndrome_encodeWord_flip d] at hcol hcompl hget
  have h0 := mem_wordCols_ne_of_weight_even hcol (x := 0) rfl
  have hff := mem_wordCols_ne_of_weight_even hcol (x := 0xFF) rfl
  rw [decodeWord_corrected h0 (not_or.2 ⟨hff, hcompl⟩) hget, wordData_encodeWord_flip_back d h]

theorem decodeWord_stampWord_flip (d : Word64) {i : Nat} (h : i < 72) : (decodeWord (stampWord d ^^^ (1#72 <<< i))).1 = .poisoned := by
  have hmem : 0xFF ^^^ syndrome (stampWord d ^^^ (1#72 <<< i)) ∈ wordCols := by
    rw [syndrome_xor, syndrome_stampWord, xor_cancel_left]
    exact syndrome_bit_mem h
  rw [decodeWord_poisoned (.inr hmem)]

theorem syndrome_bit_ne {i j : Nat} (hi : i < 72) (hj : j < 72) (hij : i ≠ j) : syndrome (1#72 <<< i) ≠ syndrome (1#72 <<< j) := by
  intro he
  have hidx := wordCols_idxOf?_of_getElem? (wordCols_getElem?_eq_syndrome_bit i hi)
  rw [he, wordCols_idxOf?_of_getElem? (wordCols_getElem?_eq_syndrome_bit j hj)] at hidx
  exact hij (Option.some.inj hidx).symm

/-- The syndrome of two wrong bits is not zero, as the columns differ, and no column, as its weight is even. -/
theorem decodeWord_encodeWord_two_flips_bad (d : Word64) {i j : Nat} (hi : i < 72) (hj : j < 72) (hij : i ≠ j) :
    (decodeWord (encodeWord d ^^^ (1#72 <<< i) ^^^ (1#72 <<< j))).1.bad = true := by
  have hsyn : syndrome (encodeWord d ^^^ (1#72 <<< i) ^^^ (1#72 <<< j)) = syndrome (1#72 <<< i) ^^^ syndrome (1#72 <<< j) := by
    rw [syndrome_xor, syndrome_encodeWord_flip]
  have heven : weight 8 (syndrome (1#72 <<< i) ^^^ syndrome (1#72 <<< j)) % 2 = 0 := by
    have hwi := wordCols_weight_odd _ (syndrome_bit_mem hi)
    have hwj := wordCols_weight_odd _ (syndrome_bit_mem hj)
    rw [weight_xor_mod_two]
    omega
  refine decodeWord_bad ?_ ?_
  · rw [hsyn]
    exact xor_ne_zero (syndrome_bit_ne hi hj hij)
  · rw [hsyn]
    exact fun hm => mem_wordCols_ne_of_weight_even hm heven rfl

/-- Settles O58: the columns by their definition, the check bits by the parity of the columns that count, and the classes by the syndrome. -/
theorem memoryWordsCorrectOneBit : Obligations.MemoryWordsCorrectOneBit := by
  unfold Obligations.MemoryWordsCorrectOneBit
  refine ⟨wordCols_check, fun i j => wordCols_ascend, fun v => exists_wordCols_of_weight_three, fun i h56 h64 => ?_, fun d => ?_,
    fun w d x hd hx => ?_, ⟨rfl, rfl, rfl, rfl⟩, fun d => ?_⟩
  case refine_1 =>
    obtain ⟨k, rfl⟩ := Nat.exists_eq_add_of_le h56
    obtain ⟨x, hx, hcompl⟩ := wordCols_complement k (by omega)
    exact ⟨x, by rwa [show 56 + k - 8 = 48 + k by omega], hcompl⟩
  case refine_2 =>
    refine ⟨wordData_encodeWord d, wordData_stampWord d, by rw [wordCheck_stampWord, wordCheck_encodeWord], fun j _ => ?_⟩
    rw [wordCheck_encodeWord]
    exact checkBits_testBit d j
  case refine_3 =>
    rw [wordCheck_encodeWord] at hx
    subst hd
    exact decodeWord_classes w hx
  case refine_4 =>
    exact ⟨decodeWord_encodeWord d, decodeWord_stampWord d,
      fun i hi => ⟨decodeWord_encodeWord_flip_corrected d hi, decodeWord_encodeWord_flip_poisoned d, decodeWord_stampWord_flip d hi⟩,
      fun i j => decodeWord_encodeWord_two_flips_bad d⟩

end Sys2Proof.Machine
end

section
/-!
The refutation of O42. Its clause on a switch that FAILED speaks of every state of the model, and so of one in which the log of clock trips keeps a
record that no rule puts there.
-/
namespace Sys2Proof.Machine

/-- A record of the present edge in CLK_TRIP_LOG whose companion register is CLK_SRC_RESULT; the model itself gives this log no companion (R448). -/
def forgedTrip : LogPend := ⟨0, 0, 0, [(Reg.CLK_SRC_RESULT, 0)], none, false, 0, false, false⟩

/-- The reset state with this record, and a switch to the chassis reference in progress. -/
def forgedSwitch : State :=
  { State.reset with
    logs := [(Reg.CLK_TRIP_LOG, forgedTrip)]
    clk := { State.reset.clk with switch := some ⟨0, 0, 0⟩ } }

/-- Refutes O42: the trip of the target ends the switch as FAILED (R442), and its log record joins the forged one of the same edge (R544), which
writes CLK_SRC_RESULT as its companion: OUTCOME reads APPLIED. -/
theorem not_clocksTripFallBackAndSwitch : ¬ Obligations.ClocksTripFallBackAndSwitch := by
  unfold Obligations.ClocksTripFallBackAndSwitch
  rintro ⟨-, -, -, -, hend, -⟩
  have hfailed := (hend forgedSwitch (forgedSwitch.advance 0) 0 0 ⟨0, 0, 0⟩ rfl (by decide +kernel) (by decide)).2
  obtain ⟨u, hnext, -, -, -, houtcome, -⟩ := hfailed
  have hu : (forgedSwitch.advance 0).switchEnd false 0 = u := Host.Outcome.next.inj hnext
  have hafter : ((forgedSwitch.advance 0).switchEnd false 0).fld Reg.CLK_SRC_RESULT Fld.CLK_SRC_RESULT_OUTCOME = 0 := by decide +kernel
  rw [hu] at hafter
  omega

end Sys2Proof.Machine
end

section
/-!
What O42 claims of the sources and of the start of a switch (R433, R439–R441), clause by clause: it holds in every state.
-/
namespace Sys2Proof.Machine

variable {s a u v : State}

/-! ### Bits of a register that is written -/

theorem State.bit_setFld_ne (s : State) {o p : Nat} (f g : Field) (n : Nat) (h : p ≠ o) : (s.setFld o f n).bit p g = s.bit p g := by
  rw [State.bit, State.bit, s.fld_setFld_ne f g n h]

theorem State.bit_setFld_other (s : State) (o : Nat) (f g : Field) (n : Nat) (hg : g.lo + g.width ≤ 32)
    (h : g.lo + g.width ≤ f.lo ∨ f.lo + f.width ≤ g.lo) : (s.setFld o f n).bit o g = s.bit o g := by
  rw [State.bit, State.bit, s.fld_setFld_other o f g n hg h]

theorem State.bit_setFld_same (s : State) (o : Nat) (f : Field) (n : Nat) (h : f.lo + f.width ≤ 32) (hf : f.width = 1) :
    (s.setFld o f n).bit o f = n.testBit 0 := by
  rw [State.bit, s.fld_setFld_same o f n h, hf, Nat.testBit_zero]
  rcases Nat.mod_two_eq_zero_or_one n with hn | hn <;> simp [hn]

/-! ### What clock generation keeps beside its registers -/

def State.setClk (s : State) (x : Clk) : State := { s with clk := x }

@[simp] theorem State.setClk_clk (s : State) (x : Clk) : (s.setClk x).clk = x := rfl
@[simp] theorem State.setClk_bit (s : State) (x : Clk) (o : Nat) (f : Field) : (s.setClk x).bit o f = s.bit o f := rfl
@[simp] theorem State.setClk_fld (s : State) (x : Clk) (o : Nat) (f : Field) : (s.setClk x).fld o f = s.fld o f := rfl

/-! ### The frame of the commands of the clocks -/

/-- From `a` to `u` no memory changes, and no control register but those at the offsets in `l`. -/
structure State.KeepsBut (a u : State) (l : List Nat) : Prop where
  regs : a.keepsRegs u l
  mem : a.keepsMem u

namespace State.KeepsBut

variable {l : List Nat}

theorem refl : a.KeepsBut a l := ⟨a.keepsRegs_refl l, a.keepsMem_refl⟩

theorem trans (h : a.KeepsBut u l) (k : u.KeepsBut v l) : a.KeepsBut v l :=
  ⟨State.keepsRegs_trans h.regs k.regs, State.keepsMem_trans h.mem k.mem⟩

theorem mono {k : List Nat} (h : a.KeepsBut u k) (hl : k ⊆ l) : a.KeepsBut u l := ⟨fun o ho => h.regs o (mt (@hl o) ho), h.mem⟩

theorem setReg (h : a.KeepsBut u l) {o : Nat} (w : Word32) (ho : o ∈ l := by simp) : a.KeepsBut (u.setReg o w) l :=
  h.trans ⟨u.keepsRegs_setReg w ho, u.keepsMem_setReg o w⟩

theorem setFld (h : a.KeepsBut u l) {o : Nat} {f : Field} {n : Nat} (ho : o ∈ l := by simp) : a.KeepsBut (u.setFld o f n) l :=
  h.setReg _ ho

theorem setClk (h : a.KeepsBut u l) {x : Clk} : a.KeepsBut (u.setClk x) l :=
  h.trans ⟨fun _ _ => rfl, rfl, rfl, rfl, rfl, rfl, rfl, fun _ => rfl⟩

theorem fld (h : a.KeepsBut u l) {o : Nat} (f : Field) (ho : o ∉ l) : u.fld o f = a.fld o f := by
  rw [State.fld, State.fld, h.regs o ho]

theorem bit (h : a.KeepsBut u l) {o : Nat} (f : Field) (ho : o ∉ l) : u.bit o f = a.bit o f := by
  rw [State.bit, State.bit, h.fld f ho]

end State.KeepsBut

/-! ### FB_WAIT (R439) -/

theorem State.showWait_clk (s : State) : s.showWait.clk = s.clk := rfl

theorem State.keepsBut_showWait (h : a.KeepsBut s [Reg.CLK_STATUS]) : a.KeepsBut s.showWait [Reg.CLK_STATUS] := h.setFld

theorem State.showWait_fld (s : State) {f : Field} (hf : f.hi < 27) (hlo : f.lo ≤ f.hi) :
    s.showWait.fld Reg.CLK_STATUS f = s.fld Reg.CLK_STATUS f :=
  s.fld_setFld_other _ _ f _ (by simp only [Field.width]; omega)
    (.inl (by simp only [Field.width, Fld.CLK_STATUS_FB_WAIT]; omega))

/-! ### Sources (R433) -/

/-- The ready flag of a source, set to a bit. -/
theorem State.srcReady_setFld {k : Nat} (hk : k < 3) (n : Nat) : (s.setFld Reg.CLK_STATUS (readyField k) n).srcReady k = n.testBit 0 :=
  s.bit_setFld_same _ (readyField k) n (by simp only [Field.width, readyField]; omega) (by simp [Field.width, readyField])

theorem State.sourceReady_eq {k : Nat} (hk : k < 3) (hready : s.srcReady k = false)
    (hint : k ≠ 2 ∨ s.bit Reg.CLK_CTL Fld.CLK_CTL_INT_EN = true) :
    s.sourceReady k = (s.setFld Reg.CLK_STATUS (readyField k) 1).setClk { s.clk with since := tins s.clk.since k s.now } :=
  if_neg (by rcases hint with h | h <;> simp [hready, h, srcInternal] <;> omega)

theorem State.sourceLost_eq {k : Nat} (hk : k < 3) : s.sourceLost k =
    ((s.setFld Reg.CLK_STATUS (readyField k) 0).setClk { s.clk with since := tdel s.clk.since k }).showWait := if_neg (by omega)

theorem State.keepsBut_sourceLost {k : Nat} (hk : k < 3) : s.KeepsBut (s.sourceLost k) [Reg.CLK_STATUS] := by
  rw [State.sourceLost_eq hk]
  exact State.keepsBut_showWait (State.KeepsBut.refl.setFld.setClk)

theorem State.sourceLost_srcReady {k : Nat} (hk : k < 3) : (s.sourceLost k).srcReady k = false := by
  rw [State.sourceLost_eq hk, State.srcReady, State.bit, State.showWait_fld _ (by simp only [readyField]; omega) (by simp [readyField])]
  exact State.srcReady_setFld hk 0

theorem State.sourceLost_since {k : Nat} (hk : k < 3) : tfind (s.sourceLost k).clk.since k = none := by
  rw [State.sourceLost_eq hk, State.showWait_clk]
  exact tfind_tdel_same _ _

/-- R433: a source whose conditions hold becomes ready, and from then on is ready without a break. -/
theorem exec_referenceReady {t k : Nat} (h : a = s.advance t) (hk : k < 3) (hready : a.srcReady k = false)
    (hint : k ≠ 2 ∨ a.bit Reg.CLK_CTL Fld.CLK_CTL_INT_EN = true) :
    ∃ u, exec (.referenceReady t k) s = .next u ∧ u.srcReady k = true ∧ tfind u.clk.since k = some a.now ∧
      a.keepsRegs u [Reg.CLK_STATUS] ∧ a.keepsMem u := by
  subst h
  have hkeeps : (s.advance t).KeepsBut ((s.advance t).sourceReady k) [Reg.CLK_STATUS] := by
    rw [State.sourceReady_eq hk hready hint]
    exact State.KeepsBut.refl.setFld.setClk
  refine ⟨_, rfl, ?_, ?_, hkeeps.regs, hkeeps.mem⟩
  · rw [State.sourceReady_eq hk hready hint]
    exact State.srcReady_setFld hk 1
  · rw [State.sourceReady_eq hk hready hint]
    exact tfind_tins_same _ _ _

/-- R433: a source that is lost is not ready. -/
theorem exec_referenceReadyLoss {t k : Nat} (h : a = s.advance t) (hk : k < 3) :
    ∃ u, exec (.referenceReadyLoss t k) s = .next u ∧ u.srcReady k = false ∧ tfind u.clk.since k = none ∧
      a.keepsRegs u [Reg.CLK_STATUS] ∧ a.keepsMem u := by
  subst h
  have hkeeps := (s.advance t).keepsBut_sourceLost hk
  exact ⟨_, rfl, State.sourceLost_srcReady hk, State.sourceLost_since hk, hkeeps.regs, hkeeps.mem⟩

/-! ### A switch starts (R439–R442) -/

theorem State.startSwitch_eq (s : State) (k b : Nat) : s.startSwitch k b =
    ((((((s.setFld Reg.CLK_STATUS Fld.CLK_STATUS_SWITCHING 1).setFld Reg.CLK_STATUS Fld.CLK_STATUS_LANE_HOLD 1).setFld
      Reg.CLK_STATUS Fld.CLK_STATUS_FB_WAIT 0).setFld Reg.CLK_SRC_RESULT Fld.CLK_SRC_RESULT_OUTCOME 0).setFld
      Reg.CLK_SRC_RESULT Fld.CLK_SRC_RESULT_BY b).setFld Reg.CLK_SRC_RESULT Fld.CLK_SRC_RESULT_TARGET k).setClk
      { s.clk with switch := some ⟨k, b, s.scNow⟩, fb := false, holdEnd := none } := rfl

theorem State.startSwitch_clk (s : State) (k b : Nat) :
    (s.startSwitch k b).clk = { s.clk with switch := some ⟨k, b, s.scNow⟩, fb := false, holdEnd := none } := rfl

theorem State.startSwitch_switching (s : State) (k b : Nat) : (s.startSwitch k b).bit Reg.CLK_STATUS Fld.CLK_STATUS_SWITCHING = true := by
  simp (disch := decide) [State.startSwitch_eq, State.bit_setFld_ne, State.bit_setFld_other, State.bit_setFld_same]

theorem State.startSwitch_target (s : State) {k : Nat} (b : Nat) (hk : k < 3) :
    (s.startSwitch k b).fld Reg.CLK_SRC_RESULT Fld.CLK_SRC_RESULT_TARGET = k := by
  rw [State.startSwitch_eq, State.setClk_fld, State.fld_setFld_same _ _ _ _ (by decide)]
  exact Nat.mod_eq_of_lt (show k < 4 by omega)

theorem State.keepsBut_startSwitch (s : State) (k b : Nat) : s.KeepsBut (s.startSwitch k b) [Reg.CLK_STATUS, Reg.CLK_SRC_RESULT] :=
  State.KeepsBut.refl.setFld.setFld.setFld.setFld.setFld.setFld.setClk

theorem State.fallbackStart_eq {k : Nat} (hauto : s.autoSwitch = true) (hfb : s.clk.fb = true) (hk : s.fallbackSource = some k) :
    s.fallbackStart = s.startSwitch k 1 := by simp [State.fallbackStart, hauto, hfb, hk]

theorem State.autoReturn_eq {e : Nat} (hauto : s.autoSwitch = true) (hreturn : s.bit Reg.CLK_CTL Fld.CLK_CTL_AUTO_RETURN = true)
    (hforce : s.clkInForce ≠ s.clkPref) (hlock : s.rootLocked = true) (he : tfind s.clk.since s.clkPref = some e)
    (hlong : e + returnTime ≤ s.now) : s.autoReturn = s.startSwitch s.clkPref 2 := by
  have hready : (tfind s.clk.since s.clkPref).any (fun e => decide (e + returnTime ≤ s.now)) = true := by
    rw [he, Option.any_some, decide_eq_true hlong]
  rw [State.autoReturn, hreturn, hauto, bne_iff_ne.2 hforce, hlock, hready]
  exact if_pos rfl

/-- R439: a fallback that is owed switches to the source that it finds. -/
theorem exec_fallbackStart {t k : Nat} (h : a = s.advance t) (hauto : a.autoSwitch = true) (hfb : a.clk.fb = true)
    (hk : a.fallbackSource = some k) (hk3 : k < 3) :
    ∃ u, exec (.fallbackStart t) s = .next u ∧ u.clk.switch = some ⟨k, 1, a.scNow⟩ ∧ u.clk.fb = false ∧
      u.bit Reg.CLK_STATUS Fld.CLK_STATUS_SWITCHING = true ∧ u.fld Reg.CLK_SRC_RESULT Fld.CLK_SRC_RESULT_TARGET = k ∧
      a.keepsRegs u [Reg.CLK_STATUS, Reg.CLK_SRC_RESULT] ∧ a.keepsMem u := by
  have hnext : exec (.fallbackStart t) s = .next (a.startSwitch k 1) := by rw [← State.fallbackStart_eq hauto hfb hk, h]; rfl
  have hkeeps := a.keepsBut_startSwitch k 1
  exact ⟨_, hnext, rfl, rfl, a.startSwitch_switching k 1, a.startSwitch_target 1 hk3, hkeeps.regs, hkeeps.mem⟩

/-- R440: the preferred source that has been ready for 10 ms is returned to. -/
theorem exec_autoReturn {t e : Nat} (h : a = s.advance t) (hauto : a.autoSwitch = true)
    (hreturn : a.bit Reg.CLK_CTL Fld.CLK_CTL_AUTO_RETURN = true) (hforce : a.clkInForce ≠ a.clkPref) (hlock : a.rootLocked = true)
    (he : tfind a.clk.since a.clkPref = some e) (hlong : e + returnTime ≤ a.now) :
    ∃ u, exec (.autoReturn t) s = .next u ∧ u.clk.switch = some ⟨a.clkPref, 2, a.scNow⟩ ∧
      u.bit Reg.CLK_STATUS Fld.CLK_STATUS_SWITCHING = true ∧ a.keepsRegs u [Reg.CLK_STATUS, Reg.CLK_SRC_RESULT] ∧ a.keepsMem u := by
  have hnext : exec (.autoReturn t) s = .next (a.startSwitch a.clkPref 2) := by
    rw [← State.autoReturn_eq hauto hreturn hforce hlock he hlong, h]; rfl
  have hkeeps := a.keepsBut_startSwitch a.clkPref 2
  exact ⟨_, hnext, rfl, a.startSwitch_switching _ 2, hkeeps.regs, hkeeps.mem⟩

/-! ### A software request (R441) -/

/-- The request is refused with the code `o`. -/
def State.refuseSwitch (s : State) (o : Nat) : State :=
  (((s.setClk { s.clk with reqAt := some s.scNow }).setFld Reg.CLK_SRC_RESULT Fld.CLK_SRC_RESULT_DONE 1).setFld
    Reg.CLK_SRC_RESULT Fld.CLK_SRC_RESULT_OUTCOME o).setFld Reg.CLK_SRC_RESULT Fld.CLK_SRC_RESULT_BY 0

/-- The request of source `k` is taken. -/
def State.takeSel (s : State) (k : Nat) : State :=
  (s.setClk { s.clk with reqAt := some s.scNow }).setFld Reg.CLK_SRC_CTL Fld.CLK_SRC_CTL_SEL k

theorem State.takeSel_scNow (s : State) (k : Nat) : (s.takeSel k).scNow = s.scNow := rfl

/-- `o` is the code of the first cause of R441 that refuses a request of source `k`. -/
def State.refusesSwitch (s : State) (k o : Nat) : Prop :=
  (k = 3 ∧ o = 5) ∨ (k ≠ 3 ∧ s.clk.switch.isSome = true ∧ o = 2) ∨
  (k ≠ 3 ∧ s.clk.switch = none ∧ s.clkInForce = k ∧ s.rootLocked = true ∧ o = 3) ∨
  (k ≠ 3 ∧ s.clk.switch = none ∧ (s.clkInForce ≠ k ∨ s.rootLocked = false) ∧ s.srcReady k = false ∧ o = 1)

theorem State.switchRequest_eq_ite (s : State) (sel : Nat) : s.switchRequest sel =
    if sel % 4 = 3 then s.refuseSwitch 5
    else if s.clk.switch.isSome then s.refuseSwitch 2
    else if s.clkInForce = sel % 4 ∧ s.rootLocked then s.refuseSwitch 3
    else if !s.srcReady (sel % 4) then s.refuseSwitch 1
    else (s.takeSel (sel % 4)).startSwitch (sel % 4) 0 := rfl

theorem State.switchRequest_of_refuses {sel o : Nat} (h : s.refusesSwitch (sel % 4) o) : s.switchRequest sel = s.refuseSwitch o := by
  rw [State.switchRequest_eq_ite]
  rcases h with ⟨hsel, rfl⟩ | ⟨hsel, hbusy, rfl⟩ | ⟨hsel, hfree, hforce, hlock, rfl⟩ | ⟨hsel, hfree, hother, hready, rfl⟩
  · rw [if_pos hsel]
  · rw [if_neg hsel, if_pos hbusy]
  · rw [if_neg hsel, if_neg (by simp [hfree]), if_pos ⟨hforce, hlock⟩]
  · rw [if_neg hsel, if_neg (by simp [hfree]), if_neg (by rcases hother with h | h <;> simp [h]), if_pos (by simp [hready])]

theorem State.switchRequest_of_ready {sel : Nat} (hsel : sel % 4 ≠ 3) (hfree : s.clk.switch = none)
    (hother : s.clkInForce ≠ sel % 4 ∨ s.rootLocked = false) (hready : s.srcReady (sel % 4) = true) : s.switchRequest sel =
    (s.takeSel (sel % 4)).startSwitch (sel % 4) 0 := by
  rw [State.switchRequest_eq_ite, if_neg hsel, if_neg (by simp [hfree]), if_neg (by rcases hother with h | h <;> simp [h]),
    if_neg (by simp [hready])]

theorem exec_clkSrcGo {t src : Nat} (h : Acts s t src Reg.CLK_SRC_CTL a) (sel : Nat) :
    exec (.clkSrcGo t src sel) s = .next (a.switchRequest sel) := congrArg _ (h.ctlWrite _)

/-- R441: a request that may not start a switch is refused by its code, and changes nothing else. -/
theorem exec_clkSrcGo_refused {t src sel o : Nat} (h : Acts s t src Reg.CLK_SRC_CTL a) (ho : a.refusesSwitch (sel % 4) o) :
    ∃ u, exec (.clkSrcGo t src sel) s = .next u ∧ u.fld Reg.CLK_SRC_RESULT Fld.CLK_SRC_RESULT_OUTCOME = o ∧
      u.bit Reg.CLK_SRC_RESULT Fld.CLK_SRC_RESULT_DONE = true ∧ u.clk.switch = a.clk.switch ∧
      a.keepsRegs u [Reg.CLK_SRC_RESULT] ∧ a.keepsMem u := by
  have hcode : o < 16 := by rcases ho with h | h | h | h <;> omega
  have hkeeps : a.KeepsBut (a.refuseSwitch o) [Reg.CLK_SRC_RESULT] := State.KeepsBut.refl.setClk.setFld.setFld.setFld
  refine ⟨a.refuseSwitch o, (exec_clkSrcGo h sel).trans (by rw [State.switchRequest_of_refuses ho]), ?_, ?_, rfl, hkeeps.regs, hkeeps.mem⟩
  · rw [State.refuseSwitch, State.fld_setFld_other _ _ _ _ _ (by decide) (by decide), State.fld_setFld_same _ _ _ _ (by decide)]
    exact Nat.mod_eq_of_lt hcode
  · simp (disch := decide) [State.refuseSwitch, State.bit_setFld_other, State.bit_setFld_same]

/-- R441: any other request starts a switch. -/
theorem exec_clkSrcGo_starts {t src sel : Nat} (h : Acts s t src Reg.CLK_SRC_CTL a) (hsel : sel % 4 ≠ 3) (hfree : a.clk.switch = none)
    (hother : a.clkInForce ≠ sel % 4 ∨ a.rootLocked = false) (hready : a.srcReady (sel % 4) = true) :
    ∃ u, exec (.clkSrcGo t src sel) s = .next u ∧ u.clk.switch = some ⟨sel % 4, 0, a.scNow⟩ ∧
      u.bit Reg.CLK_STATUS Fld.CLK_STATUS_SWITCHING = true ∧
      a.keepsRegs u [Reg.CLK_SRC_CTL, Reg.CLK_SRC_RESULT, Reg.CLK_STATUS] ∧ a.keepsMem u := by
  have htake : a.KeepsBut (a.takeSel (sel % 4)) [Reg.CLK_SRC_CTL, Reg.CLK_SRC_RESULT, Reg.CLK_STATUS] := State.KeepsBut.refl.setClk.setFld
  have hkeeps := htake.trans (((a.takeSel (sel % 4)).keepsBut_startSwitch (sel % 4) 0).mono (by simp))
  exact ⟨_, (exec_clkSrcGo h sel).trans (congrArg Host.Outcome.next (State.switchRequest_of_ready hsel hfree hother hready)),
    by rw [State.startSwitch_clk, State.takeSel_scNow], State.startSwitch_switching _ _ _, hkeeps.regs, hkeeps.mem⟩

end Sys2Proof.Machine
end

section
/-!
What O42 claims of a trip, of the end of a switch and of INT_EN (R436–R438, R442, R443), clause by clause: it holds in every state, but for a switch
that FAILED, where it holds in every state in which no record of the present edge in CLK_TRIP_LOG writes beside the log. The refutation of O42 rests
on the forged record alone.
-/
namespace Sys2Proof.Machine

variable {s a : State}

/-! ### The log of trips (R437, R544) -/

/-- A record of the present edge in CLK_TRIP_LOG writes nothing beside the log (R448). -/
def State.tripLogOwn (s : State) : Prop := ∀ p ∈ tfind s.logs Reg.CLK_TRIP_LOG, p.cyc = s.now → p.comp = [] ∧ p.int = none

theorem reset_tripLogOwn : State.reset.tripLogOwn := fun _ hp => nomatch hp

/-- The state that refutes O42 is none of these. -/
theorem not_forgedSwitch_tripLogOwn : ¬ forgedSwitch.tripLogOwn := fun h => absurd (h forgedTrip rfl rfl).1 (by decide)

theorem State.tripLogOwn_of_logQuiet (h : s.logQuiet Reg.CLK_TRIP_LOG = true) : s.tripLogOwn := by
  intro p hp hcyc
  rw [State.logQuiet, Option.mem_def.1 hp] at h
  simp [hcyc] at h

/-- From `a` to `u` nothing changes but CLK_TRIP_LOG and the records that the logs keep. -/
structure State.TripLogged (a u : State) : Prop where
  keeps : a.KeepsBut u [Reg.CLK_TRIP_LOG]
  clk : u.clk = a.clk

theorem State.tripLogged_takeLog (h : a.TripLogged s) {p : LogPend} (hcomp : p.comp = []) (hint : p.int = none) :
    a.TripLogged (s.takeLog Reg.CLK_TRIP_LOG p) := by
  have hnote {u : State} (hu : a.TripLogged u) (l : Table LogPend) : a.TripLogged { u with logs := l } :=
    ⟨hu.keeps.trans ⟨fun _ _ => rfl, rfl, rfl, rfl, rfl, rfl, rfl, fun _ => rfl⟩, hu.clk⟩
  unfold State.takeLog
  rw [hcomp, hint]
  dsimp only [List.foldl_nil]
  split
  · exact hnote ⟨h.keeps.setReg _, h.clk⟩ _
  · exact hnote ⟨h.keeps.setFld, h.clk⟩ _

/-- The record of a trip on source `k`. -/
def State.logTrip (s : State) (k cause : Nat) : State :=
  s.logEvent Reg.CLK_TRIP_LOG s.now 0 (BitVec.ofNat 32 (k * 2 ^ 8 + cause % 2)) [] none

theorem State.tripLogged_logTrip (h : s.tripLogOwn) (k cause : Nat) : s.TripLogged (s.logTrip k cause) := by
  have hrefl : s.TripLogged s := ⟨.refl, rfl⟩
  have hnew {q : LogPend} (hq : q.comp = [] ∧ q.int = none) {u : State} (hu : s.TripLogged u) : s.TripLogged (u.takeLog Reg.CLK_TRIP_LOG q) :=
    State.tripLogged_takeLog hu hq.1 hq.2
  unfold State.logTrip State.logEvent
  dsimp only
  split
  · rename_i p hp
    split
    · exact hnew ⟨rfl, rfl⟩ hrefl
    · rename_i hcyc
      have hown := h p hp (Decidable.not_not.1 hcyc)
      have hjoin (q : LogPend) (hq : q.comp = [] ∧ q.int = none) : (p.join q).comp = [] ∧ (p.join q).int = none := by
        unfold LogPend.join
        split
        · exact hq
        · exact hown
      split
      · exact hnew (hjoin _ ⟨rfl, rfl⟩) ⟨hrefl.keeps.setFld.setFld, rfl⟩
      · split
        · exact hnew (hjoin _ ⟨rfl, rfl⟩) hrefl
        · exact ⟨hrefl.keeps.setFld.trans ⟨fun _ _ => rfl, rfl, rfl, rfl, rfl, rfl, rfl, fun _ => rfl⟩, rfl⟩
  · exact hnew ⟨rfl, rfl⟩ hrefl

theorem more_getLsbD_low : ∀ i < 30, (0x40000000 : Word32).getLsbD i = false := by decide
theorem valid_getLsbD_low : ∀ i < 30, (0x80000000 : Word32).getLsbD i = false := by decide

/-- A field below VALID and MORE, where CLK_TRIP_LOG was empty, is the field of the record that it takes (R544). -/
theorem State.takeLog_fld (h : s.fld Reg.CLK_TRIP_LOG logValid = 0) {p : LogPend} (hcomp : p.comp = []) (hint : p.int = none)
    (hmore : p.more = false) {f : Field} (hf : f.hi < 30) (hlo : f.lo ≤ f.hi) :
    (s.takeLog Reg.CLK_TRIP_LOG p).fld Reg.CLK_TRIP_LOG f = fieldGet p.word f := by
  have hreg : (s.takeLog Reg.CLK_TRIP_LOG p).reg Reg.CLK_TRIP_LOG = (s.reg Reg.CLK_TRIP_LOG &&& 0x40000000) ||| p.word ||| 0x80000000 := by
    unfold State.takeLog
    rw [hcomp, hint, hmore, if_pos h]
    exact s.reg_setReg_same _ _
  rw [State.fld, hreg]
  apply Nat.eq_of_testBit_eq
  intro j
  rw [fieldGet_testBit, fieldGet_testBit]
  by_cases hj : j < f.width
  · have hlow : f.lo + j < 30 := by simp only [Field.width] at hj; omega
    rw [BitVec.getLsbD_or, BitVec.getLsbD_or, BitVec.getLsbD_and, more_getLsbD_low _ hlow, valid_getLsbD_low _ hlow, Bool.and_false,
      Bool.false_or, Bool.or_false]
  · simp [hj]

/-- A trip whose log stands empty is recorded with its source and cause (R437). -/
theorem State.logTrip_of_quiet (h : s.logQuiet Reg.CLK_TRIP_LOG = true) (k cause : Nat) : ∃ p : LogPend, 
    p.word = BitVec.ofNat 32 (k * 2 ^ 8 + cause % 2) ∧ p.comp = [] ∧ p.int = none ∧ p.more = false ∧ 
    s.logTrip k cause = s.takeLog Reg.CLK_TRIP_LOG p := by
  refine ⟨⟨s.now, 0, BitVec.ofNat 32 (k * 2 ^ 8 + cause % 2), [], none, false, s.now, false, false⟩, rfl, rfl, rfl, rfl, ?_⟩
  unfold State.logTrip State.logEvent
  dsimp only
  split
  · rename_i p hp
    rw [State.logQuiet, hp] at h
    rw [if_pos (show p.cyc ≠ s.now by simp at h; exact h.1)]
  · rfl

theorem State.logTrip_source (h : s.logQuiet Reg.CLK_TRIP_LOG = true) (hempty : s.fld Reg.CLK_TRIP_LOG logValid = 0) {k : Nat} (hk : k < 4)
    (cause : Nat) : (s.logTrip k cause).fld Reg.CLK_TRIP_LOG Fld.CLK_TRIP_LOG_SRC = k := by
  obtain ⟨p, hword, hcomp, hint, hmore, hlog⟩ := s.logTrip_of_quiet h k cause
  rw [hlog, State.takeLog_fld hempty hcomp hint hmore (by decide) (by decide), hword, fieldGet, BitVec.toNat_ofNat]
  show (k * 2 ^ 8 + cause % 2) % 2 ^ 32 / 2 ^ 8 % 2 ^ 2 = k
  omega

theorem State.logTrip_cause (h : s.logQuiet Reg.CLK_TRIP_LOG = true) (hempty : s.fld Reg.CLK_TRIP_LOG logValid = 0) (k cause : Nat) :
    (s.logTrip k cause).fld Reg.CLK_TRIP_LOG Fld.CLK_TRIP_LOG_CAUSE = cause % 2 := by
  obtain ⟨p, hword, hcomp, hint, hmore, hlog⟩ := s.logTrip_of_quiet h k cause
  rw [hlog, State.takeLog_fld hempty hcomp hint hmore (by decide) (by decide), hword, fieldGet, BitVec.toNat_ofNat]
  show (k * 2 ^ 8 + cause % 2) % 2 ^ 32 / 2 ^ 0 % 2 ^ 1 = cause % 2
  omega

/-! ### A trip (R437–R439) -/

/-- The root releases its source and coasts (R438). -/
def State.release (s : State) : State :=
  (((s.setFld Reg.CLK_INT_STATUS Fld.CLK_INT_STATUS_TRIP 1).setFld Reg.CLK_STATUS Fld.CLK_STATUS_COAST 1).setFld
    Reg.CLK_STATUS Fld.CLK_STATUS_LOCK 0).setFld Reg.CLK_STATUS Fld.CLK_STATUS_LANE_HOLD 1

/-- A fallback is owed for the trip of source `k`, if there are fallbacks (R439). -/
def State.oweFallback (s : State) (k : Nat) : State :=
  let auto := s.bit Reg.CLK_CTL Fld.CLK_CTL_AUTO_FALLBACK
  let s := s.setClk { s.clk with tripped := k, fb := auto, holdEnd := none }
  (if auto then s.setFld Reg.CLK_CTL Fld.CLK_CTL_INT_EN 1 else s).showWait

theorem State.clockTrip_eq (s : State) (k cause : Nat) : s.clockTrip k cause = ((s.logTrip k cause).release).oweFallback k := rfl

theorem State.oweFallback_clk (s : State) (k : Nat) : (s.oweFallback k).clk =
    { s.clk with tripped := k, fb := s.bit Reg.CLK_CTL Fld.CLK_CTL_AUTO_FALLBACK, holdEnd := none } := by
  unfold State.oweFallback
  cases s.bit Reg.CLK_CTL Fld.CLK_CTL_AUTO_FALLBACK <;> rfl

theorem State.keepsBut_oweFallback (s : State) (k : Nat) : s.KeepsBut (s.oweFallback k) [Reg.CLK_STATUS, Reg.CLK_CTL] := by
  unfold State.oweFallback
  dsimp only
  split
  · exact State.KeepsBut.refl.setClk.setFld.setFld
  · exact State.KeepsBut.refl.setClk.setFld

/-- The fallback that is owed shows in CLK_STATUS by FB_WAIT alone. -/
theorem State.oweFallback_status (s : State) (k : Nat) {f : Field} (hf : f.lo + f.width ≤ 27 ∨ 28 ≤ f.lo) (hw : f.lo + f.width ≤ 32) :
    (s.oweFallback k).fld Reg.CLK_STATUS f = s.fld Reg.CLK_STATUS f := by
  unfold State.oweFallback State.showWait
  dsimp only
  rw [State.fld_setFld_other _ _ _ f _ hw hf]
  split
  · exact State.fld_setFld_ne _ _ _ _ (by decide)
  · rfl

theorem State.oweFallback_status_bit (s : State) (k : Nat) {f : Field} (hf : f.lo + f.width ≤ 27 ∨ 28 ≤ f.lo) (hw : f.lo + f.width ≤ 32) :
    (s.oweFallback k).bit Reg.CLK_STATUS f = s.bit Reg.CLK_STATUS f := by
  rw [State.bit, State.bit, s.oweFallback_status k hf hw]

theorem State.keepsBut_release (s : State) : s.KeepsBut s.release [Reg.CLK_INT_STATUS, Reg.CLK_STATUS] :=
  State.KeepsBut.refl.setFld.setFld.setFld.setFld

theorem State.release_clk (s : State) : s.release.clk = s.clk := rfl

theorem State.clockTrip_status (h : s.tripLogOwn) (k cause : Nat) {f : Field} (hf : f.lo + f.width ≤ 27) :
    (s.clockTrip k cause).fld Reg.CLK_STATUS f = s.fld Reg.CLK_STATUS f := by
  have hother (u : State) (g : Field) (n : Nat) (hg : 28 ≤ g.lo) : (u.setFld Reg.CLK_STATUS g n).fld Reg.CLK_STATUS f = u.fld Reg.CLK_STATUS f :=
    u.fld_setFld_other _ g f n (by omega) (.inl (by omega))
  rw [State.clockTrip_eq, State.oweFallback_status _ _ (.inl hf) (by omega), State.release, hother _ _ _ (by decide), hother _ _ _ (by decide),
    hother _ _ _ (by decide), State.fld_setFld_ne _ _ _ _ (by decide), (State.tripLogged_logTrip h k cause).keeps.fld f (by decide)]

theorem State.clockTrip_coast (s : State) (k cause : Nat) : (s.clockTrip k cause).bit Reg.CLK_STATUS Fld.CLK_STATUS_COAST = true := by
  rw [State.clockTrip_eq, State.oweFallback_status_bit _ _ (by decide) (by decide)]
  simp (disch := decide) [State.release, State.bit_setFld_other, State.bit_setFld_same]

theorem State.clockTrip_rootLocked (s : State) (k cause : Nat) : (s.clockTrip k cause).rootLocked = false := by
  rw [State.clockTrip_eq, State.rootLocked, State.oweFallback_status_bit _ _ (by decide) (by decide)]
  simp (disch := decide) [State.release, State.bit_setFld_other, State.bit_setFld_same]

theorem State.clockTrip_laneHold (s : State) (k cause : Nat) : (s.clockTrip k cause).bit Reg.CLK_STATUS Fld.CLK_STATUS_LANE_HOLD = true := by
  rw [State.clockTrip_eq, State.oweFallback_status_bit _ _ (by decide) (by decide)]
  exact State.bit_setFld_same _ _ _ _ (by decide) (by decide)

theorem State.clockTrip_trip (s : State) (k cause : Nat) : (s.clockTrip k cause).bit Reg.CLK_INT_STATUS Fld.CLK_INT_STATUS_TRIP = true := by
  rw [State.clockTrip_eq, (State.keepsBut_oweFallback _ k).bit _ (by decide)]
  simp (disch := decide) [State.release, State.bit_setFld_ne, State.bit_setFld_same]

theorem State.clockTrip_clk (h : s.tripLogOwn) (k cause : Nat) : (s.clockTrip k cause).clk =
    { s.clk with tripped := k, fb := s.bit Reg.CLK_CTL Fld.CLK_CTL_AUTO_FALLBACK, holdEnd := none } := by
  have hlog := State.tripLogged_logTrip h k cause
  rw [State.clockTrip_eq, State.oweFallback_clk, State.release_clk, (State.keepsBut_release _).bit _ (by decide), hlog.clk,
    hlog.keeps.bit _ (by decide)]

theorem State.keepsBut_clockTrip (h : s.tripLogOwn) (k cause : Nat) :
    s.KeepsBut (s.clockTrip k cause) [Reg.CLK_TRIP_LOG, Reg.CLK_INT_STATUS, Reg.CLK_STATUS, Reg.CLK_CTL] :=
  (((State.tripLogged_logTrip h k cause).keeps.mono (by simp)).trans ((State.keepsBut_release _).mono (by simp))).trans
    ((State.keepsBut_oweFallback _ k).mono (by simp))

/-- What a trip does to CLK_TRIP_LOG is the record. -/
theorem State.clockTrip_log (s : State) (k cause : Nat) (f : Field) :
    (s.clockTrip k cause).fld Reg.CLK_TRIP_LOG f = (s.logTrip k cause).fld Reg.CLK_TRIP_LOG f := by
  rw [State.clockTrip_eq, (State.keepsBut_oweFallback _ k).fld f (by decide), (State.keepsBut_release _).fld f (by decide)]

/-- R437–R439: at a trip the root coasts, and the log takes the source. -/
theorem exec_clockTrip {t cause : Nat} (h : a = s.advance t) (htrip : a.mayTrip cause = true) (hquiet : a.logQuiet Reg.CLK_TRIP_LOG = true) :
    ∃ u, exec (.clockTrip t cause) s = .next u ∧ u.bit Reg.CLK_STATUS Fld.CLK_STATUS_COAST = true ∧ u.rootLocked = false ∧
      u.bit Reg.CLK_STATUS Fld.CLK_STATUS_LANE_HOLD = true ∧ u.bit Reg.CLK_INT_STATUS Fld.CLK_INT_STATUS_TRIP = true ∧
      u.clk.tripped = a.clkInForce ∧ u.clk.fb = a.bit Reg.CLK_CTL Fld.CLK_CTL_AUTO_FALLBACK ∧ u.clkInForce = a.clkInForce ∧
      (a.fld Reg.CLK_TRIP_LOG logValid = 0 →
        u.fld Reg.CLK_TRIP_LOG Fld.CLK_TRIP_LOG_SRC = a.clkInForce ∧ u.fld Reg.CLK_TRIP_LOG Fld.CLK_TRIP_LOG_CAUSE = cause % 2) ∧
      a.keepsRegs u [Reg.CLK_TRIP_LOG, Reg.CLK_INT_STATUS, Reg.CLK_STATUS, Reg.CLK_CTL] ∧ a.keepsMem u := by
  have hnext : exec (.clockTrip t cause) s = .next (a.clockTrip a.clkInForce cause) := by
    subst h
    exact congrArg Host.Outcome.next (if_pos htrip)
  have hown := State.tripLogOwn_of_logQuiet hquiet
  have hclk := State.clockTrip_clk hown a.clkInForce cause
  have hkeeps := State.keepsBut_clockTrip hown a.clkInForce cause
  have hforce : a.clkInForce < 4 := Nat.mod_lt _ (by decide)
  refine ⟨_, hnext, a.clockTrip_coast _ _, a.clockTrip_rootLocked _ _, a.clockTrip_laneHold _ _, a.clockTrip_trip _ _, by rw [hclk], by rw [hclk],
    State.clockTrip_status hown _ _ (by decide), fun hempty => ⟨?_, ?_⟩, hkeeps.regs, hkeeps.mem⟩
  · rw [State.clockTrip_log, State.logTrip_source hquiet hempty hforce]
  · rw [State.clockTrip_log, State.logTrip_cause hquiet hempty]

/-! ### A switch ends (R442) -/

/-- The switch to source `k` is over, and the root follows that source. -/
def State.endSwitch (s : State) (k : Nat) : State :=
  ((((s.setClk { s.clk with switch := none }).setFld Reg.CLK_STATUS Fld.CLK_STATUS_SWITCHING 0).setFld
    Reg.CLK_SRC_RESULT Fld.CLK_SRC_RESULT_DONE 1).setFld Reg.CLK_INT_STATUS Fld.CLK_INT_STATUS_SWITCH_DONE 1).setFld
    Reg.CLK_STATUS Fld.CLK_STATUS_SRC k

/-- The root locks to source `k`: the lanes leave holdover where it is a chassis or local reference (R436). -/
def State.lockRoot (s : State) (k : Nat) : State :=
  ((s.setFld Reg.CLK_STATUS Fld.CLK_STATUS_COAST 0).setFld Reg.CLK_STATUS Fld.CLK_STATUS_LOCK 1).setClk
    { s.clk with holdEnd := if k ≤ 1 then some (s.now + holdoverTime) else none }

/-- RELOCK is set where the root was coasting. -/
def State.noteRelock (s : State) (coasting : Bool) : State :=
  if coasting then s.setFld Reg.CLK_INT_STATUS Fld.CLK_INT_STATUS_RELOCK 1 else s

theorem State.switchEnd_locked {x : ClkSwitch} (hx : s.clk.switch = some x) (cause : Nat) :
    ∃ c, s.switchEnd true cause = ((s.endSwitch x.target).noteRelock c).lockRoot x.target := by
  rw [State.switchEnd, hx]
  exact ⟨_, rfl⟩

theorem State.switchEnd_failed {x : ClkSwitch} (hx : s.clk.switch = some x) (cause : Nat) : s.switchEnd false cause =
    ((s.endSwitch x.target).setFld Reg.CLK_SRC_RESULT Fld.CLK_SRC_RESULT_OUTCOME 4).clockTrip x.target cause := by
  rw [State.switchEnd, hx]
  rfl

theorem State.endSwitch_clk (s : State) (k : Nat) : (s.endSwitch k).clk = { s.clk with switch := none } := rfl
theorem State.endSwitch_now (s : State) (k : Nat) : (s.endSwitch k).now = s.now := rfl

theorem State.endSwitch_clkInForce (s : State) {k : Nat} (hk : k < 3) : (s.endSwitch k).clkInForce = k :=
  (State.fld_setFld_same _ _ _ _ (by decide)).trans (Nat.mod_eq_of_lt (show k < 4 by omega))

theorem State.endSwitch_switching (s : State) (k : Nat) : (s.endSwitch k).bit Reg.CLK_STATUS Fld.CLK_STATUS_SWITCHING = false := by
  simp (disch := decide) [State.endSwitch, State.bit_setFld_ne, State.bit_setFld_other, State.bit_setFld_same]

theorem State.endSwitch_done (s : State) (k : Nat) : (s.endSwitch k).bit Reg.CLK_SRC_RESULT Fld.CLK_SRC_RESULT_DONE = true := by
  simp (disch := decide) [State.endSwitch, State.bit_setFld_ne, State.bit_setFld_same]

theorem State.keepsBut_endSwitch (s : State) (k : Nat) : s.KeepsBut (s.endSwitch k) [Reg.CLK_STATUS, Reg.CLK_SRC_RESULT, Reg.CLK_INT_STATUS] :=
  State.KeepsBut.refl.setClk.setFld.setFld.setFld.setFld

theorem State.noteRelock_clk (s : State) (c : Bool) : (s.noteRelock c).clk = s.clk := by cases c <;> rfl
theorem State.noteRelock_now (s : State) (c : Bool) : (s.noteRelock c).now = s.now := by cases c <;> rfl

theorem State.keepsBut_noteRelock (s : State) (c : Bool) : s.KeepsBut (s.noteRelock c) [Reg.CLK_INT_STATUS] := by
  cases c
  · exact .refl
  · exact State.KeepsBut.refl.setFld

theorem State.lockRoot_rootLocked (s : State) (k : Nat) : (s.lockRoot k).rootLocked = true := by
  rw [State.rootLocked, State.lockRoot, State.setClk_bit]
  exact State.bit_setFld_same _ _ _ _ (by decide) (by decide)

theorem State.lockRoot_coast (s : State) (k : Nat) : (s.lockRoot k).bit Reg.CLK_STATUS Fld.CLK_STATUS_COAST = false := by
  simp (disch := decide) [State.lockRoot, State.bit_setFld_other, State.bit_setFld_same]

/-- The root that locks changes CLK_STATUS in COAST and LOCK alone. -/
theorem State.lockRoot_fld (s : State) (k : Nat) {f : Field} (hf : f.lo + f.width ≤ 30) :
    (s.lockRoot k).fld Reg.CLK_STATUS f = s.fld Reg.CLK_STATUS f := by
  have hother (u : State) (g : Field) (n : Nat) (hg : 30 ≤ g.lo) : (u.setFld Reg.CLK_STATUS g n).fld Reg.CLK_STATUS f = u.fld Reg.CLK_STATUS f :=
    u.fld_setFld_other _ g f n (by omega) (.inl (by omega))
  rw [State.lockRoot, State.setClk_fld, hother _ _ _ (by decide), hother _ _ _ (by decide)]

theorem State.keepsBut_lockRoot (s : State) (k : Nat) : s.KeepsBut (s.lockRoot k) [Reg.CLK_STATUS] := State.KeepsBut.refl.setFld.setFld.setClk

/-- R442: a switch that reaches LOCK. -/
theorem exec_sourceSwitchLock_locked {t cause : Nat} {x : ClkSwitch} (h : a = s.advance t) (hx : a.clk.switch = some x) (htarget : x.target < 3) :
    ∃ u, exec (.sourceSwitchLock t true cause) s = .next u ∧ u.clkInForce = x.target ∧ u.rootLocked = true ∧
      u.bit Reg.CLK_STATUS Fld.CLK_STATUS_COAST = false ∧ u.bit Reg.CLK_STATUS Fld.CLK_STATUS_SWITCHING = false ∧ u.clk.switch = none ∧
      u.bit Reg.CLK_SRC_RESULT Fld.CLK_SRC_RESULT_DONE = true ∧ u.clk.holdEnd = (if x.target ≤ 1 then some (a.now + holdoverTime) else none) ∧
      a.keepsRegs u [Reg.CLK_STATUS, Reg.CLK_SRC_RESULT, Reg.CLK_INT_STATUS] ∧ a.keepsMem u := by
  obtain ⟨c, hend⟩ := State.switchEnd_locked hx cause
  have hnext : exec (.sourceSwitchLock t true cause) s = .next (((a.endSwitch x.target).noteRelock c).lockRoot x.target) := by
    rw [← hend, h]
    rfl
  have hrelock := (a.endSwitch x.target).keepsBut_noteRelock c
  have hlock := ((a.endSwitch x.target).noteRelock c).keepsBut_lockRoot x.target
  have hkeeps := ((a.keepsBut_endSwitch x.target).trans (hrelock.mono (by simp))).trans (hlock.mono (by simp))
  refine ⟨_, hnext, ?_, State.lockRoot_rootLocked _ _, State.lockRoot_coast _ _, ?_, ?_, ?_, ?_, hkeeps.regs, hkeeps.mem⟩
  · rw [State.clkInForce, State.lockRoot_fld _ _ (by decide), hrelock.fld _ (by decide)]
    exact a.endSwitch_clkInForce htarget
  · rw [State.bit, State.lockRoot_fld _ _ (by decide), hrelock.fld _ (by decide)]
    exact a.endSwitch_switching _
  · rw [State.lockRoot, State.setClk_clk, State.noteRelock_clk, State.endSwitch_clk]
  · rw [hlock.bit _ (by decide), hrelock.bit _ (by decide), State.endSwitch_done]
  · rw [State.lockRoot, State.setClk_clk, State.noteRelock_now, State.endSwitch_now]

/-- The clause on a switch that FAILED (R442) as O42 states it, for the states in which no record of the present edge in CLK_TRIP_LOG writes
beside the log. -/
theorem exec_sourceSwitchLock_failed {t cause : Nat} {x : ClkSwitch} (h : a = s.advance t) (hlog : a.tripLogOwn) (hx : a.clk.switch = some x)
    (htarget : x.target < 3) :
    ∃ u, exec (.sourceSwitchLock t false cause) s = .next u ∧ u.clkInForce = x.target ∧ u.rootLocked = false ∧ u.clk.switch = none ∧
      u.fld Reg.CLK_SRC_RESULT Fld.CLK_SRC_RESULT_OUTCOME = 4 ∧ u.clk.tripped = x.target ∧ a.keepsMem u := by
  have hnext : exec (.sourceSwitchLock t false cause) s = .next (a.switchEnd false cause) := by rw [h]; rfl
  rw [State.switchEnd_failed hx] at hnext
  have hown : ((a.endSwitch x.target).setFld Reg.CLK_SRC_RESULT Fld.CLK_SRC_RESULT_OUTCOME 4).tripLogOwn := hlog
  have hclk := State.clockTrip_clk hown x.target cause
  have htrip := State.keepsBut_clockTrip hown x.target cause
  refine ⟨_, hnext, ?_, State.clockTrip_rootLocked _ _ _, by rw [hclk]; rfl, ?_, by rw [hclk],
    State.keepsMem_trans (a.keepsBut_endSwitch x.target).setFld.mem htrip.mem⟩
  · rw [State.clkInForce, State.clockTrip_status hown _ _ (by decide), State.fld_setFld_ne _ _ _ _ (by decide)]
    exact a.endSwitch_clkInForce htarget
  · rw [htrip.fld _ (by decide)]
    exact State.fld_setFld_same _ _ _ _ (by decide)

/-! ### Holdover ends (R436) -/

theorem State.holdoverEnd_eq {e : Nat} (he : s.clk.holdEnd = some e) (hdue : e ≤ s.now) :
    s.holdoverEnd = (s.setFld Reg.CLK_STATUS Fld.CLK_STATUS_LANE_HOLD 0).setClk { s.clk with holdEnd := none } := by
  rw [State.holdoverEnd, he]
  exact if_pos hdue

/-- R436: the lanes leave holdover when its time is over. -/
theorem exec_laneHoldoverEnd {t e : Nat} (h : a = s.advance t) (he : a.clk.holdEnd = some e) (hdue : e ≤ a.now) :
    ∃ u, exec (.laneHoldoverEnd t) s = .next u ∧ u.bit Reg.CLK_STATUS Fld.CLK_STATUS_LANE_HOLD = false ∧ u.clk.holdEnd = none ∧
      a.keepsRegs u [Reg.CLK_STATUS] ∧ a.keepsMem u := by
  have hnext : exec (.laneHoldoverEnd t) s = .next a.holdoverEnd := by rw [h]; rfl
  rw [State.holdoverEnd_eq he hdue] at hnext
  have hkeeps := (State.KeepsBut.refl (a := a) (l := [Reg.CLK_STATUS])).setFld (o := Reg.CLK_STATUS) (f := Fld.CLK_STATUS_LANE_HOLD) (n := 0)
  refine ⟨_, hnext, ?_, rfl, hkeeps.setClk.regs, hkeeps.setClk.mem⟩
  rw [State.setClk_bit]
  exact State.bit_setFld_same _ _ _ _ (by decide) (by decide)

/-! ### INT_EN (R443) -/

/-- The fields of CLK_CTL but INT_EN take what is written. -/
def State.writeClkCtl (s : State) (n : Nat) : State :=
  ((s.setFld Reg.CLK_CTL Fld.CLK_CTL_PREF (n / 2 ^ 6)).setFld Reg.CLK_CTL Fld.CLK_CTL_AUTO_RETURN (n / 2)).setFld
    Reg.CLK_CTL Fld.CLK_CTL_AUTO_FALLBACK n

/-- The internal oscillator is in force or the target of a switch, or a fallback waits. -/
def State.needsInternal (s : State) : Prop := s.clkInForce = 2 ∨ (∃ x, s.clk.switch = some x ∧ x.target = 2) ∨ s.clk.fb = true

theorem State.keepsBut_writeClkCtl (s : State) (n : Nat) : s.KeepsBut (s.writeClkCtl n) [Reg.CLK_CTL] := State.KeepsBut.refl.setFld.setFld.setFld

theorem State.writeClkCtl_clk (s : State) (n : Nat) : (s.writeClkCtl n).clk = s.clk := rfl

theorem State.needsInternal_writeClkCtl (n : Nat) : (s.writeClkCtl n).needsInternal ↔ s.needsInternal := by
  rw [State.needsInternal, State.needsInternal, State.writeClkCtl_clk, State.clkInForce, State.clkInForce,
    (s.keepsBut_writeClkCtl n).fld _ (by decide)]

theorem State.clkCtlWrite_eq_ite (s : State) (n : Nat) : s.clkCtlWrite n =
    if n.testBit 2 then (s.writeClkCtl n).setFld Reg.CLK_CTL Fld.CLK_CTL_INT_EN 1
    else if (s.writeClkCtl n).clkInForce = 2 ∨ s.clk.switch.any (fun x => x.target == 2) ∨ s.clk.fb then
      (s.writeClkCtl n).setFld Reg.CLK_INT_STATUS Fld.CLK_INT_STATUS_INT_REFUSED 1
    else ((s.writeClkCtl n).setFld Reg.CLK_CTL Fld.CLK_CTL_INT_EN 0).sourceLost 2 := rfl

theorem State.needsInternal_iff (s : State) :
    s.needsInternal ↔ s.clkInForce = 2 ∨ s.clk.switch.any (fun x => x.target == 2) = true ∨ s.clk.fb = true := by
  simp [State.needsInternal, Option.any_eq_true]

theorem State.clkCtlWrite_enables {n : Nat} (hn : n.testBit 2 = true) :
    s.clkCtlWrite n = (s.writeClkCtl n).setFld Reg.CLK_CTL Fld.CLK_CTL_INT_EN 1 := by rw [State.clkCtlWrite_eq_ite, if_pos hn]

theorem State.clkCtlWrite_refused {n : Nat} (hn : n.testBit 2 = false) (hneed : s.needsInternal) :
    s.clkCtlWrite n = (s.writeClkCtl n).setFld Reg.CLK_INT_STATUS Fld.CLK_INT_STATUS_INT_REFUSED 1 := by
  rw [State.clkCtlWrite_eq_ite, if_neg (by simp [hn])]
  exact if_pos ((State.needsInternal_iff _).1 ((State.needsInternal_writeClkCtl n).2 hneed))

theorem State.clkCtlWrite_stops {n : Nat} (hn : n.testBit 2 = false) (hneed : ¬ s.needsInternal) :
    s.clkCtlWrite n = ((s.writeClkCtl n).setFld Reg.CLK_CTL Fld.CLK_CTL_INT_EN 0).sourceLost 2 := by
  rw [State.clkCtlWrite_eq_ite, if_neg (by simp [hn])]
  exact if_neg (mt (fun h => (State.needsInternal_writeClkCtl n).1 ((State.needsInternal_iff _).2 h)) hneed)

theorem State.writeClkCtl_pref (s : State) (n : Nat) : (s.writeClkCtl n).fld Reg.CLK_CTL Fld.CLK_CTL_PREF = n / 2 ^ 6 % 4 := by
  rw [State.writeClkCtl, State.fld_setFld_other _ _ _ _ _ (by decide) (by decide), State.fld_setFld_other _ _ _ _ _ (by decide) (by decide)]
  exact State.fld_setFld_same _ _ _ _ (by decide)

theorem State.writeClkCtl_autoFallback (s : State) (n : Nat) :
    (s.writeClkCtl n).bit Reg.CLK_CTL Fld.CLK_CTL_AUTO_FALLBACK = n.testBit 0 := State.bit_setFld_same _ _ _ _ (by decide) (by decide)

theorem State.writeClkCtl_intEn (s : State) (n : Nat) :
    (s.writeClkCtl n).bit Reg.CLK_CTL Fld.CLK_CTL_INT_EN = s.bit Reg.CLK_CTL Fld.CLK_CTL_INT_EN := by
  simp (disch := decide) [State.writeClkCtl, State.bit_setFld_other]

theorem exec_intEnWrite {t src : Nat} (h : Acts s t src Reg.CLK_CTL a) (n : Nat) : exec (.intEnWrite t src n) s = .next (a.clkCtlWrite n) :=
  congrArg Host.Outcome.next (h.ctlWrite _)

/-- R443: INT_EN = 1 is taken, with the other fields of CLK_CTL. -/
theorem exec_intEnWrite_enables {t src n : Nat} (h : Acts s t src Reg.CLK_CTL a) (hn : n.testBit 2 = true) :
    ∃ u, exec (.intEnWrite t src n) s = .next u ∧ u.bit Reg.CLK_CTL Fld.CLK_CTL_INT_EN = true ∧
      u.fld Reg.CLK_CTL Fld.CLK_CTL_PREF = n / 2 ^ 6 % 4 ∧ u.bit Reg.CLK_CTL Fld.CLK_CTL_AUTO_FALLBACK = n.testBit 0 ∧
      a.keepsRegs u [Reg.CLK_CTL] ∧ a.keepsMem u := by
  have hkeeps := (a.keepsBut_writeClkCtl n).setFld (o := Reg.CLK_CTL) (f := Fld.CLK_CTL_INT_EN) (n := 1)
  refine ⟨_, (exec_intEnWrite h n).trans (congrArg Host.Outcome.next (State.clkCtlWrite_enables hn)),
    State.bit_setFld_same _ _ _ _ (by decide) (by decide), ?_, ?_, hkeeps.regs, hkeeps.mem⟩
  · rw [State.fld_setFld_other _ _ _ _ _ (by decide) (by decide), State.writeClkCtl_pref]
  · rw [State.bit_setFld_other _ _ _ _ _ (by decide) (by decide), State.writeClkCtl_autoFallback]

/-- R443: INT_EN = 0 is refused while the internal oscillator is needed. -/
theorem exec_intEnWrite_refused {t src n : Nat} (h : Acts s t src Reg.CLK_CTL a) (hn : n.testBit 2 = false) (hneed : a.needsInternal) :
    ∃ u, exec (.intEnWrite t src n) s = .next u ∧ u.bit Reg.CLK_CTL Fld.CLK_CTL_INT_EN = a.bit Reg.CLK_CTL Fld.CLK_CTL_INT_EN ∧
      u.bit Reg.CLK_INT_STATUS Fld.CLK_INT_STATUS_INT_REFUSED = true ∧
      a.keepsRegs u [Reg.CLK_CTL, Reg.CLK_INT_STATUS] ∧ a.keepsMem u := by
  have hwrite : a.KeepsBut (a.writeClkCtl n) [Reg.CLK_CTL, Reg.CLK_INT_STATUS] := (a.keepsBut_writeClkCtl n).mono (by simp)
  have hkeeps := hwrite.setFld (o := Reg.CLK_INT_STATUS) (f := Fld.CLK_INT_STATUS_INT_REFUSED) (n := 1)
  refine ⟨_, (exec_intEnWrite h n).trans (congrArg Host.Outcome.next (State.clkCtlWrite_refused hn hneed)), ?_,
    State.bit_setFld_same _ _ _ _ (by decide) (by decide), hkeeps.regs, hkeeps.mem⟩
  rw [State.bit_setFld_ne _ _ _ _ (by decide), State.writeClkCtl_intEn]

/-- R443: otherwise the internal oscillator stops, and is not ready. -/
theorem exec_intEnWrite_stops {t src n : Nat} (h : Acts s t src Reg.CLK_CTL a) (hn : n.testBit 2 = false) (hneed : ¬ a.needsInternal) :
    ∃ u, exec (.intEnWrite t src n) s = .next u ∧ u.bit Reg.CLK_CTL Fld.CLK_CTL_INT_EN = false ∧ u.srcReady 2 = false ∧
      a.keepsRegs u [Reg.CLK_CTL, Reg.CLK_STATUS] ∧ a.keepsMem u := by
  have hwrite : a.KeepsBut (a.writeClkCtl n) [Reg.CLK_CTL, Reg.CLK_STATUS] := (a.keepsBut_writeClkCtl n).mono (by simp)
  have hlost (u : State) : u.KeepsBut (u.sourceLost 2) [Reg.CLK_STATUS] := u.keepsBut_sourceLost (by decide)
  have hkeeps := (hwrite.setFld (o := Reg.CLK_CTL) (f := Fld.CLK_CTL_INT_EN) (n := 0)).trans ((hlost _).mono (by simp))
  refine ⟨_, (exec_intEnWrite h n).trans (congrArg Host.Outcome.next (State.clkCtlWrite_stops hn hneed)), ?_,
    State.sourceLost_srcReady (by decide), hkeeps.regs, hkeeps.mem⟩
  rw [(hlost _).bit _ (by decide)]
  exact State.bit_setFld_same _ _ _ _ (by decide) (by decide)

end Sys2Proof.Machine
end
